-- ==== Sys2Proof/Word.lean ====
section
/-! DEFINITION. The byte, and the 32-bit bound of the counters. -/

namespace Sys2Proof

/-- One byte of a frame or record (11_frame_and_record_layouts.md: "Sizes are in bytes"). -/
abbrev Byte := BitVec 8

/-- Where every counter stops (00_scope.md, Numbers and units: "When a counter reaches 4,294,967,295 it
stays there"). -/
abbrev counterMax : Nat := 4294967295

end Sys2Proof
end

