-- ==== Sys2Proof/Syntax.lean ====
section
/-! DEFINITION. The commands the part takes: one constructor per row of spec/opcode_table.json. -/

namespace Sys2Proof

/-- The header of a received frame (R159, R184), with the port it arrived on. Version, kind and length are told
by the command the frame is. -/
structure Hdr where
  port : Fin 9
  dst  : BitVec 16
  src  : BitVec 16
  hop  : Byte
  tag  : Byte
  deriving DecidableEq, Repr

/-- The three kinds of management frame (R159). -/
inductive MgmtKind where
  | request | response | event
  deriving DecidableEq, Repr

/-- The two kinds of management frame that are not requests. -/
inductive ReplyKind where
  | response | event
  deriving DecidableEq, Repr

/-- What an element answers a transaction (R146): ACK alone, ACK with a power, ACK marked below floor, or NAK. -/
inductive Answer where
  | ack | power (p : BitVec 16) | belowFloor | nak
  deriving DecidableEq, Repr

/-- One command. A frame's `body` is what stands between its header and its CRC. A request's `params` are the
bytes that follow its request code, and for a TABLE WRITE those that follow its table code (index major, index
minor, record). -/
inductive Instr where
  /-- Power-on reset with the sixteen strap pins reading `straps`. -/
  | powerOnReset (straps : BitVec 16)
  | signalPresent (p : Fin 8)
  | signalLost (p : Fin 8)
  | carrierPresent
  | carrierLost
  /-- The tap receiver of face `f` reports a burst of pilot code `code`. -/
  | burstReport (f : Fin 12) (code : BitVec 12)
  /-- A frame has been received whole: every byte of it, CRC included. -/
  | rxFrameRejected (port : Fin 9) (bytes : List Byte)
  | hello (h : Hdr) (body : List Byte)
  | setup (h : Hdr) (body : List Byte)
  | setupAck (h : Hdr) (body : List Byte)
  | setupReject (h : Hdr) (body : List Byte)
  | probe (h : Hdr) (body : List Byte)
  | probeAck (h : Hdr) (body : List Byte)
  | probeNak (h : Hdr) (body : List Byte)
  | advance (h : Hdr) (body : List Byte)
  | ready (h : Hdr) (body : List Byte)
  | fault (h : Hdr) (body : List Byte)
  | teardown (h : Hdr) (body : List Byte)
  | forwarding (h : Hdr) (kind : MgmtKind) (body : List Byte)
  | responseEventDelivery (h : Hdr) (kind : ReplyKind) (body : List Byte)
  | unknownRequestCode (h : Hdr) (body : List Byte)
  | tableRead (h : Hdr) (params : List Byte)
  | faceDescriptorWrite (h : Hdr) (params : List Byte)
  | blockDescriptorWrite (h : Hdr) (params : List Byte)
  | slotEntryWrite (h : Hdr) (params : List Byte)
  | faceSettingsWrite (h : Hdr) (params : List Byte)
  | profileWrite (h : Hdr) (params : List Byte)
  | elementWrite (h : Hdr) (params : List Byte)
  | routeWrite (h : Hdr) (params : List Byte)
  | nodeSettingsWrite (h : Hdr) (params : List Byte)
  | flagsClear (h : Hdr) (params : List Byte)
  | commission (h : Hdr) (params : List Byte)
  | withdraw (h : Hdr) (params : List Byte)
  | adopt (h : Hdr) (params : List Byte)
  | contextRead (h : Hdr) (params : List Byte)
  | contextList (h : Hdr) (params : List Byte)
  | contextDiscard (h : Hdr) (params : List Byte)
  | elementRead (h : Hdr) (params : List Byte)
  | elementRevive (h : Hdr) (params : List Byte)
  | capabilityIdentify (h : Hdr) (params : List Byte)
  | capabilitySet (h : Hdr) (params : List Byte)
  | capabilityRestore (h : Hdr) (params : List Byte)
  | capabilityFreeze (h : Hdr) (params : List Byte)
  | countersRead (h : Hdr) (params : List Byte)
  | nodeReset (h : Hdr) (params : List Byte)
  | helloTimerExpiry (p : Fin 8)
  | deadTimerExpiry (p : Fin 8)
  /-- The deadline of the record at `handle`, tagged with `inst` (R36). -/
  | deadlineExpiry (handle : Fin 256) (inst : Nat)
  | probeDwellExpiry (handle : Fin 256) (inst : Nat)
  | probeWindowExpiry (handle : Fin 256) (inst : Nat)
  | stepDwellExpiry (handle : Fin 256) (inst : Nat)
  | auditTimerExpiry (f : Fin 12)
  | settlePeriodEnd (e : Fin 32)
  | turnaroundEnd
  /-- The answer `a` to the transaction whose serial number is `txn` (log entry 4). -/
  | elementAnswer (txn : Nat) (a : Answer)
  | responseTimeout
  | transmissionEnd (p : Fin 9)
  deriving DecidableEq, Repr

end Sys2Proof
end

