-- ==== Sys2Proof/Config.lean ====
section
/-! DEFINITION. What is fixed in the part, and the free values: constants with no body, for the values the
spec does not state. -/

namespace Sys2Proof.Config

/-- DESIGN CHOICE (log entry 5): the header tag of a frame the part builds itself and that answers no request.
R159 gives the tag a meaning for MGMT-REQUEST and MGMT-RESPONSE only. -/
opaque ownFrameTag : Byte

/-- DESIGN CHOICE (log entry 6): the request code echoed in the BAD_REQUEST response to a MGMT-REQUEST whose
body is empty, so that there is no code to echo (R172, R186). -/
opaque missingCodeEcho : Byte

/-- DESIGN CHOICE (log entry 7): the status of an ADOPT that names lightpath ID 0. R24 says no record holds
that ID; R41 gives no check for it. -/
opaque adoptZeroIdStatus : Byte

/-- DESIGN CHOICE (log entry 8): the two bytes of the power field of an ELEMENT READ answered with the
below-floor mark (R156 gives the mark only). -/
opaque belowFloorPower : BitVec 16

/-- DESIGN CHOICE (log entry 11): the five bytes of the record in the BAD_VALUE response to a SLOT ENTRY write
whose slot no present block governs, so that there is no record as it stands (R14, section 11.4). -/
opaque absentSlotRecord : BitVec 40

/-- R174: the factory record's concurrency limit. -/
def factoryConcurrency : Nat := 16
/-- R174: the factory record's span limit. -/
def factorySpan : Nat := 16
/-- R174: the factory record's step ceiling. -/
def factoryStepCeiling : Nat := 300

/-- R169: frames an URGENT queue holds. -/
def urgentCapacity : Nat := 16
/-- R169: frames a BULK queue holds. -/
def bulkCapacity : Nat := 32

/-- R37, Law 3: the most contexts in a state other than FREE and IN_SERVICE. -/
def activeMax : Nat := 16

/-- R94: the density table T[n], in 0.01 dB, for a span count n of 1 to 16. -/
def density : Nat → Int
  | 1 => 0 | 2 => 301 | 3 => 477 | 4 => 602 | 5 => 699 | 6 => 778 | 7 => 845 | 8 => 903
  | 9 => 954 | 10 => 1000 | 11 => 1041 | 12 => 1079 | 13 => 1114 | 14 => 1146 | 15 => 1176 | 16 => 1204
  | _ => 0

/-- The node ID meaning "whichever node receives the frame" (00_scope.md, Identifiers). -/
def adjacent : Nat := 65535

/-- How many results and judgements one take may hand on (the bound of `runWork`; a take of the part never
comes near it, log entry 2). -/
def workFuel : Nat := 20000

end Sys2Proof.Config
end

