-- ==== Sys2Proof/Machine/Tab.lean ====
section
/-! DEFINITION. A table of records by number, held as the records that differ from the power-on record. -/

namespace Sys2Proof.Machine

/-- A table whose record at every number is `d` after power-on: the list of (number, record) pairs that differ
from `d`, numbers strictly rising. -/
structure Tab {α : Type} (d : α) where
  cells : List (Nat × α)
  deriving DecidableEq, Repr

/-- The record listed at number `k`, if one is listed. -/
def Tab.lookup {α : Type} : List (Nat × α) → Nat → Option α
  | [], _ => none
  | (j, v) :: r, k => if j = k then some v else Tab.lookup r k

/-- The record at number `k`. -/
def Tab.get {α : Type} {d : α} (t : Tab d) (k : Nat) : α := (Tab.lookup t.cells k).getD d

/-- The list with the record at `k` made `v`. -/
def Tab.insert {α : Type} (k : Nat) (v : α) : List (Nat × α) → List (Nat × α)
  | [] => [(k, v)]
  | (j, w) :: r =>
    if k < j then (k, v) :: (j, w) :: r
    else if k = j then (k, v) :: r
    else (j, w) :: Tab.insert k v r

/-- The list with no record at `k`. -/
def Tab.erase {α : Type} (k : Nat) (l : List (Nat × α)) : List (Nat × α) := l.filter (fun c => c.1 ≠ k)

/-- The table with the record at `k` made `v`; the form stays canonical (a record equal to the power-on record
is not listed). -/
def Tab.set {α : Type} [DecidableEq α] {d : α} (t : Tab d) (k : Nat) (v : α) : Tab d :=
  if v = d then ⟨Tab.erase k t.cells⟩ else ⟨Tab.insert k v (Tab.erase k t.cells)⟩

/-- The table with the record at `k` changed by `g`. -/
def Tab.mod {α : Type} [DecidableEq α] {d : α} (t : Tab d) (k : Nat) (g : α → α) : Tab d := t.set k (g (t.get k))

/-- The table as it stands after power-on. -/
def Tab.empty {α : Type} (d : α) : Tab d := ⟨[]⟩

/-- The canonical form: numbers strictly rising, no listed record equal to the power-on record. -/
abbrev Tab.wf {α : Type} {d : α} (t : Tab d) : Prop :=
  t.cells.Pairwise (fun a b => a.1 < b.1) ∧ ∀ c ∈ t.cells, c.2 ≠ d

end Sys2Proof.Machine
end

