-- ==== Sys2Proof/Machine/Types.lean ====
section
/-! DEFINITION. The named things of the spec and the records of its tables. -/

namespace Sys2Proof.Machine

/-- Origin classes (00_scope.md, Origin classes). -/
inductive OriginClass where
  | planned | restore | maint
  deriving DecidableEq, Repr

/-- Roles (00_scope.md, Roles and directions). -/
inductive Role where
  | head | transit | tail
  deriving DecidableEq, Repr

/-- The states of a record that is not FREE (R34). -/
inductive CtxState where
  | reserved | probing | armed | ramping | settled | inService | withdrawing | faulted
  deriving DecidableEq, Repr

/-- Fault causes (R32). -/
inductive Cause where
  | element | shortfall | excess | overpower | stepExhausted | misroute | linkLoss | setupTimeout | armTimeout
  | readyTimeout | probeUnseen | nodeReset
  deriving DecidableEq, Repr

/-- LOCAL, UPSTREAM, DOWNSTREAM: where a fault was received from (R32) and how a FAULT travels (R113). -/
inductive Direction where
  | here | upstream | downstream
  deriving DecidableEq, Repr

/-- Setup reasons (section 3.7 of 03_path_setup.md). -/
inductive Reason where
  | badPath | miswired | badHop | lpBusy | classBarred | spanLimit | nodeBusy | tableFull | badProfile | pilotInUse
  | notEquipped | guarded | spectrumBusy | noElement
  deriving DecidableEq, Repr

/-- The statuses of a response (section 10.1), a setup reason among them. -/
inductive Status where
  | ok | accepted | clamped | badRequest | badIndex | badValue | inUse | frozen | busy | notFound | notAllowed
  | elementError | refusedFor (r : Reason)
  deriving DecidableEq, Repr

/-- The fourteen kinds of frame (R159). -/
inductive FrameKind where
  | hello | setup | setupAck | setupReject | probe | probeAck | probeNak | advance | ready | fault | teardown
  | mgmtRequest | mgmtResponse | event
  deriving DecidableEq, Repr

/-- Link states of a port (R160). -/
inductive LinkState where
  | down | acquire | up
  deriving DecidableEq, Repr

/-- Element roles and health (R144). -/
inductive ElemRole where
  | none | wss | monitor
  deriving DecidableEq, Repr

inductive Health where
  | ok | suspect | failed
  deriving DecidableEq, Repr

/-- An attenuation: BLOCKED or a number of 0.01 dB (00_scope.md: "BLOCKED is not a number"). -/
inductive Atten where
  | blocked | db (n : Nat)
  deriving DecidableEq, Repr

/-- One allowed/barred flag for each class (R1). -/
structure ClassMask where
  planned : Bool
  restore : Bool
  maint   : Bool
  deriving DecidableEq, Repr

def ClassMask.all : ClassMask := ⟨true, true, true⟩

/-- What a slot entry holds (R3). -/
inductive EntryKind where
  | free | owned (handle : Nat) | indirect (face slot : Nat) | foreign | barred
  deriving DecidableEq, Repr

/-- A face descriptor with the live slot count kept beside it (R1, R12). -/
structure FaceDesc where
  present : Bool
  guard   : Bool
  mask    : ClassMask
  used    : Bool
  live    : Nat
  deriving DecidableEq, Repr

/-- A block descriptor (R2). -/
structure BlockDesc where
  present : Bool
  guard   : Bool
  page    : Nat
  used    : Bool
  deriving DecidableEq, Repr

/-- A slot entry (R3). -/
structure SlotEntry where
  kind     : EntryKind
  used     : Bool
  modified : Bool
  deriving DecidableEq, Repr

/-- R1: the face descriptor after power-on reset. -/
def FaceDesc.initial : FaceDesc := ⟨false, false, ClassMask.all, false, 0⟩
/-- R2: the block descriptor after power-on reset. -/
def BlockDesc.initial : BlockDesc := ⟨false, false, 0, false⟩
/-- R3: the slot entry after power-on reset. -/
def SlotEntry.initial : SlotEntry := ⟨.free, false, false⟩

/-- One node of a path (00_scope.md, Hop). -/
structure Hop where
  node    : Nat
  ingress : Nat
  egress  : Nat
  deriving DecidableEq, Repr

/-- A hop report (R114). A reading of −32768 is the encoding 0x8000 of an absent one. -/
structure HopReport where
  node      : Nat
  atten     : Atten
  reading   : Int
  used      : Nat
  guardHeld : Bool
  deriving DecidableEq, Repr

/-- A pilot watch (R31). -/
structure Watch where
  run      : Nat
  lastRun  : Option Nat
  misrun   : Nat
  lastMis  : Option Nat
  misFace  : Option Nat
  deriving DecidableEq, Repr

/-- R31: the watch as it is created. -/
def Watch.created : Watch := ⟨0, none, 0, none, none⟩

/-- A fault record (R32). -/
structure FaultRec where
  cause       : Cause
  origin      : Nat
  received    : Direction
  unconfirmed : Bool
  deriving DecidableEq, Repr

/-- A drift record (R33). -/
structure DriftRec where
  reading : Int
  drift   : Int
  flag    : Bool
  deriving DecidableEq, Repr

/-- The probe element work the Controller keeps under a handle and instance (R69, R70): the level last asked
for, whether a request is outstanding, what waits, and whether the head is dithering. -/
structure ProbeWork where
  lastLevel   : Option Nat
  outstanding : Bool
  level       : Option Nat
  start       : Bool
  stop        : Bool
  dithering   : Bool
  deriving DecidableEq, Repr

/-- R69: no work at allocation. -/
def ProbeWork.none : ProbeWork := ⟨Option.none, false, Option.none, false, false, false⟩

/-- A record that is not FREE: the fields of R26, R27, R28, the deadline of R35, the optional parts of section
2.3, and what the Controller and the Ramp Engine keep under its handle and instance (`probeTimer`, `work`,
`carried`, `rampHeld`, `rampDwell`). -/
structure Context where
  inst           : Nat
  lpId           : Nat
  role           : Role
  ingress        : Nat
  egress         : Nat
  upPort         : Option Nat
  downPort       : Option Nat
  first          : Nat
  count          : Nat
  cls            : OriginClass
  profile        : Nat
  trim           : Int
  pilot          : Nat
  hopIndex       : Nat
  hopCount       : Nat
  st             : CtxState
  target         : Int
  atten          : Atten
  lastReading    : Option Int
  readingsUsed   : Nat
  settledRun     : Nat
  probeLevel     : Nat
  adopted        : Bool
  guardHeld      : Bool
  pilotValidated : Bool
  setupAcked     : Bool
  deadline       : Option Nat
  hopList        : Option (List Hop)
  hopReports     : Option (List HopReport)
  watch          : Option Watch
  faultRec       : Option FaultRec
  drift          : Option DriftRec
  probeTimer     : Option Nat
  work           : ProbeWork
  carried        : Option (List HopReport)
  rampHeld       : Bool
  rampDwell      : Option Nat
  deriving DecidableEq, Repr

/-- The blocking work of a MAINT close, kept under a freed handle and instance (R86 to R88). -/
structure Closing where
  handle      : Nat
  inst        : Nat
  face        : Nat
  first       : Nat
  count       : Nat
  outstanding : Bool
  stop        : Bool
  block       : Bool
  deriving DecidableEq, Repr

/-- A ramp profile (R90). -/
structure Profile where
  sMax         : Nat
  deadband     : Nat
  settleCount  : Nat
  gain         : Nat
  stepDwell    : Nat
  maxSteps     : Nat
  l0           : Nat
  l1           : Nat
  l2           : Nat
  l3           : Nat
  probeDwell   : Nat
  probeWindow  : Nat
  setupTimeout : Nat
  armTimeout   : Nat
  readyTimeout : Nat
  faultHold    : Nat
  withdrawStep : Nat
  deriving DecidableEq, Repr

/-- R90: the defaults. -/
def Profile.initial : Profile :=
  { sMax := 100, deadband := 20, settleCount := 2, gain := 6, stepDwell := 200, maxSteps := 64,
    l0 := 2200, l1 := 1900, l2 := 1600, l3 := 1300, probeDwell := 3000, probeWindow := 1500,
    setupTimeout := 60, armTimeout := 1800, readyTimeout := 1800, faultHold := 600, withdrawStep := 100 }

/-- A face settings record (R92). -/
structure FaceSettings where
  wss           : Option Nat
  monitor       : Option Nat
  density       : Int
  transient     : Nat
  ceilingPower  : Int
  auditInterval : Nat
  auditTol      : Nat
  autoTrim      : Bool
  spacingMin    : Nat
  spacingMax    : Nat
  helloInterval : Nat
  deriving DecidableEq, Repr

/-- R92: the defaults. -/
def FaceSettings.initial : FaceSettings :=
  { wss := none, monitor := none, density := -1000, transient := 100, ceilingPower := 1000, auditInterval := 0,
    auditTol := 100, autoTrim := false, spacingMin := 15, spacingMax := 25, helloInterval := 100 }

/-- A ramp queue entry (R95). -/
structure QEntry where
  handle : Nat
  inst   : Nat
  cls    : OriginClass
  deriving DecidableEq, Repr

/-- What the Ramp Engine keeps for a face (R95, R96, R99, R101). The turn is free or held by a handle and
instance; `heldGet` is the holder's GET held back for the audit. -/
structure RampFace where
  queue   : List QEntry
  turn    : Option (Nat × Nat)
  inStep  : Bool
  heldGet : Bool
  deriving DecidableEq, Repr

def RampFace.initial : RampFace := ⟨[], none, false, false⟩

/-- What the Audit Unit keeps for a face (R134). -/
structure AuditFace where
  timer    : Option Nat
  pending  : Bool
  running  : Bool
  list     : List (Nat × Nat)
  pos      : Nat
  overruns : Nat
  deriving DecidableEq, Repr

def AuditFace.initial : AuditFace := ⟨none, false, false, [], 0, 0⟩

/-- An element record with its failures counter and settle period (R144, R147). -/
structure Element where
  role        : ElemRole
  timeout     : Nat
  settle      : Nat
  health      : Health
  failures    : Nat
  settleUntil : Option Nat
  deriving DecidableEq, Repr

/-- R144: the defaults. -/
def Element.initial : Element := ⟨.none, 20, 0, .ok, 0, none⟩

/-- The classes of bus work (R149). -/
inductive BusClass where
  | safety | ramp | audit | mgmt
  deriving DecidableEq, Repr

/-- The five transactions (R146). -/
inductive Txn where
  | setAtten (a : Nat) | setBlock | ditherStart (code : Nat) | ditherStop | getPower
  deriving DecidableEq, Repr

/-- What a context's request is for; it tells the requester how to take the result. -/
inductive Purpose where
  /-- probe work: a level setting to attenuation `a` (R70) -/
  | level (a : Nat)
  | ditherStart
  | ditherStop
  /-- the reading of a closed-loop step (R102) -/
  | rampGet
  /-- the setting of a closed-loop step (R106) -/
  | rampSet (a : Nat)
  /-- the withdrawal's settings (R109) -/
  | withdrawSet (a : Nat)
  | withdrawBlock
  /-- a safety block (R127, R121, R122, R130, R183) -/
  | safety
  /-- the blocking work of a MAINT close (R86) -/
  | closing
  /-- the audit's reading and trim on face `f` (R139, R140) -/
  | auditGet (f : Nat)
  | auditSet (f a : Nat)
  deriving DecidableEq, Repr

/-- The tag of a request (R148): a context's handle and instance, or the management request of an ELEMENT READ
(its port, source and tag). -/
inductive Tag where
  | ctx (handle inst : Nat) (p : Purpose)
  | read (port src : Nat) (tag : Byte)
  deriving DecidableEq, Repr

/-- A request placed in a queue. With `dither` set it carries a DITHER-STOP that has not yet been chosen before
its SET-BLOCK (R150). -/
structure Request where
  cls    : BusClass
  stamp  : Nat
  elem   : Nat
  txn    : Txn
  dither : Bool
  first  : Nat
  count  : Nat
  tag    : Tag
  deriving DecidableEq, Repr

/-- Where the transaction on the bus stands: in its turnaround (µs), or waiting for its answer until a time. -/
inductive BusPhase where
  | turnaround (us : Nat) | waiting (until_ : Nat)
  deriving DecidableEq, Repr

/-- The transaction on the bus (R147). `orphan`: its outcome is handed to no requester (R158). -/
structure OnBus where
  req     : Request
  txn     : Txn
  serial  : Nat
  timeout : Nat
  phase   : BusPhase
  orphan  : Bool
  deriving DecidableEq, Repr

/-- How a request ended for its requester (R147). -/
inductive Result where
  | done | power (p : Int) | belowFloor | failed
  deriving DecidableEq, Repr

/-- A frame in an egress queue or on a line (R159). -/
structure Frame where
  kind : FrameKind
  dst  : Nat
  src  : Nat
  hop  : Nat
  tag  : Byte
  body : List Byte
  deriving DecidableEq, Repr

/-- The acquisition record (R160); none is a count of 0. -/
structure Acq where
  cand  : Nat
  count : Nat
  time  : Nat
  deriving DecidableEq, Repr

/-- A port's counters (R171). -/
structure PortCounters where
  rx : Nat
  tx : Nat
  crc : Nat
  malformed : Nat
  notUp : Nat
  drop : Nat
  hopLimit : Nat
  deriving DecidableEq, Repr

def PortCounters.zero : PortCounters := ⟨0, 0, 0, 0, 0, 0, 0⟩

/-- A port (R160, R164, R169, R171). -/
structure Port where
  link       : LinkState
  neighbour  : Option (Nat × Nat)
  acq        : Option Acq
  helloTimer : Option Nat
  deadTimer  : Option Nat
  urgent     : List Frame
  bulk       : List Frame
  line       : Option Frame
  counters   : PortCounters
  deriving DecidableEq, Repr

def Port.initial : Port := ⟨.down, none, none, none, none, [], [], none, PortCounters.zero⟩

/-- A route table entry (R168). -/
structure Route where
  valid : Bool
  base  : Nat
  mask  : Nat
  port  : Nat
  deriving DecidableEq, Repr

def Route.initial : Route := ⟨false, 0, 0, 0⟩

/-- The node settings that are written (R168). -/
structure NodeSettings where
  defaultPort : Option Nat
  reportDest  : Nat
  originHop   : Nat
  turnaround  : Nat
  deriving DecidableEq, Repr

def NodeSettings.initial : NodeSettings := ⟨none, 0, 32, 20⟩

/-- The capability overlay (R174). -/
structure Overlay where
  concurrency : Nat
  span        : Nat
  classes     : ClassMask
  stepCeiling : Nat
  autoTrim    : Bool
  deriving DecidableEq, Repr

/-- The node's counters (R180). -/
structure NodeCounters where
  noRoute         : Nat
  stray           : Nat
  setupsAccepted  : Nat
  setupsRejected  : Nat
  localFaults     : Nat
  receivedFaults  : Nat
  discardedFaults : Nat
  deriving DecidableEq, Repr

def NodeCounters.zero : NodeCounters := ⟨0, 0, 0, 0, 0, 0, 0⟩

/-- Something still to be done inside the present take: a result to hand back, a grant to judge (R96), the next
audit entry to measure (R138). -/
inductive Work where
  | result (tag : Tag) (r : Result)
  | judgeGrant (f : Nat)
  | measure (f : Nat)
  deriving DecidableEq, Repr

/-- An event of the context at a handle that the present take has still to hand over (R179). -/
structure Told where
  handle : Nat
  body   : List Byte
  deriving DecidableEq, Repr

end Sys2Proof.Machine
end

