-- ==== Sys2Proof/Machine/State.lean ====
section
/-! DEFINITION. The state of the part, block by block as 00_scope.md lists them, and the state after reset. -/

namespace Sys2Proof.Machine

/-- No command stops the part: the spec names no condition under which it halts (INVENTORY.md, Faults). So no
meaning raises a fault, and the type has no constructor. -/
inductive Fault where
  deriving DecidableEq, Repr

/-- Why a command is refused. -/
inductive Refusal where
  /-- Raised by an arm of `exec` whose command has no meaning yet; safe. -/
  | notModelled (mnemonic : String)
  deriving DecidableEq, Repr

/-- The Spectrum Directory (chapter 1): face descriptors by face, block descriptors by 24·face + block, slot
entries by 16·page + entry. -/
structure Directory where
  faces   : Tab FaceDesc.initial
  blocks  : Tab BlockDesc.initial
  entries : Tab SlotEntry.initial
  deriving DecidableEq, Repr

/-- The Context Table (chapter 2), its records by handle, with the Controller's blocking work that outlives a
record (R86). -/
structure ContextTable where
  recs     : Tab (none : Option Context)
  nextInst : Nat
  closings : List Closing
  deriving DecidableEq, Repr

/-- The Ramp Engine (chapter 5). -/
structure RampEngine where
  profiles : Tab Profile.initial
  settings : Tab FaceSettings.initial
  faces    : Tab RampFace.initial
  deriving DecidableEq, Repr

/-- The Element Bus Controller (chapter 8). `rr` is the round-robin position, `seq` the hand-over sequence,
`last` the last-transaction note (element, whether a setting), `serial` the number of the next transaction
(the model's own, log entry 4). -/
structure ElementBus where
  elems   : Tab Element.initial
  safetyQ : List Request
  rampQ   : List Request
  auditQ  : List Request
  mgmtQ   : List Request
  rr      : BusClass
  seq     : Nat
  onBus   : Option OnBus
  last    : Option (Nat × Bool)
  serial  : Nat
  deriving DecidableEq, Repr

/-- The Frame Switch (chapter 9): node ID, route table, node settings. -/
structure FrameSwitch where
  nodeId   : Nat
  routes   : Tab Route.initial
  settings : NodeSettings
  deriving DecidableEq, Repr

/-- The Management Responder (chapter 10). -/
structure Responder where
  overlay  : Overlay
  frozen   : Bool
  counters : NodeCounters
  deriving DecidableEq, Repr

/-- The levels of the input pins that the part watches: signal present per line port, carrier present. -/
structure Pins where
  signal  : Tab false
  carrier : Bool
  deriving DecidableEq, Repr

structure State where
  now     : Nat
  pins    : Pins
  dir     : Directory
  table   : ContextTable
  stray   : Tab (0 : Nat)
  ramp    : RampEngine
  audit   : Tab AuditFace.initial
  bus     : ElementBus
  ports   : Tab Port.initial
  switch  : FrameSwitch
  resp    : Responder
  work    : List Work
  told    : List Told
  pending : List Instr
  deriving DecidableEq, Repr

/-- R1, R2, R3: the Directory after power-on reset. -/
def Directory.reset : Directory := ⟨Tab.empty _, Tab.empty _, Tab.empty _⟩

/-- R43: every record FREE, the allocation number 1. -/
def ContextTable.reset : ContextTable := ⟨Tab.empty _, 1, []⟩

/-- R112: the Ramp Engine after power-on reset. -/
def RampEngine.reset : RampEngine := ⟨Tab.empty _, Tab.empty _, Tab.empty _⟩

/-- R158: the element bus after power-on reset; the round-robin position is MGMT. -/
def ElementBus.reset : ElementBus :=
  { elems := Tab.empty _, safetyQ := [], rampQ := [], auditQ := [], mgmtQ := [], rr := .mgmt, seq := 0,
    onBus := none, last := none, serial := 0 }

/-- R174: the fixed factory record. -/
def Overlay.factory : Overlay :=
  { concurrency := Config.factoryConcurrency, span := Config.factorySpan, classes := ClassMask.all,
    stepCeiling := Config.factoryStepCeiling, autoTrim := true }

/-- R174, R180: the Responder after power-on reset. -/
def Responder.reset : Responder := ⟨Overlay.factory, false, NodeCounters.zero⟩

/-- The machine right after power-on reset with the straps reading `id`, no signal and no carrier. -/
def State.resetWith (id : Nat) : State :=
  { now := 0, pins := ⟨Tab.empty _, false⟩, dir := Directory.reset, table := ContextTable.reset,
    stray := Tab.empty _, ramp := RampEngine.reset, audit := Tab.empty _, bus := ElementBus.reset,
    ports := Tab.empty _, switch := ⟨id, Tab.empty _, NodeSettings.initial⟩, resp := Responder.reset,
    work := [], told := [], pending := [] }

/-- The machine right after reset. DESIGN CHOICE (log entry 1): the straps read 1, every receiver signal and
the carrier are lost. -/
def State.reset : State := State.resetWith 1

end Sys2Proof.Machine
end

