-- ==== Sys2Proof/Machine/Flags.lean ====
section
/-! DEFINITION. The flags, indications and limits that are judged from values alone. -/

namespace Sys2Proof.Machine

/-- A counter raised by `k`; it saturates (00_scope.md, Numbers and units). -/
def raiseBy (k n : Nat) : Nat := min (n + k) counterMax

/-- A counter raised by one. -/
def bump (n : Nat) : Nat := raiseBy 1 n

/-- A value brought to the nearer bound. -/
def clampNat (lo hi n : Nat) : Nat := if n < lo then lo else if hi < n then hi else n

def clampInt (lo hi n : Int) : Int := if n < lo then lo else if hi < n then hi else n

/-- R34: active states are all but FREE and IN_SERVICE. -/
def CtxState.active : CtxState → Bool
  | .inService => false
  | _ => true

/-- R12: a context is counted in its egress face's live slot count in SETTLED and IN_SERVICE. -/
def CtxState.counted : CtxState → Bool
  | .settled | .inService => true
  | _ => false

/-- R125, R126: the states that a fault takes to FAULTED. -/
def CtxState.faultable : CtxState → Bool
  | .reserved | .probing | .armed | .ramping | .settled => true
  | _ => false

/-- R81: a burst follows its predecessor within the spacing window. -/
def withinWindow (lo hi : Nat) (last : Option Nat) (now : Nat) : Bool :=
  match last with
  | none => false
  | some t => t + lo ≤ now && now ≤ t + hi

/-- R161: within three hello intervals of the last counted HELLO, three exactly included. -/
def withinThree (interval time now : Nat) : Bool := now ≤ time + 3 * interval

/-- R155: health after an outcome. -/
def Health.after : Health → Bool → Health
  | .failed, true => .failed
  | _, true => .ok
  | .ok, false => .suspect
  | _, false => .failed

/-- R102: a power as a reading: clamped to −6000..2000, below floor as −6000; none for a failure. -/
def reading : Result → Option Int
  | .power p => some (clampInt (-6000) 2000 p)
  | .belowFloor => some (-6000)
  | _ => none

/-- R139: the drift flag after a reading with drift `d`, tolerance `t`. -/
def driftFlag (d : Int) (t : Nat) : Bool := decide (t < d.natAbs)

/-- R140: the trim change, d limited to −50..50. -/
def trimChange (d : Int) : Int := clampInt (-50) 50 d

/-- R94: the target from reference density, span count and trim. -/
def targetOf (density : Int) (count : Nat) (trim : Int) : Int :=
  clampInt (-4000) 1500 (density + Config.density count + trim)

/-- R105, R106: an attenuation as the ramp takes it, BLOCKED as 2500. -/
def Atten.asNumber : Atten → Nat
  | .blocked => 2500
  | .db n => n

/-- R106: the change of a step: error magnitude times gain over 8, rounded up, reduced to the step limit. -/
def stepChange (e : Int) (gain limit : Nat) : Nat := min ((e.natAbs * gain + 7) / 8) limit

/-- R106: the new attenuation for error `e` and change `delta`. -/
def stepAtten (e : Int) (a delta : Nat) : Nat := if 0 < e then a - delta else min (a + delta) 2500

/-- R103: the step limit from s_max, the overlay's step ceiling, the live count and the transient ceiling. -/
def stepLimit (sMax ceiling live transient : Nat) : Nat :=
  if 0 < live then min (min sMax ceiling) transient else min sMax ceiling

/-- Two spans share a slot (R151). -/
def spansMeet (f1 n1 f2 n2 : Nat) : Bool := f1 < f2 + n2 && f2 < f1 + n1

/-- R146: four transactions are settings, GET-POWER is a reading. -/
def Txn.isSetting : Txn → Bool
  | .getPower => false
  | _ => true

/-- R146: the outcome an answer gives a transaction; an answer of the wrong kind is taken as a NAK. -/
def Txn.outcome : Txn → Answer → Result
  | .getPower, .power p => .power p.toInt
  | .getPower, .belowFloor => .belowFloor
  | .getPower, _ => .failed
  | _, .ack => .done
  | _, _ => .failed

/-- R95: RESTORE entries stand ahead of the others; within a group the order of joining. -/
def joinQueue (q : List QEntry) (e : QEntry) : List QEntry :=
  if q.any (fun x => x.handle = e.handle) then q
  else if e.cls = .restore then
    q.filter (fun x => x.cls = .restore) ++ [e] ++ q.filter (fun x => x.cls ≠ .restore)
  else q ++ [e]

end Sys2Proof.Machine
end

