-- ==== Sys2Proof/Machine/Wire.lean ====
section
/-! DEFINITION. Bytes: numbers on the wire, the codes of section 11.2, the CRC of R185, the frame of R184. -/

namespace Sys2Proof.Machine

/-! Numbers, most significant byte first (chapter 11). -/

def e8 (n : Nat) : List Byte := [BitVec.ofNat 8 n]

def e16 (n : Nat) : List Byte := [BitVec.ofNat 8 (n / 256), BitVec.ofNat 8 n]

def e32 (n : Nat) : List Byte := e16 (n / 65536) ++ e16 n

/-- A signed two-byte field in two's complement. -/
def s16 (i : Int) : List Byte := e16 (i % 65536).toNat

def eBool (b : Bool) : List Byte := e8 (if b then 1 else 0)

/-- A number read from the front of a body, with what follows it. -/
def d8 : List Byte → Option (Nat × List Byte)
  | b :: r => some (b.toNat, r)
  | [] => none

def d16 : List Byte → Option (Nat × List Byte)
  | a :: b :: r => some (a.toNat * 256 + b.toNat, r)
  | _ => none

def d32 : List Byte → Option (Nat × List Byte)
  | a :: b :: c :: d :: r => some (((a.toNat * 256 + b.toNat) * 256 + c.toNat) * 256 + d.toNat, r)
  | _ => none

/-- A two-byte field read as signed. -/
def ds16 (l : List Byte) : Option (Int × List Byte) :=
  (d16 l).map fun x => (if x.1 < 32768 then (x.1 : Int) else (x.1 : Int) - 65536, x.2)

/-- A yes/no, set/clear or on/off code: 0 or 1 (section 11.2). -/
def boolOf : Nat → Option Bool
  | 0 => some false
  | 1 => some true
  | _ => none

def dBool (l : List Byte) : Option (Bool × List Byte) :=
  (d8 l).bind fun x => (boolOf x.1).map fun b => (b, x.2)

/-! Codes (section 11.2). -/

def OriginClass.code : OriginClass → Nat
  | .planned => 1 | .restore => 2 | .maint => 3

def OriginClass.ofCode : Nat → Option OriginClass
  | 1 => some .planned | 2 => some .restore | 3 => some .maint | _ => none

def Role.code : Role → Nat
  | .head => 1 | .transit => 2 | .tail => 3

def Role.ofCode : Nat → Option Role
  | 1 => some .head | 2 => some .transit | 3 => some .tail | _ => none

def CtxState.code : CtxState → Nat
  | .reserved => 1 | .probing => 2 | .armed => 3 | .ramping => 4 | .settled => 5 | .inService => 6
  | .withdrawing => 7 | .faulted => 8

def Cause.code : Cause → Nat
  | .element => 1 | .shortfall => 2 | .excess => 3 | .overpower => 4 | .stepExhausted => 5 | .misroute => 6
  | .linkLoss => 7 | .setupTimeout => 8 | .armTimeout => 9 | .readyTimeout => 10 | .probeUnseen => 11
  | .nodeReset => 12

def Cause.ofCode : Nat → Option Cause
  | 1 => some .element | 2 => some .shortfall | 3 => some .excess | 4 => some .overpower
  | 5 => some .stepExhausted | 6 => some .misroute | 7 => some .linkLoss | 8 => some .setupTimeout
  | 9 => some .armTimeout | 10 => some .readyTimeout | 11 => some .probeUnseen | 12 => some .nodeReset
  | _ => none

def Direction.code : Direction → Nat
  | .here => 0 | .upstream => 1 | .downstream => 2

/-- The direction of travel a FAULT carries: 1 or 2 (section 11.3). -/
def Direction.ofTravelCode : Nat → Option Direction
  | 1 => some .upstream | 2 => some .downstream | _ => none

def Reason.code : Reason → Nat
  | .badPath => 32 | .miswired => 33 | .badHop => 34 | .lpBusy => 35 | .classBarred => 36 | .spanLimit => 37
  | .nodeBusy => 38 | .tableFull => 39 | .badProfile => 40 | .pilotInUse => 41 | .notEquipped => 42
  | .guarded => 43 | .spectrumBusy => 44 | .noElement => 45

def Reason.ofCode : Nat → Option Reason
  | 32 => some .badPath | 33 => some .miswired | 34 => some .badHop | 35 => some .lpBusy
  | 36 => some .classBarred | 37 => some .spanLimit | 38 => some .nodeBusy | 39 => some .tableFull
  | 40 => some .badProfile | 41 => some .pilotInUse | 42 => some .notEquipped | 43 => some .guarded
  | 44 => some .spectrumBusy | 45 => some .noElement | _ => none

def Status.code : Status → Nat
  | .ok => 0 | .accepted => 1 | .clamped => 2 | .badRequest => 3 | .badIndex => 4 | .badValue => 5
  | .inUse => 6 | .frozen => 7 | .busy => 8 | .notFound => 9 | .notAllowed => 10 | .elementError => 11
  | .refusedFor r => r.code

def FrameKind.code : FrameKind → Nat
  | .hello => 0x01 | .setup => 0x10 | .setupAck => 0x11 | .setupReject => 0x12 | .probe => 0x13
  | .probeAck => 0x14 | .probeNak => 0x15 | .advance => 0x16 | .ready => 0x17 | .fault => 0x18
  | .teardown => 0x19 | .mgmtRequest => 0x20 | .mgmtResponse => 0x21 | .event => 0x22

/-- R184: any code but the fourteen is an unknown kind. -/
def FrameKind.ofCode : Nat → Option FrameKind
  | 0x01 => some .hello | 0x10 => some .setup | 0x11 => some .setupAck | 0x12 => some .setupReject
  | 0x13 => some .probe | 0x14 => some .probeAck | 0x15 => some .probeNak | 0x16 => some .advance
  | 0x17 => some .ready | 0x18 => some .fault | 0x19 => some .teardown | 0x20 => some .mgmtRequest
  | 0x21 => some .mgmtResponse | 0x22 => some .event | _ => none

def LinkState.code : LinkState → Nat
  | .down => 0 | .acquire => 1 | .up => 2

def ElemRole.code : ElemRole → Nat
  | .none => 0 | .wss => 1 | .monitor => 2

def ElemRole.ofCode : Nat → Option ElemRole
  | 0 => some .none | 1 => some .wss | 2 => some .monitor | _ => Option.none

def Health.code : Health → Nat
  | .ok => 0 | .suspect => 1 | .failed => 2

/-- Bit 0 PLANNED, bit 1 RESTORE, bit 2 MAINT. -/
def ClassMask.code (m : ClassMask) : Nat :=
  (if m.planned then 1 else 0) + (if m.restore then 2 else 0) + (if m.maint then 4 else 0)

/-- A class mask from its bits, bits above bit 2 ignored (R186, the face descriptor's mask). DESIGN CHOICE (log
entry 25): the spec gives the bits' places and not which value allows; here 1 is allowed and 0 barred, in the face
descriptor's mask and in the overlay's. -/
def ClassMask.ofBits (n : Nat) : ClassMask := ⟨n % 2 = 1, n / 2 % 2 = 1, n / 4 % 2 = 1⟩

def ClassMask.allows (m : ClassMask) : OriginClass → Bool
  | .planned => m.planned
  | .restore => m.restore
  | .maint => m.maint

/-- R184: BLOCKED is 0xFFFF in a two-byte attenuation. -/
def Atten.code : Atten → Nat
  | .blocked => 65535
  | .db n => n

def Atten.ofCode (n : Nat) : Atten := if n = 65535 then .blocked else .db n

/-- R184: 0xFF for an absent port, element NONE, default port NONE or absent face. -/
def optByte : Option Nat → Nat
  | none => 255
  | some n => n

def optByteOf (n : Nat) : Option Nat := if n = 255 then none else some n

/-- R184: an absent deadline or burst time is sent as all bytes 0xFF; a time is sent modulo 2^32. -/
def optTime : Option Nat → Nat
  | none => 4294967295
  | some t => t % 4294967296

/-! The CRC (R185). -/

/-- The generator polynomial without its x^32 term. -/
def crcPoly : BitVec 32 := 0x04C11DB7#32

/-- One bit fed into the register. -/
def crcBit (reg : BitVec 32) (b : Bool) : BitVec 32 :=
  if reg.msb = b then reg <<< 1 else (reg <<< 1) ^^^ crcPoly

/-- One byte, least significant bit first. -/
def crcByte (reg : BitVec 32) (b : Byte) : BitVec 32 :=
  [0, 1, 2, 3, 4, 5, 6, 7].foldl (fun r i => crcBit r (b.getLsbD i)) reg

/-- The register bit-reversed. -/
def bitReverse (x : BitVec 32) : BitVec 32 := (List.range 32).foldl (fun r i => (r <<< 1) ||| (x >>> i &&& 1#32)) 0#32

/-- R185: the CRC over a list of bytes. -/
def crc32 (bs : List Byte) : BitVec 32 := ~~~ bitReverse (bs.foldl crcByte (~~~ 0#32))

/-! The frame (R184). -/

/-- Header and body of a frame. -/
def Frame.headBody (f : Frame) : List Byte :=
  e8 1 ++ e8 f.kind.code ++ e16 (14 + f.body.length) ++ e16 f.dst ++ e16 f.src ++ e8 f.hop ++ [f.tag] ++ f.body

/-- The bytes of a frame as it goes out on a line, CRC last. -/
def Frame.encode (f : Frame) : List Byte := f.headBody ++ e32 (crc32 f.headBody).toNat

/-- How the reception judges received bytes (R165, checks 1 and 2). -/
inductive Received where
  | crcWrong
  | malformed
  | frame (f : Frame)
  deriving DecidableEq, Repr

/-- R165: bytes whose last four are not the CRC of those before them (or that are fewer than four, log entry 9)
fail check 1. Check 2 asks for the length, the version, the range of the length and the kind. -/
def receivedFrame (bytes : List Byte) : Received :=
  let n := bytes.length - 4
  if bytes.length < 4 ∨ bytes.drop n ≠ e32 (crc32 (bytes.take n)).toNat then .crcWrong
  else match bytes.take n with
    | v :: k :: l1 :: l2 :: d1 :: d2 :: s1 :: s2 :: hop :: tag :: body =>
      let len := l1.toNat * 256 + l2.toNat
      if len ≠ bytes.length ∨ v ≠ 1#8 ∨ len < 14 ∨ 1024 < len then .malformed
      else match FrameKind.ofCode k.toNat with
        | none => .malformed
        | some kind =>
          .frame { kind := kind, dst := d1.toNat * 256 + d2.toNat, src := s1.toNat * 256 + s2.toNat,
                   hop := hop.toNat, tag := tag, body := body }
    | _ => .malformed

end Sys2Proof.Machine
end

