-- ==== Sys2Proof/Machine/Operands.lean ====
section
/-! DEFINITION. The bodies of frames and requests: what each command reads from its bytes (sections 11.3 to 11.6)
and the bytes the part writes. A parser answers none for a body that is not well formed (R186). -/

namespace Sys2Proof.Machine

/-- The value read, when nothing follows it (R186: a body one byte over is not well formed). -/
def whole {α : Type} : Option (α × List Byte) → Option α
  | some (x, []) => some x
  | _ => none

/-! ## Hop entries and hop reports (section 11.3) -/

def Hop.encode (x : Hop) : List Byte := e16 x.node ++ e8 x.ingress ++ e8 x.egress

def encodeHops (l : List Hop) : List Byte := l.flatMap Hop.encode

def dHops : Nat → List Byte → Option (List Hop × List Byte)
  | 0, l => some ([], l)
  | n + 1, a :: b :: i :: e :: r =>
    (dHops n r).map fun x => (⟨a.toNat * 256 + b.toNat, i.toNat, e.toNat⟩ :: x.1, x.2)
  | _ + 1, _ => none

def HopReport.encode (x : HopReport) : List Byte :=
  e16 x.node ++ e16 x.atten.code ++ s16 x.reading ++ e8 x.used ++ eBool x.guardHeld

def encodeReports (l : List HopReport) : List Byte := l.flatMap HopReport.encode

/-- Flag bits other than bit 0 are not defined, so a report that sets one is not well formed. -/
def dReports : Nat → List Byte → Option (List HopReport × List Byte)
  | 0, l => some ([], l)
  | n + 1, l => do
    let (node, l) ← d16 l
    let (att, l) ← d16 l
    let (reading, l) ← ds16 l
    let (used, l) ← d8 l
    let (held, l) ← dBool l
    let (rest, l) ← dReports n l
    return (⟨node, Atten.ofCode att, reading, used, held⟩ :: rest, l)

/-! ## Commissioning bodies -/

/-- A SETUP (R44); a COMMISSION carries the same without the cursor and is read with the cursor 1 that the head
sends (R48). -/
structure SetupBody where
  id      : Nat
  first   : Nat
  count   : Nat
  cls     : OriginClass
  profile : Nat
  trim    : Int
  pilot   : Nat
  cursor  : Nat
  hops    : List Hop
  deriving DecidableEq, Repr

def SetupBody.encode (b : SetupBody) : List Byte :=
  e32 b.id ++ e16 b.first ++ e8 b.count ++ e8 b.cls.code ++ e8 b.profile ++ s16 b.trim ++ e16 b.pilot ++
    e8 b.hops.length ++ e8 b.cursor ++ encodeHops b.hops

/-- The SETUP body (`cursor` true) or the COMMISSION parameters (`cursor` false). -/
def SetupBody.parse (cursor : Bool) (l : List Byte) : Option SetupBody := do
  let (id, l) ← d32 l
  let (first, l) ← d16 l
  let (count, l) ← d8 l
  let (c, l) ← d8 l
  let cls ← OriginClass.ofCode c
  let (profile, l) ← d8 l
  let (trim, l) ← ds16 l
  let (pilot, l) ← d16 l
  let (n, l) ← d8 l
  let (cur, l) ← if cursor then d8 l else some (1, l)
  let hops ← whole (dHops n l)
  return ⟨id, first, count, cls, profile, trim, pilot, cur, hops⟩

def facesInRange (l : List Hop) : Bool := l.all fun x => x.ingress ≤ 11 && x.egress ≤ 11

def trimInRange (t : Int) : Bool := -300 ≤ t && t ≤ 300

def pilotInRange (c : Nat) : Bool := 1 ≤ c && c ≤ 4095

/-- A span: count 1 to 16, first slot 0 to 383, first plus count not above 384 (00_scope.md, Spectrum). -/
def spanValid (first count : Nat) : Bool := 1 ≤ count && count ≤ 16 && first ≤ 383 && first + count ≤ 384

/-- R50: the conditions on the body of a SETUP beside its form. -/
def SetupBody.sound (b : SetupBody) : Bool :=
  2 ≤ b.hops.length && b.hops.length ≤ 32 && 1 ≤ b.cursor && b.cursor + 1 ≤ b.hops.length &&
    facesInRange b.hops && b.id ≠ 0 && pilotInRange b.pilot && trimInRange b.trim

/-- SETUP-ACK, and the requests that name a lightpath ID alone. -/
def parseId (l : List Byte) : Option Nat := whole (d32 l)

/-- SETUP-REJECT: lightpath ID, reason, node ID. -/
def parseReject (l : List Byte) : Option (Nat × Reason × Nat) := do
  let (id, l) ← d32 l
  let (c, l) ← d8 l
  let r ← Reason.ofCode c
  let node ← whole (d16 l)
  return (id, r, node)

/-- PROBE: lightpath ID and level; a level above 3 fails (R67). -/
def parseProbe (l : List Byte) : Option (Nat × Nat) := do
  let (id, l) ← d32 l
  let k ← whole (d8 l)
  if k ≤ 3 then some (id, k) else none

/-- PROBE-ACK: lightpath ID, level, verify flag. -/
def parseProbeAck (l : List Byte) : Option (Nat × Nat × Bool) := do
  let (id, l) ← d32 l
  let (k, l) ← d8 l
  let v ← whole (dBool l)
  if k ≤ 3 then some (id, k, v) else none

/-- PROBE-NAK: lightpath ID, level, node ID. -/
def parseProbeNak (l : List Byte) : Option (Nat × Nat × Nat) := do
  let (id, l) ← d32 l
  let (k, l) ← d8 l
  let node ← whole (d16 l)
  if k ≤ 3 then some (id, k, node) else none

/-- ADVANCE and READY: lightpath ID and hop reports; R113 refuses an ID of 0 and a count outside 1 to 32. -/
def parseReports (l : List Byte) : Option (Nat × List HopReport) := do
  let (id, l) ← d32 l
  let (n, l) ← d8 l
  let reports ← whole (dReports n l)
  if id ≠ 0 ∧ 1 ≤ n ∧ n ≤ 32 then some (id, reports) else none

/-- FAULT: lightpath ID, cause, origin node, direction of travel. -/
def parseFault (l : List Byte) : Option (Nat × Cause × Nat × Direction) := do
  let (id, l) ← d32 l
  let (c, l) ← d8 l
  let cause ← Cause.ofCode c
  let (origin, l) ← d16 l
  let t ← whole (d8 l)
  let travel ← Direction.ofTravelCode t
  if id ≠ 0 then some (id, cause, origin, travel) else none

/-- A TEARDOWN (R113). -/
structure TeardownBody where
  id     : Nat
  cursor : Nat
  hops   : List Hop
  deriving DecidableEq, Repr

def TeardownBody.encode (b : TeardownBody) : List Byte :=
  e32 b.id ++ e8 b.hops.length ++ e8 b.cursor ++ encodeHops b.hops

/-- The TEARDOWN body with the conditions R113 puts on it. -/
def TeardownBody.parse (l : List Byte) : Option TeardownBody := do
  let (id, l) ← d32 l
  let (n, l) ← d8 l
  let (cursor, l) ← d8 l
  let hops ← whole (dHops n l)
  if id ≠ 0 ∧ 2 ≤ n ∧ n ≤ 32 ∧ 1 ≤ cursor ∧ cursor + 1 ≤ n ∧ facesInRange hops then some ⟨id, cursor, hops⟩ else none

def idBody (id : Nat) : List Byte := e32 id
def rejectBody (id : Nat) (r : Reason) (node : Nat) : List Byte := e32 id ++ e8 r.code ++ e16 node
def probeBody (id k : Nat) : List Byte := e32 id ++ e8 k
def probeAckBody (id k : Nat) (verify : Bool) : List Byte := e32 id ++ e8 k ++ eBool verify
def probeNakBody (id k node : Nat) : List Byte := e32 id ++ e8 k ++ e16 node
def reportsBody (id : Nat) (l : List HopReport) : List Byte := e32 id ++ e8 l.length ++ encodeReports l
def faultBody (id : Nat) (c : Cause) (origin : Nat) (travel : Direction) : List Byte :=
  e32 id ++ e8 c.code ++ e16 origin ++ e8 travel.code

/-- HELLO: sender node ID and port. -/
def helloBody (node port : Nat) : List Byte := e16 node ++ e8 port

def parseHello (l : List Byte) : Option (Nat × Nat) := do
  let (node, l) ← d16 l
  let port ← whole (d8 l)
  return (node, port)

/-! ## Management parameters (section 11.4) -/

/-- Index major and minor of a TABLE READ or TABLE WRITE. -/
def dIndex (l : List Byte) : Option ((Nat × Nat) × List Byte) := do
  let (major, l) ← d8 l
  let (minor, l) ← d16 l
  return ((major, minor), l)

/-- TABLE READ: table, index major, index minor. -/
def parseTableRead (l : List Byte) : Option (Nat × Nat × Nat) := do
  let (t, l) ← d8 l
  let (ix, l) ← dIndex l
  if l = [] then some (t, ix.1, ix.2) else none

/-- A written face descriptor. The present flag is structural (R173), so it is kept as the byte it came as; the
mask's undefined bits are ignored (R186); used flag and live count are read for their form alone. -/
structure FaceWrite where
  present : Nat
  guard   : Bool
  mask    : ClassMask
  deriving DecidableEq, Repr

def FaceWrite.parse (l : List Byte) : Option ((Nat × Nat) × FaceWrite) := do
  let (ix, l) ← dIndex l
  let (present, l) ← d8 l
  let (guard, l) ← dBool l
  let (mask, l) ← d8 l
  let (_, l) ← dBool l
  let _ ← whole (d16 l)
  return (ix, ⟨present, guard, ClassMask.ofBits mask⟩)

structure BlockWrite where
  present : Nat
  guard   : Bool
  page    : Nat
  deriving DecidableEq, Repr

def BlockWrite.parse (l : List Byte) : Option ((Nat × Nat) × BlockWrite) := do
  let (ix, l) ← dIndex l
  let (present, l) ← d8 l
  let (guard, l) ← dBool l
  let (page, l) ← d16 l
  let _ ← whole (dBool l)
  return (ix, ⟨present, guard, page⟩)

/-- A written slot entry: its kind code, judged by R18. Owner, link and flags are read for their form alone. -/
def parseSlotWrite (l : List Byte) : Option ((Nat × Nat) × Nat) := do
  let (ix, l) ← dIndex l
  let (kind, l) ← d8 l
  let (_, l) ← d8 l
  let (_, l) ← d16 l
  let flags ← whole (d8 l)
  if flags ≤ 3 then some (ix, kind) else none

/-- A written face settings record as its fields came. -/
structure SettingsWrite where
  wss           : Nat
  monitor       : Nat
  density       : Int
  transient     : Nat
  ceilingPower  : Int
  auditInterval : Nat
  auditTol      : Nat
  autoTrim      : Nat
  spacingMin    : Nat
  spacingMax    : Nat
  helloInterval : Nat
  deriving DecidableEq, Repr

def SettingsWrite.parse (l : List Byte) : Option ((Nat × Nat) × SettingsWrite) := do
  let (ix, l) ← dIndex l
  let (wss, l) ← d8 l
  let (mon, l) ← d8 l
  let (d, l) ← ds16 l
  let (c, l) ← d16 l
  let (cp, l) ← ds16 l
  let (ai, l) ← d16 l
  let (tol, l) ← d16 l
  let (trim, l) ← d8 l
  let (smin, l) ← d16 l
  let (smax, l) ← d16 l
  let hi ← whole (d16 l)
  return (ix, ⟨wss, mon, d, c, cp, ai, tol, trim, smin, smax, hi⟩)

/-- A written profile as its fields came. -/
def parseProfileWrite (l : List Byte) : Option ((Nat × Nat) × Profile) := do
  let (ix, l) ← dIndex l
  let (sMax, l) ← d16 l
  let (deadband, l) ← d8 l
  let (settle, l) ← d8 l
  let (gain, l) ← d8 l
  let (dwell, l) ← d16 l
  let (steps, l) ← d8 l
  let (l0, l) ← d16 l
  let (l1, l) ← d16 l
  let (l2, l) ← d16 l
  let (l3, l) ← d16 l
  let (pd, l) ← d16 l
  let (pw, l) ← d16 l
  let (su, l) ← d16 l
  let (ar, l) ← d16 l
  let (rd, l) ← d16 l
  let (fh, l) ← d16 l
  let w ← whole (d16 l)
  return (ix, { sMax := sMax, deadband := deadband, settleCount := settle, gain := gain, stepDwell := dwell,
                maxSteps := steps, l0 := l0, l1 := l1, l2 := l2, l3 := l3, probeDwell := pd, probeWindow := pw,
                setupTimeout := su, armTimeout := ar, readyTimeout := rd, faultHold := fh, withdrawStep := w })

/-- A written element record: role code (judged by R145), response timeout, settle time. The health code is
read for its form alone. -/
structure ElementWrite where
  role    : Nat
  timeout : Nat
  settle  : Nat
  deriving DecidableEq, Repr

def ElementWrite.parse (l : List Byte) : Option ((Nat × Nat) × ElementWrite) := do
  let (ix, l) ← dIndex l
  let (role, l) ← d8 l
  let (timeout, l) ← d8 l
  let (settle, l) ← d8 l
  let health ← whole (d8 l)
  if health ≤ 2 then some (ix, ⟨role, timeout, settle⟩) else none

def parseRouteWrite (l : List Byte) : Option ((Nat × Nat) × Route) := do
  let (ix, l) ← dIndex l
  let (valid, l) ← dBool l
  let (base, l) ← d16 l
  let (mask, l) ← d16 l
  let port ← whole (d8 l)
  return (ix, ⟨valid, base, mask, port⟩)

/-- Written node settings; the node ID is ignored (R168). The default port is kept as its byte. -/
structure NodeWrite where
  defaultPort : Nat
  reportDest  : Nat
  originHop   : Nat
  turnaround  : Nat
  deriving DecidableEq, Repr

def NodeWrite.parse (l : List Byte) : Option ((Nat × Nat) × NodeWrite) := do
  let (ix, l) ← dIndex l
  let (_, l) ← d16 l
  let (dp, l) ← d8 l
  let (rd, l) ← d16 l
  let (hop, l) ← d8 l
  let turn ← whole (d16 l)
  return (ix, ⟨dp, rd, hop, turn⟩)

/-- FLAGS CLEAR: face and block. -/
def parseFlagsClear (l : List Byte) : Option (Nat × Nat) := do
  let (f, l) ← d8 l
  let b ← whole (d8 l)
  return (f, b)

/-- An ADOPT (R41). -/
structure AdoptBody where
  id       : Nat
  role     : Role
  ingress  : Nat
  egress   : Nat
  first    : Nat
  count    : Nat
  cls      : OriginClass
  profile  : Nat
  trim     : Int
  atten    : Nat
  hopIndex : Nat
  hopCount : Nat
  hops     : List Hop
  deriving DecidableEq, Repr

/-- Hop entries stand in the body at the head only (section 11.4). -/
def AdoptBody.parse (l : List Byte) : Option AdoptBody := do
  let (id, l) ← d32 l
  let (rc, l) ← d8 l
  let role ← Role.ofCode rc
  let (ing, l) ← d8 l
  let (eg, l) ← d8 l
  let (first, l) ← d16 l
  let (count, l) ← d8 l
  let (cc, l) ← d8 l
  let cls ← OriginClass.ofCode cc
  let (profile, l) ← d8 l
  let (trim, l) ← ds16 l
  let (att, l) ← d16 l
  let (hi, l) ← d8 l
  let (hc, l) ← d8 l
  let hops ← whole (dHops (if role = .head then hc else 0) l)
  return ⟨id, role, ing, eg, first, count, cls, profile, trim, att, hi, hc, hops⟩

/-- ELEMENT READ: element, first slot, count. -/
def parseElementRead (l : List Byte) : Option (Nat × Nat × Nat) := do
  let (e, l) ← d8 l
  let (first, l) ← d16 l
  let count ← whole (d8 l)
  return (e, first, count)

/-- CAPABILITY SET: the five overlay fields as they came; a class mask with an undefined bit and an auto-trim
code other than 0 and 1 are not well formed (R176, R186). -/
def parseOverlay (l : List Byte) : Option Overlay := do
  let (conc, l) ← d8 l
  let (span, l) ← d8 l
  let (mask, l) ← d8 l
  let (ceil, l) ← d16 l
  let trim ← whole (dBool l)
  if mask ≤ 7 then some ⟨conc, span, ClassMask.ofBits mask, ceil, trim⟩ else none

/-! ## Records as management reads them (section 11.4) -/

def FaceDesc.encode (x : FaceDesc) : List Byte :=
  eBool x.present ++ eBool x.guard ++ e8 x.mask.code ++ eBool x.used ++ e16 x.live

def BlockDesc.encode (x : BlockDesc) : List Byte :=
  eBool x.present ++ eBool x.guard ++ e16 x.page ++ eBool x.used

def EntryKind.code : EntryKind → Nat
  | .free => 0 | .owned _ => 1 | .indirect _ _ => 2 | .foreign => 3 | .barred => 4

/-- Owner and home fields that the kind does not use are sent as 0. -/
def SlotEntry.encode (x : SlotEntry) : List Byte :=
  e8 x.kind.code ++
    (match x.kind with
      | .owned h => e8 h ++ e16 0
      | .indirect f s => e8 f ++ e16 s
      | _ => e8 0 ++ e16 0) ++
    e8 ((if x.used then 1 else 0) + (if x.modified then 2 else 0))

def FaceSettings.encode (x : FaceSettings) : List Byte :=
  e8 (optByte x.wss) ++ e8 (optByte x.monitor) ++ s16 x.density ++ e16 x.transient ++ s16 x.ceilingPower ++
    e16 x.auditInterval ++ e16 x.auditTol ++ eBool x.autoTrim ++ e16 x.spacingMin ++ e16 x.spacingMax ++
    e16 x.helloInterval

def Profile.encode (x : Profile) : List Byte :=
  e16 x.sMax ++ e8 x.deadband ++ e8 x.settleCount ++ e8 x.gain ++ e16 x.stepDwell ++ e8 x.maxSteps ++ e16 x.l0 ++
    e16 x.l1 ++ e16 x.l2 ++ e16 x.l3 ++ e16 x.probeDwell ++ e16 x.probeWindow ++ e16 x.setupTimeout ++
    e16 x.armTimeout ++ e16 x.readyTimeout ++ e16 x.faultHold ++ e16 x.withdrawStep

def Element.encode (x : Element) : List Byte := e8 x.role.code ++ e8 x.timeout ++ e8 x.settle ++ e8 x.health.code

def Route.encode (x : Route) : List Byte := eBool x.valid ++ e16 x.base ++ e16 x.mask ++ e8 x.port

def NodeSettings.encode (nodeId : Nat) (x : NodeSettings) : List Byte :=
  e16 nodeId ++ e8 (optByte x.defaultPort) ++ e16 x.reportDest ++ e8 x.originHop ++ e16 x.turnaround

def Overlay.encode (x : Overlay) : List Byte :=
  e8 x.concurrency ++ e8 x.span ++ e8 x.classes.code ++ e16 x.stepCeiling ++ eBool x.autoTrim

/-- A burst time and the misroute face are absent exactly when the run that goes with them is 0 (R184). -/
def Watch.encode (x : Watch) : List Byte :=
  e8 x.run ++ e32 (optTime (if x.run = 0 then none else x.lastRun)) ++ e8 x.misrun ++
    e32 (optTime (if x.misrun = 0 then none else x.lastMis)) ++
    e8 (optByte (if x.misrun = 0 then none else x.misFace))

def FaultRec.encode (x : FaultRec) : List Byte :=
  e8 x.cause.code ++ e16 x.origin ++ e8 x.received.code ++ eBool x.unconfirmed

def DriftRec.encode (x : DriftRec) : List Byte := s16 x.reading ++ s16 x.drift ++ eBool x.flag

def flagByte (l : List Bool) : Nat := l.foldr (fun b n => (if b then 1 else 0) + 2 * n) 0

/-- R38, R184: the milliseconds that remain until a deadline, all ones for an absent one. -/
def remainingMs (deadline : Option Nat) (now : Nat) : Nat :=
  match deadline with
  | none => 4294967295
  | some t => t - now

/-- The bytes of an optional part, none for an absent one. -/
def partBytes {α : Type} (x : Option α) (f : α → List Byte) : List Byte :=
  match x with
  | none => []
  | some y => f y

/-- Section 11.4: the fields of a context record up to the parts mask, for the record at `handle` at time `now`. -/
def Context.encodeFields (handle now : Nat) (c : Context) : List Byte :=
  [e8 handle, e32 c.inst, e32 c.lpId, e8 c.role.code, e8 c.st.code,
    e8 c.ingress, e8 c.egress, e8 (optByte c.upPort), e8 (optByte c.downPort),
    e16 c.first, e8 c.count, e8 c.cls.code, e8 c.profile, s16 c.trim, e16 c.pilot,
    e8 c.hopIndex, e8 c.hopCount,
    s16 c.target, e16 c.atten.code, s16 (c.lastReading.getD (-32768)), e8 c.readingsUsed, e8 c.settledRun, e8 c.probeLevel,
    e32 (remainingMs c.deadline now),
    e8 (flagByte [c.adopted, c.guardHeld, c.pilotValidated, c.setupAcked]),
    e8 (flagByte [c.hopList.isSome, c.hopReports.isSome, c.watch.isSome, c.faultRec.isSome, c.drift.isSome])].flatten

/-- Section 11.4: the parts of a context record that are present, in bit order. -/
def Context.encodeParts (c : Context) : List Byte :=
  partBytes c.hopList encodeHops ++ partBytes c.hopReports (fun l => e8 l.length ++ encodeReports l) ++
    partBytes c.watch Watch.encode ++ partBytes c.faultRec FaultRec.encode ++ partBytes c.drift DriftRec.encode

/-- The context record of section 11.4 for the record at `handle`, at time `now`. -/
def Context.encode (handle now : Nat) (c : Context) : List Byte := c.encodeFields handle now ++ c.encodeParts

/-! ## Event bodies (section 11.5) -/

def evReady (id hopCount : Nat) : List Byte := e8 1 ++ e32 id ++ e8 hopCount
def evRejected (id : Nat) (r : Reason) (node : Nat) : List Byte := e8 2 ++ e32 id ++ e8 r.code ++ e16 node
def evFault (id : Nat) (c : Cause) (origin : Nat) : List Byte := e8 3 ++ e32 id ++ e8 c.code ++ e16 origin
def evWithdrawn (id : Nat) : List Byte := e8 4 ++ e32 id
def evVerified (id : Nat) : List Byte := e8 5 ++ e32 id
def evDrift (id face : Nat) (drift : Int) (set_ : Bool) : List Byte :=
  e8 6 ++ e32 id ++ e8 face ++ s16 drift ++ eBool set_
def evElementFailed (e : Nat) : List Byte := e8 7 ++ e8 e
/-- LINK_CHANGE: no neighbour is sent as node 0 and port 0xFF (R184). -/
def evLinkChange (port : Nat) (l : LinkState) (nb : Option (Nat × Nat)) : List Byte :=
  e8 8 ++ e8 port ++ e8 l.code ++ e16 ((nb.map (·.1)).getD 0) ++ e8 (optByte (nb.map (·.2)))

/-! ## Request codes (section 11.4) -/

def reqTableRead : Nat := 0x01
def reqTableWrite : Nat := 0x02
def reqFlagsClear : Nat := 0x03
def reqCommission : Nat := 0x10
def reqWithdraw : Nat := 0x11
def reqAdopt : Nat := 0x12
def reqContextRead : Nat := 0x13
def reqContextList : Nat := 0x14
def reqContextDiscard : Nat := 0x15
def reqElementRead : Nat := 0x20
def reqElementRevive : Nat := 0x21
def reqIdentify : Nat := 0x30
def reqSet : Nat := 0x31
def reqRestore : Nat := 0x32
def reqFreeze : Nat := 0x33
def reqCounters : Nat := 0x40
def reqNodeReset : Nat := 0x50

def tabFace : Nat := 1
def tabBlock : Nat := 2
def tabSlot : Nat := 3
def tabSettings : Nat := 4
def tabProfile : Nat := 5
def tabElement : Nat := 6
def tabRoute : Nat := 7
def tabNode : Nat := 8

/-- The request codes of section 11.4 other than TABLE WRITE, whose rows are told apart by the table code. -/
def knownRequestCodes : List Nat :=
  [reqTableRead, reqFlagsClear, reqCommission, reqWithdraw, reqAdopt, reqContextRead, reqContextList,
    reqContextDiscard, reqElementRead, reqElementRevive, reqIdentify, reqSet, reqRestore, reqFreeze, reqCounters,
    reqNodeReset]

/-- Whether a MGMT-REQUEST body names a request of its own row (a TABLE WRITE needs one of the eight table
codes, R173). -/
def namesRequest : List Byte → Bool
  | [] => false
  | [c] => knownRequestCodes.contains c.toNat
  | c :: t :: _ =>
    knownRequestCodes.contains c.toNat || (c.toNat = reqTableWrite && 1 ≤ t.toNat && t.toNat ≤ 8)

end Sys2Proof.Machine
end

