-- ==== Sys2Proof/Machine/Ops.lean ====
section
/-! DEFINITION. The named reads and updates of the state, the egress of frames, events and responses. -/

namespace Sys2Proof.Machine

/-! ## Reads and updates, one per table -/

namespace State

def ctx (s : State) (h : Nat) : Option Context := s.table.recs.get h
def port (s : State) (p : Nat) : Port := s.ports.get p
def face (s : State) (f : Nat) : FaceDesc := s.dir.faces.get f
def block (s : State) (f b : Nat) : BlockDesc := s.dir.blocks.get (24 * f + b)
def entry (s : State) (page i : Nat) : SlotEntry := s.dir.entries.get (16 * page + i)
def profile (s : State) (n : Nat) : Profile := s.ramp.profiles.get n
def faceSet (s : State) (f : Nat) : FaceSettings := s.ramp.settings.get f
def rampFace (s : State) (f : Nat) : RampFace := s.ramp.faces.get f
def auditFace (s : State) (f : Nat) : AuditFace := s.audit.get f
def elem (s : State) (e : Nat) : Element := s.bus.elems.get e

def setCtx (s : State) (h : Nat) (c : Option Context) : State :=
  { s with table := { s.table with recs := s.table.recs.set h c } }

/-- The record at `h` changed by `g`; a FREE record stays FREE. -/
def modCtx (s : State) (h : Nat) (g : Context → Context) : State := s.setCtx h ((s.ctx h).map g)

def modPort (s : State) (p : Nat) (g : Port → Port) : State := { s with ports := s.ports.mod p g }

def modFace (s : State) (f : Nat) (g : FaceDesc → FaceDesc) : State :=
  { s with dir := { s.dir with faces := s.dir.faces.mod f g } }

def modBlock (s : State) (f b : Nat) (g : BlockDesc → BlockDesc) : State :=
  { s with dir := { s.dir with blocks := s.dir.blocks.mod (24 * f + b) g } }

/-- The entry with key 16·page + i changed by `g`. -/
def modEntry (s : State) (key : Nat) (g : SlotEntry → SlotEntry) : State :=
  { s with dir := { s.dir with entries := s.dir.entries.mod key g } }

def setProfile (s : State) (n : Nat) (p : Profile) : State :=
  { s with ramp := { s.ramp with profiles := s.ramp.profiles.set n p } }

def setFaceSet (s : State) (f : Nat) (x : FaceSettings) : State :=
  { s with ramp := { s.ramp with settings := s.ramp.settings.set f x } }

def modRamp (s : State) (f : Nat) (g : RampFace → RampFace) : State :=
  { s with ramp := { s.ramp with faces := s.ramp.faces.mod f g } }

def modAudit (s : State) (f : Nat) (g : AuditFace → AuditFace) : State := { s with audit := s.audit.mod f g }

def modElem (s : State) (e : Nat) (g : Element → Element) : State :=
  { s with bus := { s.bus with elems := s.bus.elems.mod e g } }

def modCounts (s : State) (g : NodeCounters → NodeCounters) : State :=
  { s with resp := { s.resp with counters := g s.resp.counters } }

/-- What is still to be done in this take, done before what was already waiting. -/
def push (s : State) (ws : List Work) : State := { s with work := ws ++ s.work }

end State

/-! ## Counters -/

/-- A port's malformed counter +1. -/
def malformed (p : Nat) (s : State) : State :=
  s.modPort p fun x => { x with counters := { x.counters with malformed := bump x.counters.malformed } }

def countRx (p : Nat) (s : State) : State :=
  s.modPort p fun x => { x with counters := { x.counters with rx := bump x.counters.rx } }

def countNotUp (p : Nat) (s : State) : State :=
  s.modPort p fun x => { x with counters := { x.counters with notUp := bump x.counters.notUp } }

def countCrc (p : Nat) (s : State) : State :=
  s.modPort p fun x => { x with counters := { x.counters with crc := bump x.counters.crc } }

def countHopLimit (p : Nat) (s : State) : State :=
  s.modPort p fun x => { x with counters := { x.counters with hopLimit := bump x.counters.hopLimit } }

/-- The stray commissioning counter +1. -/
def stray (s : State) : State := s.modCounts fun c => { c with stray := bump c.stray }

def countNoRoute (s : State) : State := s.modCounts fun c => { c with noRoute := bump c.noRoute }

def countAccepted (s : State) : State := s.modCounts fun c => { c with setupsAccepted := bump c.setupsAccepted }

def countRejected (s : State) : State := s.modCounts fun c => { c with setupsRejected := bump c.setupsRejected }

def countLocalFault (s : State) : State := s.modCounts fun c => { c with localFaults := bump c.localFaults }

def countReceivedFault (s : State) : State := s.modCounts fun c => { c with receivedFaults := bump c.receivedFaults }

def countDiscardedFault (s : State) : State := s.modCounts fun c => { c with discardedFaults := bump c.discardedFaults }

/-! ## Egress (R169) -/

/-- R169: when the line is free, the oldest URGENT frame is started, or the oldest BULK frame when URGENT is
empty. -/
def Port.startNext (x : Port) : Port :=
  match x.line, x.urgent, x.bulk with
  | none, f :: r, _ => { x with line := some f, urgent := r }
  | none, [], f :: r => { x with line := some f, bulk := r }
  | _, _, _ => x

/-- R169: HELLO and commissioning frames go to URGENT, management frames to BULK. -/
def FrameKind.urgent : FrameKind → Bool
  | .mgmtRequest | .mgmtResponse | .event => false
  | _ => true

/-- R169: whether the port's state lets a frame of the kind be handed over. -/
def Port.takes (x : Port) (k : FrameKind) : Bool :=
  match x.link, k with
  | .up, _ => true
  | .acquire, .hello => true
  | _, _ => false

/-- R169: a frame handed to a port. -/
def Port.hand (x : Port) (f : Frame) : Port :=
  if !x.takes f.kind then { x with counters := { x.counters with notUp := bump x.counters.notUp } }
  else if f.kind.urgent then
    if x.urgent.length < Config.urgentCapacity then Port.startNext { x with urgent := x.urgent ++ [f] }
    else { x with counters := { x.counters with drop := bump x.counters.drop } }
  else if x.bulk.length < Config.bulkCapacity then Port.startNext { x with bulk := x.bulk ++ [f] }
  else { x with counters := { x.counters with drop := bump x.counters.drop } }

/-- R169: a frame handed to the queue of port `p`. -/
def handFrame (p : Nat) (f : Frame) (s : State) : State := s.modPort p fun x => x.hand f

/-- R159: a HELLO or commissioning frame the part builds: destination ADJACENT, hop limit 1, own node ID as
source. -/
def adjacentFrame (k : FrameKind) (body : List Byte) (s : State) : Frame :=
  { kind := k, dst := Config.adjacent, src := s.switch.nodeId, hop := 1, tag := Config.ownFrameTag, body := body }

/-- A commissioning frame sent out of port `p`. -/
def sendAdjacent (p : Nat) (k : FrameKind) (body : List Byte) (s : State) : State :=
  handFrame p (adjacentFrame k body s) s

/-- R26: where the port is absent, no frame is sent in that direction. -/
def sendOn (p : Option Nat) (k : FrameKind) (body : List Byte) (s : State) : State :=
  match p with
  | none => s
  | some p => sendAdjacent p k body s

/-- A received commissioning frame sent on unchanged (DEDUCED, log entry 10: source and tag as received). -/
def relay (p : Option Nat) (k : FrameKind) (h : Hdr) (body : List Byte) (s : State) : State :=
  match p with
  | none => s
  | some p =>
    handFrame p { kind := k, dst := Config.adjacent, src := h.src.toNat, hop := 1, tag := h.tag, body := body } s

/-- R163 step 1: every frame in both queues is dropped and counted. -/
def Port.flush (x : Port) : Port :=
  { x with urgent := [], bulk := [],
           counters := { x.counters with drop := raiseBy (x.urgent.length + x.bulk.length) x.counters.drop } }

/-! ## Routing, events, responses -/

/-- R167: an entry matches when destination and base agree in every bit the mask has set. -/
def Route.accepts (r : Route) (dst : Nat) : Bool := r.valid && (r.base &&& r.mask) == (dst &&& r.mask)

/-- R167: the port of the first matching entry in index order, else the default port. -/
def routeOf (s : State) (dst : Nat) : Option Nat :=
  match ((List.range 32).map s.switch.routes.get).find? (fun r => r.accepts dst) with
  | some r => some r.port
  | none => s.switch.settings.defaultPort

/-- A frame handed to the port that the route table chooses, or counted when there is none. -/
def routeFrame (f : Frame) (s : State) : State :=
  match routeOf s f.dst with
  | some p => handFrame p f s
  | none => countNoRoute s

/-- R170, R179: an EVENT to the report destination; not built when that is 0. -/
def event (body : List Byte) (s : State) : State :=
  let f : Frame := { kind := .event, dst := s.switch.settings.reportDest, src := s.switch.nodeId,
                     hop := s.switch.settings.originHop, tag := Config.ownFrameTag, body := body }
  if s.switch.settings.reportDest = 0 then s
  else if s.switch.settings.reportDest = s.switch.nodeId then handFrame 8 f s
  else routeFrame f s

/-- R179: the events told so far with one more, in increasing handle order; those of one handle as they were told. -/
def joinTold (q : List Told) (x : Told) : List Told :=
  q.takeWhile (fun y => y.handle ≤ x.handle) ++ x :: q.dropWhile fun y => y.handle ≤ x.handle

/-- R179: an event of the context at `h`, handed over with the others of the take in increasing handle order. -/
def tellEvent (h : Nat) (body : List Byte) (s : State) : State := { s with told := joinTold s.told ⟨h, body⟩ }

/-- R179: the contexts' events of the take are handed over. -/
def sendTold (s : State) : State := s.told.foldl (fun s x => event x.body s) { s with told := [] }

/-- R170, R172: a MGMT-RESPONSE to the request that came in on `port` from `src` with `tag`. -/
def respondTo (port src : Nat) (tag : Byte) (body : List Byte) (s : State) : State :=
  handFrame port
    { kind := .mgmtResponse, dst := src, src := s.switch.nodeId, hop := s.switch.settings.originHop, tag := tag,
      body := body } s

/-- R172: the response to a request: echoed code, status, result. -/
def respond (h : Hdr) (code : Nat) (st : Status) (result : List Byte) (s : State) : State :=
  respondTo h.port.val h.src.toNat h.tag (e8 code ++ e8 st.code ++ result) s

/-- The header of a received frame with a kind and a body, as a frame. -/
def frameOf (h : Hdr) (k : FrameKind) (body : List Byte) : Frame :=
  { kind := k, dst := h.dst.toNat, src := h.src.toNat, hop := h.hop.toNat, tag := h.tag, body := body }

/-- R167: a frame for another node. -/
def forwardFrame (port : Nat) (f : Frame) (s : State) : State :=
  if f.hop ≤ 1 then countHopLimit port s else routeFrame { f with hop := f.hop - 1 } s

end Sys2Proof.Machine
end

