-- ==== Sys2Proof/Machine/Directory.lean ====
section
/-! DEFINITION. The Spectrum Directory (chapter 1): walks, reservation, freeing, marking, live slot counts. -/

namespace Sys2Proof.Machine

/-- What one pass of steps 1 to 3 of R4 reads: the block and entry keys, as far as it got. -/
inductive SlotRead where
  | faceAbsent
  | blockAbsent
  | found (block entry : Nat)
  deriving DecidableEq, Repr

/-- The key of block `b` of face `f`, and of the slot's block. -/
def blockKey (f slot : Nat) : Nat := 24 * f + slot / 16

/-- The entry key governing a slot, when its block descriptor is present (R3); the face is not judged. -/
def entryKey (s : State) (f slot : Nat) : Option Nat :=
  let b := s.dir.blocks.get (blockKey f slot)
  if b.present then some (16 * b.page + slot % 16) else none

/-- R4 steps 1 to 3. -/
def readSlot (s : State) (f slot : Nat) : SlotRead :=
  if !(s.face f).present then .faceAbsent
  else match entryKey s f slot with
    | none => .blockAbsent
    | some e => .found (blockKey f slot) e

/-- What a walk returns (R4). -/
inductive WalkResult where
  | faceAbsent
  | blockAbsent
  | found (kind : EntryKind) (guard : Bool) (mask : ClassMask)
  deriving DecidableEq, Repr

/-- The descriptors and entries a walk read and found (R6). -/
structure Marks where
  faces   : List Nat
  blocks  : List Nat
  entries : List Nat
  deriving DecidableEq, Repr

def Marks.none : Marks := ⟨[], [], []⟩

def Marks.append (a b : Marks) : Marks := ⟨a.faces ++ b.faces, a.blocks ++ b.blocks, a.entries ++ b.entries⟩

/-- The used flags one pass of steps 1 to 3 would set: what it read and found present. -/
def readMarks (s : State) (f slot : Nat) : Marks :=
  match readSlot s f slot with
  | .faceAbsent => Marks.none
  | .blockAbsent => ⟨[f], [], []⟩
  | .found b e => ⟨[f], [b], [e]⟩

def ClassMask.inter (a b : ClassMask) : ClassMask :=
  ⟨a.planned && b.planned, a.restore && b.restore, a.maint && b.maint⟩

/-- R4: the result of one pass, with the guard and class mask accumulated before it. -/
def passResult (s : State) (f slot : Nat) (guard : Bool) (mask : ClassMask) : WalkResult :=
  match readSlot s f slot with
  | .faceAbsent => .faceAbsent
  | .blockAbsent => .blockAbsent
  | .found b e =>
    .found (s.dir.entries.get e).kind (guard || (s.face f).guard || (s.dir.blocks.get b).guard)
      (mask.inter (s.face f).mask)

/-- R4: a walk that follows links (ADMIT, ADOPT, STEP, TRIM): its result and what it read. -/
def walk (s : State) (f slot : Nat) : WalkResult × Marks :=
  match passResult s f slot false ClassMask.all with
  | .found (.indirect hf hs) g m =>
    (passResult s hf hs g m, (readMarks s f slot).append (readMarks s hf hs))
  | r => (r, readMarks s f slot)

/-- The slots of a span. -/
def spanSlots (first count : Nat) : List Nat := (List.range count).map (first + ·)

/-- R6: the used flags set by marking walks. -/
def setMarks (m : Marks) (s : State) : State :=
  let s := m.faces.foldl (fun s f => s.modFace f fun x => { x with used := true }) s
  let s := m.blocks.foldl
    (fun s k => { s with dir := { s.dir with blocks := s.dir.blocks.mod k fun x => { x with used := true } } }) s
  m.entries.foldl (fun s k => s.modEntry k fun x => { x with used := true }) s

/-- The walks of every slot of a span on one face. -/
def spanWalks (s : State) (f first count : Nat) : List (WalkResult × Marks) :=
  (spanSlots first count).map (walk s f)

/-- All that a list of walks read. -/
def allMarks (l : List (WalkResult × Marks)) : Marks := l.foldr (fun w m => w.2.append m) Marks.none

def WalkResult.absent : WalkResult → Bool
  | .found _ _ _ => false
  | _ => true

def WalkResult.bars (c : OriginClass) : WalkResult → Bool
  | .found _ _ m => !m.allows c
  | _ => false

def WalkResult.guarded : WalkResult → Bool
  | .found _ g _ => g
  | _ => false

def WalkResult.busy : WalkResult → Bool
  | .found .free _ _ => false
  | .found _ _ _ => true
  | _ => false

/-- R7: the reason a span fails with, reasons ranked before slots; none when it passes. -/
def judgeWalks (c : OriginClass) (l : List WalkResult) : Option Reason :=
  if l.any WalkResult.absent then some .notEquipped
  else if l.any (WalkResult.bars c) then some .classBarred
  else if l.any WalkResult.guarded then some .guarded
  else if l.any WalkResult.busy then some .spectrumBusy
  else none

/-- The walks of an ADMIT or ADOPT request: every slot of the span on the egress and on the ingress face. -/
def admitWalks (s : State) (ing eg first count : Nat) : List (WalkResult × Marks) :=
  spanWalks s eg first count ++ spanWalks s ing first count

/-- R7: the judgement of an ADMIT or ADOPT request and the state with its walks' marks. -/
def judgeSpan (ing eg first count : Nat) (c : OriginClass) (s : State) : Option Reason × State :=
  let ws := admitWalks s ing eg first count
  (judgeWalks c (ws.map (·.1)), setMarks (allMarks ws) s)

/-- R8: the span guard of the walks of a STEP or TRIM request. -/
def spanGuard (s : State) (f first count : Nat) : Bool :=
  (spanWalks s f first count).any fun w => w.1.absent || w.1.guarded

/-- R6, R8: a STEP request: the span guard, and the state with the walks' marks. -/
def stepWalk (f first count : Nat) (s : State) : Bool × State :=
  (spanGuard s f first count, setMarks (allMarks (spanWalks s f first count)) s)

/-- The kind of the entry governing a slot set to `k`; nothing when no present block governs it. -/
def setKind (f slot : Nat) (k : EntryKind) (s : State) : State :=
  match entryKey s f slot with
  | none => s
  | some e => s.modEntry e fun x => { x with kind := k }

/-- R9: the entries written by a reservation. -/
def reserveSpan (handle ing eg first count : Nat) (s : State) : State :=
  (spanSlots first count).foldl
    (fun s slot => setKind ing slot (.indirect eg slot) (setKind eg slot (.owned handle) s)) s

/-- R10: one entry returned to FREE where a FREE walk finds it of the expected kind. -/
def freeSlot (f slot : Nat) (expected : EntryKind) (s : State) : State :=
  match readSlot s f slot with
  | .found _ e => if (s.dir.entries.get e).kind = expected then s.modEntry e fun x => { x with kind := .free } else s
  | _ => s

/-- R10: the freeing of a span. -/
def freeSpan (handle ing eg first count : Nat) (s : State) : State :=
  (spanSlots first count).foldl
    (fun s slot => freeSlot ing slot (.indirect eg slot) (freeSlot eg slot (.owned handle) s)) s

/-- R11: the modified flag of each entry of the span on the egress face that is OWNED by the handle. -/
def markModified (handle eg first count : Nat) (s : State) : State :=
  (spanSlots first count).foldl
    (fun s slot => match entryKey s eg slot with
      | none => s
      | some e =>
        if (s.dir.entries.get e).kind = .owned handle then s.modEntry e fun x => { x with modified := true } else s) s

/-- R12: a face's live slot count raised. -/
def raiseLive (f n : Nat) (s : State) : State := s.modFace f fun x => { x with live := x.live + n }

/-- R12: a face's live slot count lowered. -/
def lowerLive (f n : Nat) (s : State) : State := s.modFace f fun x => { x with live := x.live - n }

/-- OWNED, INDIRECT and FOREIGN entries: the kinds that keep a block or face from becoming absent (R15, R16). -/
def EntryKind.occupied : EntryKind → Bool
  | .free | .barred => false
  | _ => true

/-- A page holds an OWNED, INDIRECT or FOREIGN entry. -/
def pageOccupied (s : State) (page : Nat) : Bool := (List.range 16).any fun i => (s.entry page i).kind.occupied

/-- A present block of the face governs an OWNED, INDIRECT or FOREIGN entry (R15). -/
def faceOccupied (s : State) (f : Nat) : Bool :=
  (List.range 24).any fun b => (s.block f b).present && pageOccupied s (s.block f b).page

/-- R16: the page is named by a present block descriptor other than block `b` of face `f`. -/
def pageNamedElsewhere (s : State) (f b page : Nat) : Bool :=
  (List.range 12).any fun g => (List.range 24).any fun c =>
    !(g == f && c == b) && (s.block g c).present && (s.block g c).page == page

/-- R17: all sixteen entries FREE with both flags clear. -/
def clearPage (page : Nat) (s : State) : State :=
  (List.range 16).foldl (fun s i => s.modEntry (16 * page + i) fun _ => SlotEntry.initial) s

/-- The used and modified flags of the sixteen entries of a page cleared (R19). -/
def clearPageFlags (page : Nat) (s : State) : State :=
  (List.range 16).foldl
    (fun s i => s.modEntry (16 * page + i) fun x => { x with used := false, modified := false }) s

/-- R19: the flags of one block: the descriptor's used flag and, when it is present, those of its page. -/
def clearBlockFlags (f b : Nat) (s : State) : State :=
  let s' := s.modBlock f b fun x => { x with used := false }
  if (s.block f b).present then clearPageFlags (s.block f b).page s' else s'

end Sys2Proof.Machine
end

