-- ==== Sys2Proof/Machine/Contexts.lean ====
section
/-! DEFINITION. The Context Table (chapter 2): lookup, allocation, change of state, freeing; and the giving up
of a place in a ramp queue or of a ramp turn (R97), which freeing asks for, and with it the start of a pending audit
(R137). -/

namespace Sys2Proof.Machine

/-- R24: the non-FREE record holding a lightpath ID, with its handle; ID 0 finds none. -/
def findLp (s : State) (id : Nat) : Option (Nat × Context) :=
  if id = 0 then none
  else s.table.recs.cells.findSome? fun x => x.2.bind fun c => if c.lpId = id then some (x.1, c) else none

/-- R22: the record at a handle while it still holds the instance. -/
def current (s : State) (h inst : Nat) : Option Context := (s.ctx h).filter fun c => c.inst = inst

/-- The handles of the non-FREE records, in increasing order. -/
def handles (s : State) : List Nat := (s.table.recs.cells.filter fun x => x.2.isSome).map (·.1)

/-- R37: the contexts in a state other than FREE and IN_SERVICE. -/
def activeCount (s : State) : Nat :=
  (s.table.recs.cells.filter fun x => (x.2.map fun c => c.st.active).getD false).length

/-- R23: the FREE record with the lowest handle. -/
def lowestFree (s : State) : Option Nat := (List.range 256).find? fun h => (s.ctx h).isNone

/-- R26: the port of a face: a line face's own number, none for an add/drop face. -/
def portOfFace (f : Nat) : Option Nat := if f ≤ 7 then some f else none

/-- R35: the deadline after the change to a state at time `now`; `old` is the deadline before. -/
def deadlineIn (p : Profile) (now : Nat) (old : Option Nat) : CtxState → Option Nat
  | .reserved => some (now + 1000 * p.setupTimeout)
  | .probing => old
  | .armed => some (now + 1000 * p.armTimeout)
  | .settled => some (now + 1000 * p.readyTimeout)
  | .faulted => if p.faultHold = 0 then none else some (now + 1000 * p.faultHold)
  | .ramping | .inService | .withdrawing => none

/-- R21: the allocation number after one allocation. -/
def nextInstance (n : Nat) : Nat := if n = 4294967295 then 1 else n + 1

/-- R26, R29: a new record of a COMMISSION or SETUP. -/
def newContext (s : State) (role : Role) (ing eg : Nat) (b : SetupBody) (hopIndex : Nat) : Context :=
  { inst := s.table.nextInst, lpId := b.id, role := role, ingress := ing, egress := eg,
    upPort := portOfFace ing, downPort := portOfFace eg, first := b.first, count := b.count, cls := b.cls,
    profile := b.profile, trim := b.trim, pilot := b.pilot, hopIndex := hopIndex, hopCount := b.hops.length,
    st := .reserved, target := targetOf (s.faceSet eg).density b.count b.trim, atten := .blocked,
    lastReading := none, readingsUsed := 0, settledRun := 0, probeLevel := 0, adopted := false,
    guardHeld := false, pilotValidated := false, setupAcked := role == .tail,
    deadline := deadlineIn (s.profile b.profile) s.now none .reserved,
    hopList := if role = .head then some b.hops else none, hopReports := none, watch := none, faultRec := none,
    drift := none, probeTimer := none, work := ProbeWork.none, carried := none, rampHeld := false,
    rampDwell := none }

/-- R29, R42: a new record of an ADOPT. -/
def adoptedContext (s : State) (b : AdoptBody) : Context :=
  { inst := s.table.nextInst, lpId := b.id, role := b.role, ingress := b.ingress, egress := b.egress,
    upPort := portOfFace b.ingress, downPort := portOfFace b.egress, first := b.first, count := b.count,
    cls := b.cls, profile := b.profile, trim := b.trim, pilot := 0, hopIndex := b.hopIndex,
    hopCount := b.hopCount, st := .inService, target := targetOf (s.faceSet b.egress).density b.count b.trim,
    atten := Atten.ofCode b.atten, lastReading := none, readingsUsed := 0, settledRun := 0, probeLevel := 0,
    adopted := true, guardHeld := false, pilotValidated := false, setupAcked := true, deadline := none,
    hopList := if b.role = .head then some b.hops else none, hopReports := none, watch := none,
    faultRec := none, drift := none, probeTimer := none, work := ProbeWork.none, carried := none,
    rampHeld := false, rampDwell := none }

/-- R21, R23: the record at `h` takes the allocation number, which advances. -/
def allocate (h : Nat) (c : Context) (s : State) : State :=
  let s := s.setCtx h (some c)
  { s with table := { s.table with nextInst := nextInstance s.table.nextInst } }

/-- R35: the record's part of a change of state. -/
def Context.enter (c : Context) (p : Profile) (now : Nat) (st : CtxState) : Context :=
  { c with st := st, deadline := deadlineIn p now c.deadline st, watch := none,
           drift := if c.st = .inService then none else c.drift }

/-- R12: the live slot count change between two states. -/
def liveChange (f n : Nat) (was now : Bool) (s : State) : State :=
  if !was && now then raiseLive f n s else if was && !now then lowerLive f n s else s

/-- R35: the change of the context at `h` (which is `c`) to state `st`: state, deadline, watch, drift record
and live slot count in one take. -/
def changeState (h : Nat) (c : Context) (st : CtxState) (s : State) : State :=
  liveChange c.egress c.count c.st.counted st.counted
    (s.modCtx h fun c => c.enter (s.profile c.profile) s.now st)

/-- R138: the records IN_SERVICE whose egress face is `f`, in increasing handle order, with their instances. -/
def auditList (s : State) (f : Nat) : List (Nat × Nat) :=
  s.table.recs.cells.filterMap fun x => x.2.bind fun c =>
    if c.st = .inService ∧ c.egress = f then some (x.1, c.inst) else none

/-- R137: a pending audit begins when the step-in-progress indication is clear: its list is taken at once, its
first entry is measured in this take. -/
def judgeAudit (f : Nat) (s : State) : State :=
  if (s.auditFace f).pending && !(s.rampFace f).inStep then
    (s.modAudit f fun a => { a with pending := false, running := true, list := auditList s f, pos := 0 }).push
      [.measure f]
  else s

/-- R99, R137: the step-in-progress indication cleared, and a pending audit judged. -/
def clearStep (f : Nat) (s : State) : State :=
  if (s.rampFace f).inStep then judgeAudit f (s.modRamp f fun r => { r with inStep := false }) else s

/-- R97: the turn of face `f` released by its holder: turn free, dwell cancelled, held GET dropped, step
indication cleared, the grant judged. -/
def releaseTurn (f h : Nat) (s : State) : State :=
  let s := s.push [.judgeGrant f]
  let s := clearStep f s
  let s := s.modRamp f fun r => { r with turn := none, heldGet := false }
  s.modCtx h fun c => { c with rampDwell := none }

/-- R97: the context at `h` gives up the turn or the queue place it has on its egress face; nothing when it has
neither. -/
def leaveRamp (h : Nat) (c : Context) (s : State) : State :=
  let r := s.rampFace c.egress
  if r.turn = some (h, c.inst) then releaseTurn c.egress h s
  else if r.queue.any (fun e => e.handle = h && e.inst = c.inst) then
    (s.modRamp c.egress fun r => { r with queue := r.queue.filter fun e => !(e.handle = h && e.inst = c.inst) }).push
      [.judgeGrant c.egress]
  else s

/-- R25: the record at `h` (which is `c`) freed in one take: queue place or turn given up, span freed, live
count lowered if it was counted, and every field, part and timer of the record gone. -/
def freeRecord (h : Nat) (c : Context) (s : State) : State :=
  let s := leaveRamp h c s
  let s := freeSpan h c.ingress c.egress c.first c.count s
  let s := liveChange c.egress c.count c.st.counted false s
  s.setCtx h none

end Sys2Proof.Machine
end

