-- ==== Sys2Proof/Machine/Bus.lean ====
section
/-! DEFINITION. The Element Bus Controller (chapter 8): hand-over, choice, start and end of a transaction. -/

namespace Sys2Proof.Machine

def ElementBus.queue (b : ElementBus) : BusClass → List Request
  | .safety => b.safetyQ
  | .ramp => b.rampQ
  | .audit => b.auditQ
  | .mgmt => b.mgmtQ

def ElementBus.setQueue (b : ElementBus) (c : BusClass) (q : List Request) : ElementBus :=
  match c with
  | .safety => { b with safetyQ := q }
  | .ramp => { b with rampQ := q }
  | .audit => { b with auditQ := q }
  | .mgmt => { b with mgmtQ := q }

/-- R149: the capacities of the queues. -/
def BusClass.capacity : BusClass → Nat
  | .safety => 16
  | .ramp => 16
  | .audit => 12
  | .mgmt => 4

/-- All queued requests, SAFETY, RAMP, AUDIT, MGMT, each oldest first. -/
def ElementBus.queued (b : ElementBus) : List Request := b.safetyQ ++ b.rampQ ++ b.auditQ ++ b.mgmtQ

/-- R148: a request placed at the back of its class queue, stamped with the hand-over sequence. -/
def place (c : BusClass) (e : Nat) (t : Txn) (dither : Bool) (first count : Nat) (tag : Tag) (s : State) : State :=
  let r : Request := { cls := c, stamp := s.bus.seq, elem := e, txn := t, dither := dither, first := first,
                       count := count, tag := tag }
  { s with bus := { (s.bus.setQueue c (s.bus.queue c ++ [r])) with seq := s.bus.seq + 1 } }

/-- R148: whether a request for the resolved element fails at once. -/
def failsAtOnce (c : BusClass) (e : Option Nat) (s : State) : Bool :=
  match e with
  | none => true
  | some e => (s.elem e).health == .failed || c.capacity ≤ (s.bus.queue c).length

/-- R148: a request handed over: placed, or failed at once and the failure handed back in this take. -/
def handOver (c : BusClass) (e : Option Nat) (t : Txn) (dither : Bool) (first count : Nat) (tag : Tag)
    (s : State) : State :=
  match e with
  | none => s.push [.result tag .failed]
  | some e =>
    if failsAtOnce c (some e) s then s.push [.result tag .failed] else place c e t dither first count tag s

/-- A request for the context at `h` (which is `c`) to the WSS of its egress face. -/
def askWss (cl : BusClass) (t : Txn) (dither : Bool) (p : Purpose) (h : Nat) (c : Context) (s : State) : State :=
  handOver cl (s.faceSet c.egress).wss t dither c.first c.count (.ctx h c.inst p) s

/-- A GET-POWER for the context at `h` (which is `c`) to the monitor of its egress face. -/
def askMonitor (cl : BusClass) (p : Purpose) (h : Nat) (c : Context) (s : State) : State :=
  handOver cl (s.faceSet c.egress).monitor .getPower false c.first c.count (.ctx h c.inst p) s

/-- R150: the safety work of a span: a SET-BLOCK, with a DITHER-STOP before it for a dithering head. -/
def askSafety (h : Nat) (c : Context) (s : State) : State :=
  askWss .safety .setBlock c.work.dithering .safety h c s

/-- R151: no older request for the same element whose span shares a slot is still queued. (The bus is free
when this is judged.) -/
def unblocked (b : ElementBus) (r : Request) : Bool :=
  b.queued.all fun q => !(q.stamp < r.stamp && q.elem == r.elem && spansMeet q.first q.count r.first r.count)

/-- R151: a request is eligible. -/
def eligible (b : ElementBus) (r : Request) : Bool := (b.elems.get r.elem).settleUntil.isNone && unblocked b r

/-- The oldest eligible request of a class. -/
def oldestEligible (b : ElementBus) (c : BusClass) : Option Request := (b.queue c).find? (eligible b)

/-- R152: the classes other than SAFETY in the cycle after the class last served. -/
def cycleAfter : BusClass → List BusClass
  | .ramp => [.audit, .mgmt, .ramp]
  | .audit => [.mgmt, .ramp, .audit]
  | _ => [.ramp, .audit, .mgmt]

/-- R152: the request the arbiter chooses. -/
def chosen (b : ElementBus) : Option Request :=
  ((.safety :: cycleAfter b.rr).findSome? (oldestEligible b))

/-- R153: a turnaround is inserted before the chosen transaction. -/
def needsTurnaround (last : Option (Nat × Bool)) (e : Nat) (t : Txn) : Bool :=
  match last with
  | none => true
  | some (e', wasSetting) => e' != e || (t.isSetting && !wasSetting)

/-- R150: the transaction of a chosen request: its DITHER-STOP while that is still to run. -/
def Request.next (r : Request) : Txn := if r.dither then .ditherStop else r.txn

/-- R150, R152: the chosen request leaves its queue, or keeps its place with its SET-BLOCK. -/
def dequeue (r : Request) (q : List Request) : List Request :=
  if r.dither then q.map fun x => if x.stamp = r.stamp then { x with dither := false } else x
  else q.filter fun x => x.stamp ≠ r.stamp

/-- R147, R152, R153: the chosen request takes the bus. DESIGN CHOICE (log entry 24): the sending of the request to
the element takes no time, so its response timeout runs from the choice, or from the end of the turnaround. -/
def startTxn (r : Request) (s : State) : State :=
  let b := s.bus
  let us := s.switch.settings.turnaround
  let timeout := (b.elems.get r.elem).timeout
  let phase : BusPhase :=
    if needsTurnaround b.last r.elem r.next && 0 < us then .turnaround us else .waiting (s.now + timeout)
  let b := b.setQueue r.cls (dequeue r (b.queue r.cls))
  { s with bus := { b with
      rr := if r.cls = .safety then b.rr else r.cls,
      onBus := some { req := r, txn := r.next, serial := b.serial, timeout := timeout, phase := phase, orphan := false },
      serial := b.serial + 1 } }

/-- R152: the arbiter chooses when the bus is free and a queued request is eligible. -/
def arbitrate (s : State) : State :=
  match s.bus.onBus, chosen s.bus with
  | none, some r => startTxn r s
  | _, _ => s

/-- R155: every request queued for the element leaves its queue, and each failure is handed back. -/
def failQueued (e : Nat) (s : State) : State :=
  let keep : List Request → List Request := fun q => q.filter fun (r : Request) => r.elem ≠ e
  let b := s.bus
  { s with bus := { b with safetyQ := keep b.safetyQ, rampQ := keep b.rampQ, auditQ := keep b.auditQ,
                           mgmtQ := keep b.mgmtQ } }.push
    ((b.queued.filter fun (r : Request) => r.elem = e).map fun (r : Request) => Work.result r.tag .failed)

/-- R155: the outcome's effect on the element's health and failures counter. -/
def Element.afterOutcome (x : Element) (success : Bool) : Element :=
  { x with health := x.health.after success, failures := if success then x.failures else bump x.failures }

/-- R155: health, failures counter, and what becoming FAILED brings. -/
def healthStep (e : Nat) (success : Bool) (s : State) : State :=
  let was := (s.elem e).health
  let s := s.modElem e fun x => x.afterOutcome success
  if was ≠ .failed && (s.elem e).health == .failed then failQueued e (event (evElementFailed e) s) else s

/-- R147: for a setting, whatever its outcome, the settle period starts; none when the settle time is 0. -/
def startSettle (e : Nat) (t : Txn) (s : State) : State :=
  if t.isSetting then
    s.modElem e fun x => { x with settleUntil := if x.settle = 0 then none else some (s.now + x.settle) }
  else s

/-- R147, R154, R158: the transaction `b` on the bus ends with result `r`: the bus is free, health, settle
period and note are updated, and the outcome is handed back, unless NODE RESET left it to no requester. The
outcome of the DITHER-STOP of a safety request has no effect on its requester (R127). -/
def endTxn (b : OnBus) (r : Result) (s : State) : State :=
  let own : List Work := if b.orphan || b.req.dither then [] else [.result b.req.tag r]
  let s := { s with bus := { s.bus with onBus := none, last := some (b.req.elem, b.txn.isSetting) } }
  let s := s.push own
  startSettle b.req.elem b.txn (healthStep b.req.elem (r != .failed) s)

end Sys2Proof.Machine
end

