-- ==== Sys2Proof/Machine/Faults.lean ====
section
/-! DEFINITION. Faults (section 6.4): entry into FAULTED, the end of a withdrawal by a fault, FAULT frames. -/

namespace Sys2Proof.Machine

/-- TEARDOWN out of a head's downstream port: its hop list, cursor 1 (R110, R121, R130). -/
def sendTeardown (c : Context) (s : State) : State :=
  sendOn c.downPort .teardown (TeardownBody.encode ⟨c.lpId, 1, c.hopList.getD []⟩) s

/-- One FAULT frame out of a port, travelling in a direction (R128). -/
def sendFault (p : Option Nat) (travel : Direction) (c : Context) (cause : Cause) (origin : Nat) (s : State) :
    State :=
  sendOn p .fault (faultBody c.lpId cause origin travel) s

/-- R126: the timers, waiting probe work, carried reports and ramp-held note a fault entry drops. -/
def Context.dropWork (c : Context) : Context :=
  { c with probeTimer := none, work := { c.work with level := none, start := false, stop := false },
           carried := none, rampHeld := false }

/-- R126: the record at `h` (which is `c`) enters FAULTED in one take; `up` and `down` say whether a FAULT leaves
through its upstream and downstream port (R128, R132). -/
def enterFaulted (h : Nat) (c : Context) (cause : Cause) (origin : Nat) (received : Direction) (up down : Bool)
    (s : State) : State :=
  let s := leaveRamp h c s
  let s := s.modCtx h Context.dropWork
  let s := changeState h c .faulted s
  let s := s.modCtx h fun c => { c with faultRec := some ⟨cause, origin, received, false⟩ }
  let s := askSafety h c s
  let s := s.modCtx h fun c => { c with work := { c.work with dithering := false } }
  let s := if up then sendFault c.upPort .upstream c cause origin s else s
  let s := if down then sendFault c.downPort .downstream c cause origin s else s
  if c.role = .head then tellEvent h (evFault c.lpId cause origin) s else s

/-- R130: a WITHDRAWING head ends its withdrawal at once. -/
def endWithdrawal (h : Nat) (c : Context) (s : State) : State :=
  freeRecord h c (sendTeardown c (askWss .safety .setBlock false .safety h c s))

/-- R125: a local fault of the record at `h` (which is `c`): FAULT frames out of the ports that `up` and `down`
name (both, but for a link loss). -/
def localFaultOn (h : Nat) (c : Context) (cause : Cause) (up down : Bool) (s : State) : State :=
  if c.st.faultable then countLocalFault (enterFaulted h c cause s.switch.nodeId .here up down s)
  else if c.st = .withdrawing ∧ cause = .element then countLocalFault (endWithdrawal h c s)
  else s

/-- R125, R128: a local fault other than LINK_LOSS. -/
def localFault (h : Nat) (c : Context) (cause : Cause) (s : State) : State := localFaultOn h c cause true true s

/-- R132: LINK_LOSS of port `p` at the record at `h`: its FAULT goes out of its other port alone. -/
def linkLossFault (p h : Nat) (s : State) : State :=
  match s.ctx h with
  | none => s
  | some c =>
    if c.st.faultable ∧ (c.upPort = some p ∨ c.downPort = some p) then
      localFaultOn h c .linkLoss (c.upPort ≠ some p) (c.downPort ≠ some p) s
    else s

/-- R129: whether a FAULT travelling so fits the record, by the port it arrived on. -/
def faultFits (c : Context) (port : Nat) : Direction → Bool
  | .downstream => c.upPort == some port
  | .upstream => c.downPort == some port
  | .here => false

/-- R129: the direction a record's fault record gives for a FAULT travelling so. -/
def Direction.receivedFrom : Direction → Direction
  | .downstream => .upstream
  | .upstream => .downstream
  | .here => .here

/-- R129: a FAULT whose body and header have passed, from port `port`. -/
def takeFault (port id : Nat) (cause : Cause) (origin : Nat) (travel : Direction) (s : State) : State :=
  match findLp s id with
  | none => countDiscardedFault s
  | some (h, c) =>
    if c.st.faultable && faultFits c port travel then
      countReceivedFault
        (enterFaulted h c cause origin travel.receivedFrom (travel == .upstream) (travel == .downstream) s)
    else if c.st == .withdrawing && travel == .upstream && faultFits c port travel then
      countReceivedFault (endWithdrawal h c s)
    else countDiscardedFault s

end Sys2Proof.Machine
end

