-- ==== Sys2Proof/Machine/Probe.lean ====
section
/-! DEFINITION. The probe phase (chapter 4): probe element work, the head's ladder, transit and tail, the Pilot
Unit's judgement of bursts, the MAINT close. -/

namespace Sys2Proof.Machine

/-- R69: the ladder value of a level. -/
def Profile.ladder (p : Profile) : Nat → Nat
  | 0 => p.l0
  | 1 => p.l1
  | 2 => p.l2
  | _ => p.l3

/-- R69: taking level `k`: a setting is wanted when it differs from the level last asked for. -/
def ProbeWork.wantLevel (w : ProbeWork) (k : Nat) : ProbeWork :=
  if w.lastLevel = some k then w else { w with lastLevel := some k, level := some k }

/-- R96: no probe element work outstanding or waiting. -/
def ProbeWork.idle (w : ProbeWork) : Bool := !w.outstanding && w.level.isNone && !w.start && !w.stop

/-- R73: the probe work of a head that arms: a DITHER-STOP if it is dithering, else no waiting DITHER-START. -/
def ProbeWork.finish (w : ProbeWork) : ProbeWork := if w.dithering then { w with stop := true } else { w with start := false }

/-- R70: when no request is outstanding, the next waiting one is asked: level setting, then DITHER-START, then
DITHER-STOP. -/
def pumpProbe (h : Nat) (s : State) : State :=
  match s.ctx h with
  | none => s
  | some c =>
    if c.work.outstanding then s
    else match c.work.level with
      | some k =>
        let a := (s.profile c.profile).ladder k
        askWss .ramp (.setAtten a) false (.level a) h c
          (s.modCtx h fun c => { c with work := { c.work with outstanding := true, level := none } })
      | none =>
        if c.work.start then
          askWss .ramp (.ditherStart c.pilot) false .ditherStart h c
            (s.modCtx h fun c => { c with work := { c.work with outstanding := true, start := false, dithering := true } })
        else if c.work.stop then
          askWss .ramp .ditherStop false .ditherStop h c
            (s.modCtx h fun c => { c with work := { c.work with outstanding := true, stop := false, dithering := false } })
        else s

/-- The record at `h` takes probe level `k` (R72, R75, R80). -/
def takeLevel (h k : Nat) (s : State) : State :=
  pumpProbe h (s.modCtx h fun c => { c with probeLevel := k, work := c.work.wantLevel k })

/-! ## The blocking work of a MAINT close (R86 to R88) -/

/-- The closing kept under a handle and instance. -/
def closingOf (s : State) (h inst : Nat) : Option Closing :=
  s.table.closings.find? fun x => x.handle = h && x.inst = inst

/-- The closing under the handle and instance changed by `g`, or gone. -/
def setClosing (h inst : Nat) (g : Closing → Option Closing) (s : State) : State :=
  { s with table := { s.table with closings := s.table.closings.filterMap fun x =>
      if x.handle = h && x.inst = inst then g x else some x } }

/-- The next request of a closing is asked when none is outstanding: DITHER-STOP, then SET-BLOCK; the work is
gone when neither waits. -/
def pumpClosing (h inst : Nat) (s : State) : State :=
  match closingOf s h inst with
  | none => s
  | some x =>
    if x.outstanding then s
    else if x.stop then
      handOver .ramp (s.faceSet x.face).wss .ditherStop false x.first x.count (.ctx h inst .closing)
        (setClosing h inst (fun x => some { x with outstanding := true, stop := false }) s)
    else if x.block then
      handOver .ramp (s.faceSet x.face).wss .setBlock false x.first x.count (.ctx h inst .closing)
        (setClosing h inst (fun x => some { x with outstanding := true, block := false }) s)
    else setClosing h inst (fun _ => none) s

/-- R86: the close of a MAINT record at `h` (which is `c`): the record is freed, its blocking work kept. -/
def closeMaint (h : Nat) (c : Context) (s : State) : State :=
  let x : Closing := { handle := h, inst := c.inst, face := c.egress, first := c.first, count := c.count,
                       outstanding := c.work.outstanding, stop := c.work.dithering, block := true }
  let s := { s with table := { s.table with closings := s.table.closings ++ [x] } }
  pumpClosing h c.inst (freeRecord h c s)

/-! ## Results of probe work (R70) -/

/-- The result of a request of probe or closing work tagged with `h` and `inst`; `a` is the attenuation of a
level setting. -/
def takeProbeResult (h inst : Nat) (a : Option Nat) (r : Result) (s : State) : State :=
  match current s h inst with
  | some c =>
    if c.st = .probing ∨ c.st = .armed then
      let s := s.modCtx h fun c => { c with work := { c.work with outstanding := false } }
      if r = .failed then localFault h c .element s
      else
        let s := match a with
          | none => s
          | some a => markModified h c.egress c.first c.count (s.modCtx h fun c => { c with atten := .db a })
        let s := pumpProbe h s
        match s.ctx h with
        | none => s
        | some c => if c.work.idle then s.push [.judgeGrant c.egress] else s
    else s
  | none => pumpClosing h inst (setClosing h inst (fun x => some { x with outstanding := false }) s)

/-! ## The head -/

/-- R71: the head at `h` (which is `c`) begins the probe phase. -/
def beginProbe (h : Nat) (c : Context) (s : State) : State :=
  let s := changeState h c .probing s
  let s := s.modCtx h fun c =>
    { c with probeTimer := some (s.now + (s.profile c.profile).probeDwell), work := { c.work with start := true } }
  let s := takeLevel h 0 s
  sendOn c.downPort .probe (probeBody c.lpId 0) s

/-- R72: the head at `h` (which is `c`) steps its ladder, or faults at level 3. -/
def stepLadder (h : Nat) (c : Context) (s : State) : State :=
  if c.probeLevel < 3 then
    let k := c.probeLevel + 1
    let s := s.modCtx h fun c => { c with probeTimer := some (s.now + (s.profile c.profile).probeDwell) }
    sendOn c.downPort .probe (probeBody c.lpId k) (takeLevel h k s)
  else localFault h c .probeUnseen s

/-- R95: the context at `h` (which is `c`) joins its egress face's ramp queue; the grant is judged (R96). -/
def joinRamp (h : Nat) (c : Context) (s : State) : State :=
  (s.modRamp c.egress fun r => { r with queue := joinQueue r.queue ⟨h, c.inst, c.cls⟩ }).push [.judgeGrant c.egress]

/-- R73: the head at `h` (which is `c`) takes its PROBE-ACK. -/
def armHead (h : Nat) (c : Context) (s : State) : State :=
  let s := changeState h c .armed s
  let s := s.modCtx h fun c => { c with probeTimer := none, work := c.work.finish }
  joinRamp h c (pumpProbe h s)

/-- R88: the MAINT head at `h` (which is `c`) takes its verify PROBE-ACK. -/
def closeHead (h : Nat) (c : Context) (s : State) : State := tellEvent h (evVerified c.lpId) (closeMaint h c s)

/-! ## Transit and tail -/

/-- R75: a transit or tail in RESERVED or PROBING takes PROBE(k), received with header `hd` and body `body`; a
validated transit forwards it as it came (log entry 10). -/
def takeProbe (hd : Hdr) (body : List Byte) (h : Nat) (c : Context) (k : Nat) (s : State) : State :=
  let s := if c.st = .reserved then changeState h c .probing s else s
  let s := takeLevel h k s
  if c.pilotValidated then
    if c.role = .transit then relay c.downPort .probe hd body s else s
  else
    s.modCtx h fun c =>
      { c with watch := some (c.watch.getD Watch.created),
               probeTimer := some (s.now + (s.profile c.profile).probeWindow) }

/-- R80: an ARMED transit or tail answers PROBE(k), received with header `hd` and body `body`; a transit sends it
on as it came (log entry 10). -/
def answerArmed (hd : Hdr) (body : List Byte) (h : Nat) (c : Context) (k : Nat) (s : State) : State :=
  let s := if c.probeLevel < k then takeLevel h k s else s
  match c.role with
  | .transit => relay c.downPort .probe hd body s
  | .tail => sendOn c.upPort .probeAck (probeAckBody c.lpId k false) s
  | .head => s

/-- R77: the pilot of the record at `h` (which is `c`) is validated; the watch has been removed. -/
def validate (h : Nat) (c : Context) (s : State) : State :=
  let s := s.modCtx h fun c => { c with watch := none, pilotValidated := true, probeTimer := none }
  match c.role, c.cls with
  | .tail, .maint => closeMaint h c (sendOn c.upPort .probeAck (probeAckBody c.lpId c.probeLevel true) s)
  | .tail, _ => changeState h c .armed (sendOn c.upPort .probeAck (probeAckBody c.lpId c.probeLevel false) s)
  | _, _ => sendOn c.downPort .probe (probeBody c.lpId c.probeLevel) s

/-! ## The Pilot Unit -/

/-- R82: the watch after a run burst at time `now`. -/
def Watch.runBurst (w : Watch) (lo hi now : Nat) : Watch :=
  { w with run := if 0 < w.run && withinWindow lo hi w.lastRun now then w.run + 1 else 1, lastRun := some now }

/-- R83: the watch after a misroute burst on face `g` at time `now`. -/
def Watch.misrouteBurst (w : Watch) (g lo hi now : Nat) : Watch :=
  { w with
    misrun := if 0 < w.misrun && w.misFace == some g && withinWindow lo hi w.lastMis now then w.misrun + 1 else 1,
    lastMis := some now, misFace := some g }

/-- R81: the PROBING record whose watch holds the code; code 0 matches none. -/
def watchOf (s : State) (code : Nat) : Option (Nat × Context × Watch) :=
  if code = 0 then none
  else s.table.recs.cells.findSome? fun x => x.2.bind fun c =>
    c.watch.bind fun w => if c.st = .probing ∧ c.pilot = code then some (x.1, c, w) else none

/-- R81 to R84: a burst of `code` reported from face `g`. -/
def takeBurst (g code : Nat) (s : State) : State :=
  let fs := s.faceSet g
  match watchOf s code with
  | none => { s with stray := s.stray.mod g bump }
  | some (h, c, w) =>
    if c.ingress = g then
      let w' := w.runBurst fs.spacingMin fs.spacingMax s.now
      if 4 ≤ w'.run then validate h c s else s.modCtx h fun c => { c with watch := some w' }
    else
      let w' := w.misrouteBurst g fs.spacingMin fs.spacingMax s.now
      let s := s.modCtx h fun c => { c with watch := some w' }
      if 4 ≤ w'.misrun then localFault h c .misroute s else s

end Sys2Proof.Machine
end

