-- ==== Sys2Proof/Machine/Ramp.lean ====
section
/-! DEFINITION. The Power Ramp Engine (chapter 5): grant, closed-loop step, settling, withdrawal ramp. -/

namespace Sys2Proof.Machine

/-- R99: the ramp dwell of the context at `h` (which is `c`) started; the step is no longer in progress. -/
def startDwell (h : Nat) (c : Context) (s : State) : State :=
  clearStep c.egress
    (s.modCtx h fun x => { x with rampDwell := some (s.now + (s.profile c.profile).stepDwell) })

/-- R101: the GET of a step on face `f` handed to the bus; the step is in progress. -/
def handGet (f h : Nat) (c : Context) (s : State) : State :=
  askMonitor .ramp .rampGet h c (s.modRamp f fun r => { r with inStep := true })

/-- R99 to R101: the closed-loop step of the RAMPING context at `h` (which is `c`) begins. -/
def startStep (h : Nat) (c : Context) (s : State) : State :=
  let g := stepWalk c.egress c.first c.count s
  if g.1 then startDwell h c (g.2.modCtx h fun c => { c with guardHeld := true, rampHeld := true })
  else
    let s := g.2.modCtx h fun c => { c with guardHeld := false }
    if (s.auditFace c.egress).running then s.modRamp c.egress fun r => { r with heldGet := true }
    else handGet c.egress h c s

/-- R109: a withdrawal step of the WITHDRAWING head at `h` (which is `c`). -/
def withdrawStep (h : Nat) (c : Context) (s : State) : State :=
  match c.atten with
  | .blocked => askWss .ramp .setBlock false .withdrawBlock h c s
  | .db a =>
    if a = 2500 then askWss .ramp .setBlock false .withdrawBlock h c s
    else
      let b := min (a + (s.profile c.profile).withdrawStep) 2500
      askWss .ramp (.setAtten b) false (.withdrawSet b) h c s

/-- R96: the grant of face `f`'s turn to queue entry `e`, whose record is `c`, which is ARMED or WITHDRAWING (R95). -/
def grant (f : Nat) (e : QEntry) (c : Context) (s : State) : State :=
  let target := targetOf (s.faceSet f).density c.count c.trim
  let held := (s.modRamp f fun r => { r with queue := r.queue.tail, turn := some (e.handle, e.inst) }).modCtx e.handle
    fun c => { c with target := target, rampHeld := false }
  match c.st with
  | .armed => startStep e.handle c (changeState e.handle c .ramping held)
  | .withdrawing => withdrawStep e.handle c held
  | _ => s

/-- R96: the grant conditions of face `f` judged. -/
def judgeGrant (f : Nat) (s : State) : State :=
  match (s.rampFace f).turn, (s.rampFace f).queue with
  | none, e :: _ =>
    match current s e.handle e.inst with
    | some c => if c.work.idle then grant f e c s else s
    | none => s
  | _, _ => s

/-- R114: the hop report of the record `c` as it stands. -/
def hopReport (s : State) (c : Context) : HopReport :=
  { node := s.switch.nodeId, atten := c.atten, reading := c.lastReading.getD (-32768), used := c.readingsUsed,
    guardHeld := c.rampHeld }

/-- R107, R115, R117: the context at `h` (which is `c`, its reading applied) settles. DEDUCED (log entry 2): the
turn is released first, with the list of a pending audit taken then (R137, R142); the Controller's part (ADVANCE, or
READY and the tail's IN_SERVICE) follows; the audit's first entry is measured and the grant judged after it. -/
def settle (h : Nat) (c : Context) (s : State) : State :=
  let reports := (c.carried.getD []) ++ [hopReport s c]
  let s := changeState h c .settled s
  let s := leaveRamp h c s
  match c.role with
  | .head => if c.cls = .maint then s else sendOn c.downPort .advance (reportsBody c.lpId [hopReport s c]) s
  | .transit =>
    sendOn c.downPort .advance (reportsBody c.lpId reports) (s.modCtx h fun c => { c with carried := none })
  | .tail =>
    let s := sendOn c.upPort .ready (reportsBody c.lpId reports) (s.modCtx h fun c => { c with carried := none })
    changeState h { c with st := .settled } .inService s

/-- R106: the setting of a step with error `e`. -/
def stepSetting (h : Nat) (c : Context) (e : Int) (s : State) : State :=
  let p := s.profile c.profile
  let limit := stepLimit p.sMax s.resp.overlay.stepCeiling (s.face c.egress).live (s.faceSet c.egress).transient
  let a := stepAtten e c.atten.asNumber (stepChange e p.gain limit)
  askWss .ramp (.setAtten a) false (.rampSet a) h c s

/-- What a reading calls for (R104, R105). -/
inductive Verdict where
  | fault (c : Cause)
  | settle
  | dwell
  | set
  deriving DecidableEq, Repr

/-- R104, R105: the judgement of reading `p` against ceiling power and target; `run` and `used` are the settled
run and readings used with this reading counted. -/
def judgeReading (pr : Profile) (ceiling target : Int) (run used : Nat) (att : Nat) (p : Int) : Verdict :=
  let e := target - p
  if ceiling < p then .fault .overpower
  else if e.natAbs ≤ pr.deadband then
    if pr.settleCount ≤ run then .settle
    else if pr.maxSteps ≤ used then .fault .stepExhausted
    else .dwell
  else if pr.maxSteps ≤ used then .fault .stepExhausted
  else if 0 < e ∧ att = 0 then .fault .shortfall
  else if e < 0 ∧ att = 2500 then .fault .excess
  else .set

/-- R102, R104, R105: the settled run after reading `p`; a reading above the ceiling power is not judged against
the deadband. -/
def runAfter (pr : Profile) (ceiling target : Int) (run : Nat) (p : Int) : Nat :=
  if ceiling < p then run else if (target - p).natAbs ≤ pr.deadband then run + 1 else 0

/-- R102: the reading `p` applied to the RAMPING context at `h` (which is `c`), and judged. -/
def takeReading (h : Nat) (c : Context) (p : Int) (s : State) : State :=
  let pr := s.profile c.profile
  let ceiling := (s.faceSet c.egress).ceilingPower
  let c' : Context := { c with lastReading := some p, readingsUsed := c.readingsUsed + 1,
                               settledRun := runAfter pr ceiling c.target c.settledRun p }
  let s := s.setCtx h (some c')
  match judgeReading pr ceiling c.target c'.settledRun c'.readingsUsed c.atten.asNumber p with
  | .fault cause => localFault h c' cause s
  | .settle => settle h c' s
  | .dwell => startDwell h c' s
  | .set => stepSetting h c' (c.target - p) s

/-- R106, R109: attenuation `a` recorded for the context at `h` (which is `c`), slots marked, dwell started. -/
def takeSetting (h : Nat) (c : Context) (a : Atten) (s : State) : State :=
  startDwell h c (markModified h c.egress c.first c.count (s.modCtx h fun c => { c with atten := a }))

/-- R110: the withdrawal's SET-BLOCK has succeeded: TEARDOWN, and the record is freed. -/
def finishWithdrawal (h : Nat) (c : Context) (s : State) : State :=
  let s := markModified h c.egress c.first c.count (s.modCtx h fun c => { c with atten := .blocked })
  freeRecord h c (sendTeardown c s)

/-- The result of a ramp or withdrawal request tagged with `h` and `inst` (R102, R106, R109, R111). -/
def takeRampResult (h inst : Nat) (p : Purpose) (r : Result) (s : State) : State :=
  match current s h inst with
  | none => s
  | some c =>
    match c.st, p, r with
    | .ramping, .rampGet, r =>
      match reading r with
      | some x => takeReading h c x s
      | none => localFault h c .element s
    | .ramping, .rampSet _, .failed => localFault h c .element s
    | .ramping, .rampSet a, _ => takeSetting h c (.db a) s
    | .withdrawing, .withdrawSet _, .failed => localFault h c .element s
    | .withdrawing, .withdrawSet a, _ => takeSetting h c (.db a) s
    | .withdrawing, .withdrawBlock, .failed => localFault h c .element s
    | .withdrawing, .withdrawBlock, _ => finishWithdrawal h c s
    | _, _, _ => s

/-- R127: the result of a safety request, applied while the record holds the instance and is FAULTED. -/
def takeSafetyResult (h inst : Nat) (r : Result) (s : State) : State :=
  match current s h inst with
  | none => s
  | some c =>
    if c.st ≠ .faulted then s
    else if r = .failed then
      s.modCtx h fun c => { c with faultRec := c.faultRec.map fun x => { x with unconfirmed := true } }
    else s.modCtx h fun c => { c with atten := .blocked }

end Sys2Proof.Machine
end

