-- ==== Sys2Proof/Machine/Audit.lean ====
section
/-! DEFINITION. The Power Audit (chapter 7). -/

namespace Sys2Proof.Machine

/-- R138: the entry being measured is finished; the pass goes on. -/
def finishEntry (f : Nat) (s : State) : State :=
  (s.modAudit f fun a => { a with pos := a.pos + 1 }).push [.measure f]

/-- R138: the pass ends: the running indication cleared, the list dropped, and a held GET of the turn's holder
handed to the bus. -/
def endPass (f : Nat) (s : State) : State :=
  let s := s.modAudit f fun a => { a with running := false, list := [], pos := 0 }
  let r := s.rampFace f
  if r.heldGet then
    let s := s.modRamp f fun r => { r with heldGet := false }
    match r.turn with
    | none => s
    | some (h, inst) =>
      match current s h inst with
      | none => s
      | some c => handGet f h c s
  else s

/-- R138, R139: the entry at the position is measured, skipped, or the pass ends. -/
def measure (f : Nat) (s : State) : State :=
  let a := s.auditFace f
  if !a.running then s
  else match a.list[a.pos]? with
    | none => endPass f s
    | some (h, inst) =>
      match current s h inst with
      | none => finishEntry f s
      | some c => if c.st = .inService then askMonitor .audit (.auditGet f) h c s else finishEntry f s

/-- R140: whether the entry just read is trimmed; `d` is the drift. -/
def trims (s : State) (f : Nat) (c : Context) (d : Int) : Bool :=
  (s.faceSet f).autoTrim && s.resp.overlay.autoTrim && decide ((s.faceSet f).auditTol < d.natAbs) &&
    (c.atten != .blocked) && !spanGuard s f c.first c.count

/-- R140: the attenuation a trim would set. -/
def trimAtten (c : Context) (d : Int) : Nat := (clampInt 0 2500 ((c.atten.asNumber : Int) + trimChange d)).toNat

/-- R139, R140: the reading `p` applied to the IN_SERVICE record at `h` (which is `c`) on face `f`. -/
def takeAuditReading (f h : Nat) (c : Context) (p : Int) (s : State) : State :=
  let d := p - c.target
  let before := (c.drift.map (·.flag)).getD false
  let after := driftFlag d (s.faceSet f).auditTol
  let s := s.modCtx h fun c => { c with drift := some ⟨p, d, after⟩ }
  let s := if before = after then s else tellEvent h (evDrift c.lpId f d after) s
  if trims s f c d && trimAtten c d != c.atten.asNumber then
    askWss .audit (.setAtten (trimAtten c d)) false (.auditSet f (trimAtten c d)) h c s
  else finishEntry f s

/-- R139, R141: the result of an audit GET. -/
def takeAuditGet (f h inst : Nat) (r : Result) (s : State) : State :=
  match current s h inst with
  | none => finishEntry f s
  | some c =>
    if c.st ≠ .inService then finishEntry f s
    else match reading r with
      | some p => takeAuditReading f h c p s
      | none => finishEntry f s

/-- R140, R141: the result of a trim SET to attenuation `a`. -/
def takeAuditSet (f h inst a : Nat) (r : Result) (s : State) : State :=
  match current s h inst with
  | none => finishEntry f s
  | some c =>
    if c.st ≠ .inService ∨ r = .failed then finishEntry f s
    else finishEntry f
      (markModified h c.egress c.first c.count (s.modCtx h fun c => { c with atten := .db a }))

end Sys2Proof.Machine
end

