-- ==== Sys2Proof/Machine/Take.lean ====
section
/-! DEFINITION. How a take runs to its end: results handed back, grants judged, audit entries measured, the
contexts' events, the arbiter. -/

namespace Sys2Proof.Machine

/-- R156: the response to an ELEMENT READ whose transaction has ended. -/
def answerRead (port src : Nat) (tag : Byte) (r : Result) (s : State) : State :=
  let b := e8 reqElementRead
  match r with
  | .power p => respondTo port src tag (b ++ e8 Status.ok.code ++ s16 p ++ e8 0) s
  | .belowFloor => respondTo port src tag (b ++ e8 Status.ok.code ++ e16 Config.belowFloorPower.toNat ++ e8 1) s
  | _ => respondTo port src tag (b ++ e8 Status.elementError.code) s

/-- R154: a result handed back to its requester. -/
def takeResult (t : Tag) (r : Result) (s : State) : State :=
  match t with
  | .read port src tag => answerRead port src tag r s
  | .ctx h inst p =>
    match p with
    | .level a => takeProbeResult h inst (some a) r s
    | .ditherStart | .ditherStop | .closing => takeProbeResult h inst none r s
    | .rampGet | .rampSet _ | .withdrawSet _ | .withdrawBlock => takeRampResult h inst p r s
    | .safety => takeSafetyResult h inst r s
    | .auditGet f => takeAuditGet f h inst r s
    | .auditSet f a => takeAuditSet f h inst a r s

/-- One thing still to be done in the take. -/
def doWork (w : Work) (s : State) : State :=
  match w with
  | .result t r => takeResult t r s
  | .judgeGrant f => judgeGrant f s
  | .measure f => measure f s

/-- What is still to be done, the last asked first, until nothing is left (log entry 2). -/
def runWork : Nat → State → State
  | 0, s => s
  | n + 1, s =>
    match s.work with
    | [] => s
    | w :: ws => runWork n (doWork w { s with work := ws })

/-- All that is still to be done in the take; none of it outlives the take. -/
def settleWork (s : State) : State := { runWork Config.workFuel s with work := [] }

/-- The end of a take: what is still to be done is done, the contexts' events are handed over (R179), then the
arbiter judges the queues (R152). -/
def endTake (s : State) : State := arbitrate (sendTold (settleWork s))

end Sys2Proof.Machine
end

