-- ==== Sys2Proof/Machine/Links.lean ====
section
/-! DEFINITION. The ports (chapter 9): the line port link machine, the local port, reception, and the meanings of
the pin commands, HELLO, the port timers and the end of a transmission; power-on reset. -/

namespace Sys2Proof.Machine

/-- R160: whether the sampled node ID lets the ports leave DOWN. -/
def nodeIdValid (s : State) : Bool := s.switch.nodeId ≠ 0 && s.switch.nodeId ≠ 65535

/-- The hello interval of the face a line port serves (R160). -/
def helloInterval (s : State) (p : Nat) : Nat := (s.faceSet p).helloInterval

/-- A HELLO handed to the port's URGENT queue: own node ID and port number (R159). -/
def sendHello (p : Nat) (s : State) : State := sendAdjacent p .hello (helloBody s.switch.nodeId p) s

/-- R161: the HELLO timer started. -/
def startHelloTimer (p : Nat) (s : State) : State :=
  s.modPort p fun x => { x with helloTimer := some (s.now + helloInterval s p) }

/-- R161: a DOWN line port whose signal is present enters ACQUIRE. -/
def enterAcquire (p : Nat) (s : State) : State :=
  let s := s.modPort p fun x => { x with link := .acquire, acq := none }
  startHelloTimer p (sendHello p s)

/-- R132: every record that names the port faults on its loss, in increasing handle order; then what the faults
bring (R97) is done, and the contexts' events are handed over (R179). -/
def linkLoss (p : Nat) (s : State) : State :=
  sendTold (settleWork ((handles s).foldl (fun s h => linkLossFault p h s) s))

/-- R163: port `p` leaves UP for `link`, with acquisition record `acq`. -/
def leaveUp (p : Nat) (link : LinkState) (acq : Option Acq) (s : State) : State :=
  let nb := (s.port p).neighbour
  let s := s.modPort p fun x =>
    { x.flush with link := link, neighbour := none, acq := acq, deadTimer := none,
                   helloTimer := if link = .down then none else x.helloTimer }
  let s := if p ≤ 7 then linkLoss p s else s
  event (evLinkChange p link nb) s

/-- R162: port `p` in ACQUIRE enters UP with neighbour `n`, port `np`. -/
def enterUp (p n np : Nat) (s : State) : State :=
  let s := s.modPort p fun x =>
    { x with link := .up, neighbour := some (n, np), deadTimer := some (s.now + 3 * helloInterval s p) }
  event (evLinkChange p .up (some (n, np))) s

/-- R161: a well-formed HELLO from node `n`, port `np`, at line port `p`. DESIGN CHOICE (log entry 26): a node ID
that no node has (0, 65535) and a port number above 8 are taken as any other. -/
def lineHello (p n np : Nat) (s : State) : State :=
  let x := s.port p
  match x.link with
  | .down => s
  | .acquire =>
    match x.acq with
    | some a =>
      if a.cand = n ∧ withinThree (helloInterval s p) a.time s.now then
        let s := s.modPort p fun x => { x with acq := some ⟨n, a.count + 1, s.now⟩ }
        if 3 ≤ a.count + 1 then enterUp p n np s else s
      else s.modPort p fun x => { x with acq := some ⟨n, 1, s.now⟩ }
    | none => s.modPort p fun x => { x with acq := some ⟨n, 1, s.now⟩ }
  | .up =>
    if x.neighbour.map (·.1) = some n then
      s.modPort p fun x =>
        { x with neighbour := some (n, np), deadTimer := some (s.now + 3 * helloInterval s p) }
    else leaveUp p .acquire (some ⟨n, 1, s.now⟩) s

/-- R161, R164: a received HELLO at port `p`. One that is not well formed, a loopback, and any at port 8 are
counted malformed. -/
def takeHello (p : Nat) (body : List Byte) (s : State) : State :=
  if p = 8 then malformed p s
  else match parseHello body with
    | none => malformed p s
    | some (n, np) => if n = s.switch.nodeId then malformed p s else lineHello p n np s

/-- R165: a received frame that has passed checks 1 and 2: the rx counter, check 3, then `k`. -/
def receive (p : Nat) (isHello : Bool) (k : State → State) (s : State) : State :=
  let s := countRx p s
  if (s.port p).link ≠ .up && !isHello then countNotUp p s else k s

/-! ## Meanings -/

/-- R160, R164: line port `p` at the end of the power-on reset. -/
def powerOnLine (p : Nat) (s : State) : State :=
  if nodeIdValid s && s.pins.signal.get p then enterAcquire p s else s

/-- R164: the local port enters UP. -/
def localUp (s : State) : State :=
  event (evLinkChange 8 .up none) (s.modPort 8 fun x => { x with link := .up })

/-- R160 and the reset rule of every chapter: every table, queue, port, timer and counter at its power-on value,
the node ID as the straps read; ports whose signal or carrier is present enter ACQUIRE or UP. The pins keep their
levels; the model's transaction serial runs on (log entry 4). DESIGN CHOICE (log entry 22): a frame on a port's line
is gone, and no tx counter counts it. -/
def powerOn (straps : Nat) (s : State) : State :=
  let t := { State.resetWith straps with pins := s.pins, pending := s.pending,
                                         bus := { ElementBus.reset with serial := s.bus.serial } }
  let t := (List.range 8).foldl (fun t p => powerOnLine p t) t
  if nodeIdValid t && t.pins.carrier then localUp t else t

def execPowerOnReset (straps : BitVec 16) (s : State) : Host.Outcome State Fault Refusal :=
  .next (powerOn straps.toNat s)

/-- R161: receiver signal present. -/
def execSignalPresent (p : Fin 8) (s : State) : Host.Outcome State Fault Refusal :=
  let s := { s with pins := { s.pins with signal := s.pins.signal.set p true } }
  if (s.port p).link = .down ∧ nodeIdValid s then .next (enterAcquire p s) else .next s

/-- R161, R163: receiver signal lost. -/
def execSignalLost (p : Fin 8) (s : State) : Host.Outcome State Fault Refusal :=
  let s := { s with pins := { s.pins with signal := s.pins.signal.set p false } }
  match (s.port p).link with
  | .down => .next s
  | .acquire =>
    .next (s.modPort p fun x => { x with link := .down, acq := none, helloTimer := none, deadTimer := none })
  | .up => .next (endTake (leaveUp p .down none s))

/-- R164: carrier present. -/
def execCarrierPresent (s : State) : Host.Outcome State Fault Refusal :=
  let s := { s with pins := { s.pins with carrier := true } }
  if (s.port 8).link = .down ∧ nodeIdValid s then .next (localUp s) else .next s

/-- R164, R163: carrier lost. -/
def execCarrierLost (s : State) : Host.Outcome State Fault Refusal :=
  let s := { s with pins := { s.pins with carrier := false } }
  if (s.port 8).link = .up then .next (leaveUp 8 .down none s) else .next s

/-- R161 to R164. -/
def execHello (h : Hdr) (body : List Byte) (s : State) : Host.Outcome State Fault Refusal :=
  .next (endTake (receive h.port true (takeHello h.port body) s))

/-- A timer has expired: it is running and its time has come. -/
def due (t : Option Nat) (now : Nat) : Bool :=
  match t with
  | none => false
  | some t => t ≤ now

/-- R161: HELLO timer expiry in ACQUIRE or UP. -/
def execHelloTimerExpiry (p : Fin 8) (s : State) : Host.Outcome State Fault Refusal :=
  if due (s.port p).helloTimer s.now ∧ (s.port p).link ≠ .down then .next (startHelloTimer p (sendHello p s))
  else .next s

/-- R161: dead timer expiry in UP. -/
def execDeadTimerExpiry (p : Fin 8) (s : State) : Host.Outcome State Fault Refusal :=
  if due (s.port p).deadTimer s.now ∧ (s.port p).link = .up then .next (endTake (leaveUp p .acquire none s))
  else .next s

/-- R169: the frame on the line ends; the tx counter rises and the next frame is started. -/
def execTransmissionEnd (p : Fin 9) (s : State) : Host.Outcome State Fault Refusal :=
  match (s.port p).line with
  | none => .next s
  | some _ =>
    .next (s.modPort p fun x =>
      Port.startNext { x with line := none, counters := { x.counters with tx := bump x.counters.tx } })

end Sys2Proof.Machine
end

