-- ==== Sys2Proof/Machine/Setup.lean ====
section
/-! DEFINITION. Path setup (chapter 3): SETUP, SETUP-ACK, SETUP-REJECT, and the admission that COMMISSION shares. -/

namespace Sys2Proof.Machine

/-- R45, R67, R113: a commissioning frame: its body is judged first, then the ADJACENT and local-port checks. -/
def commissioning {α : Type} (h : Hdr) (parsed : Option α) (k : α → State → State) (s : State) : State :=
  match parsed with
  | none => malformed h.port s
  | some x => if h.port.val = 8 ∨ h.dst.toNat ≠ Config.adjacent then stray s else k x s

/-- R54: a record in RESERVED or PROBING holds the pilot code. -/
def pilotInUse (s : State) (code : Nat) : Bool :=
  s.table.recs.cells.any fun x =>
    (x.2.map fun c => (c.st == .reserved || c.st == .probing) && c.pilot == code).getD false

/-- R53, R54: the first of checks 3 to 6 that fails. -/
def admissionFailure (s : State) (b : SetupBody) : Option Reason :=
  let o := s.resp.overlay
  if (findLp s b.id).isSome then some .lpBusy
  else if !o.classes.allows b.cls then some .classBarred
  else if o.span < b.count then some .spanLimit
  else if o.concurrency ≤ activeCount s then some .nodeBusy
  else if (lowestFree s).isNone then some .tableFull
  else if 7 < b.profile then some .badProfile
  else if pilotInUse s b.pilot then some .pilotInUse
  else none

/-- An element field names an element that is not FAILED. -/
def elementReady (s : State) (e : Option Nat) : Bool :=
  match e with
  | none => false
  | some e => (s.elem e).health != .failed

/-- R55, check 8. -/
def elementsReady (s : State) (eg : Nat) : Bool :=
  elementReady s (s.faceSet eg).wss && elementReady s (s.faceSet eg).monitor

/-- How an admission ends: refused, or the handle of the new record. -/
inductive Admission where
  | refused (r : Reason)
  | made (handle : Nat)
  deriving DecidableEq, Repr

/-- R55, R9: checks 3 to 8 with the allocation and the reservation, in one take. -/
def admission (role : Role) (ing eg hopIndex : Nat) (b : SetupBody) (s : State) : Admission × State :=
  let early := admissionFailure s b
  let j := judgeSpan ing eg b.first b.count b.cls s
  match early, j.1, elementsReady s eg, lowestFree s with
  | some r, _, _, _ => (.refused r, j.2)
  | none, some r, _, _ => (.refused r, j.2)
  | none, none, false, _ => (.refused .noElement, j.2)
  | none, none, true, none => (.refused .tableFull, j.2)
  | none, none, true, some h =>
    (.made h, countAccepted
      (reserveSpan h ing eg b.first b.count (allocate h (newContext s role ing eg b hopIndex) j.2)))

/-- R59: a refused SETUP. -/
def refuseSetup (h : Hdr) (id : Nat) (r : Reason) (s : State) : State :=
  sendAdjacent h.port .setupReject (rejectBody id r s.switch.nodeId) (countRejected s)

/-- R51, R52: the role that checks 1 and 2 give this node by the hop entry `e` at the cursor, or the reason they
fail with. -/
def hopRole (s : State) (port : Nat) (b : SetupBody) (e : Hop) : Except Reason Role :=
  if e.node ≠ s.switch.nodeId ∨ e.ingress ≠ port then .error .miswired
  else
    let role : Role := if b.cursor + 1 < b.hops.length then .transit else .tail
    let faceFits := match role with
      | .transit => e.egress ≤ 7 && e.egress ≠ e.ingress
      | _ => 8 ≤ e.egress && e.egress ≤ 11
    if faceFits && spanValid b.first b.count then .ok role else .error .badHop

/-- R51 to R59: a SETUP whose body and header have passed. -/
def takeSetup (h : Hdr) (b : SetupBody) (s : State) : State :=
  match b.hops[b.cursor]? with
  | none => malformed h.port s
  | some e =>
    match hopRole s h.port b e with
    | .error r => refuseSetup h b.id r s
    | .ok role =>
      match admission role e.ingress e.egress b.cursor b s with
      | (.refused r, s) => refuseSetup h b.id r s
      | (.made _, s) =>
        match role with
        | .tail => sendOn (portOfFace e.ingress) .setupAck (idBody b.id) s
        | _ =>
          relay (portOfFace e.egress) .setup h (SetupBody.encode { b with cursor := b.cursor + 1 }) s

/-- R50: the SETUP body that passes, with its conditions. -/
def parseSetup (body : List Byte) : Option SetupBody := (SetupBody.parse true body).filter SetupBody.sound

/-- A received SETUP. -/
def onSetup (h : Hdr) (body : List Byte) (s : State) : State :=
  receive h.port false (commissioning h (parseSetup body) (takeSetup h)) s

/-- Section 3.5: the record is still waiting for a reply, and the reply arrived on its downstream port. -/
def awaitsReply (c : Context) (port : Nat) : Bool :=
  c.st == .reserved && !c.setupAcked && c.downPort == some port

/-- R60, R62: a SETUP-ACK for lightpath `id`. -/
def takeSetupAck (h : Hdr) (body : List Byte) (id : Nat) (s : State) : State :=
  match findLp s id with
  | none => stray s
  | some (n, c) =>
    if awaitsReply c h.port then
      let t := s.modCtx n fun c => { c with setupAcked := true }
      match c.role with
      | .head => beginProbe n c t
      | .transit => relay c.upPort .setupAck h body t
      | .tail => stray s
    else stray s

def onSetupAck (h : Hdr) (body : List Byte) (s : State) : State :=
  receive h.port false (commissioning h (parseId body) (takeSetupAck h body)) s

/-- R61, R63: a SETUP-REJECT. -/
def takeSetupReject (h : Hdr) (body : List Byte) (x : Nat × Reason × Nat) (s : State) : State :=
  match findLp s x.1 with
  | none => stray s
  | some (n, c) =>
    if awaitsReply c h.port then
      match c.role with
      | .head => tellEvent n (evRejected x.1 x.2.1 x.2.2) (freeRecord n c s)
      | .transit => relay c.upPort .setupReject h body (freeRecord n c s)
      | .tail => stray s
    else stray s

def onSetupReject (h : Hdr) (body : List Byte) (s : State) : State :=
  receive h.port false (commissioning h (parseReject body) (takeSetupReject h body)) s

/-! ## Meanings -/

def execSetup (h : Hdr) (body : List Byte) (s : State) : Host.Outcome State Fault Refusal :=
  .next (onSetup h body s)

def execSetupAck (h : Hdr) (body : List Byte) (s : State) : Host.Outcome State Fault Refusal :=
  .next (endTake (onSetupAck h body s))

def execSetupReject (h : Hdr) (body : List Byte) (s : State) : Host.Outcome State Fault Refusal :=
  .next (endTake (onSetupReject h body s))

end Sys2Proof.Machine
end

