-- ==== Sys2Proof/Machine/Pilot.lean ====
section
/-! DEFINITION. The probe phase's commands (chapter 4): PROBE, PROBE-ACK, PROBE-NAK, burst reports, probe dwell and
window expiries. -/

namespace Sys2Proof.Machine

/-- R68, R75, R80: PROBE(k) for lightpath `id` from port `h.port`. -/
def takeProbeFrame (h : Hdr) (body : List Byte) (x : Nat × Nat) (s : State) : State :=
  match findLp s x.1 with
  | none => stray s
  | some (n, c) =>
    if c.role ≠ .head ∧ c.upPort = some h.port.val ∧ c.probeLevel ≤ x.2 then
      match c.st with
      | .reserved | .probing => takeProbe h body n c x.2 s
      | .armed => answerArmed h body n c x.2 s
      | _ => stray s
    else stray s

/-- R68: a PROBE-ACK (level, verify flag) that fits a record: its downstream port, the record's level, and the
verify flag that the record's class has. -/
def ackFits (c : Context) (port k : Nat) (verify : Bool) : Bool :=
  c.downPort == some port && c.probeLevel == k && verify == (c.cls == .maint)

/-- R73, R78, R80, R87, R88: a PROBE-ACK. -/
def takeProbeAck (h : Hdr) (body : List Byte) (x : Nat × Nat × Bool) (s : State) : State :=
  match findLp s x.1 with
  | none => stray s
  | some (n, c) =>
    if ackFits c h.port x.2.1 x.2.2 then
      match c.role, c.st, c.cls with
      | .head, .probing, .maint => closeHead n c s
      | .head, .probing, _ => armHead n c s
      | .transit, .probing, .maint =>
        if c.pilotValidated then relay c.upPort .probeAck h body (closeMaint n c s) else stray s
      | .transit, .probing, _ =>
        if c.pilotValidated then relay c.upPort .probeAck h body (changeState n c .armed s) else stray s
      | .transit, .armed, .maint => stray s
      | .transit, .armed, _ => relay c.upPort .probeAck h body s
      | _, _, _ => stray s
    else stray s

/-- R72, R79: a PROBE-NAK. -/
def takeProbeNak (h : Hdr) (body : List Byte) (x : Nat × Nat × Nat) (s : State) : State :=
  match findLp s x.1 with
  | none => stray s
  | some (n, c) =>
    if c.downPort = some h.port.val ∧ c.st = .probing then
      match c.role with
      | .transit => relay c.upPort .probeNak h body s
      | .head => if c.probeLevel = x.2.1 then stepLadder n c s else stray s
      | .tail => stray s
    else stray s

def onProbe (h : Hdr) (body : List Byte) (s : State) : State :=
  receive h.port false (commissioning h (parseProbe body) (takeProbeFrame h body)) s

def onProbeAck (h : Hdr) (body : List Byte) (s : State) : State :=
  receive h.port false (commissioning h (parseProbeAck body) (takeProbeAck h body)) s

def onProbeNak (h : Hdr) (body : List Byte) (s : State) : State :=
  receive h.port false (commissioning h (parseProbeNak body) (takeProbeNak h body)) s

/-- R72: the probe dwell of a PROBING head expires. -/
def probeDwellExpired (n inst : Nat) (s : State) : State :=
  match current s n inst with
  | none => s
  | some c => if c.st = .probing ∧ c.role = .head ∧ due c.probeTimer s.now then stepLadder n c s else s

/-- R76: the probe window of a PROBING transit or tail expires with the pilot not validated. -/
def probeWindowExpired (n inst : Nat) (s : State) : State :=
  match current s n inst with
  | none => s
  | some c =>
    if c.st = .probing ∧ c.role ≠ .head ∧ c.pilotValidated = false ∧ due c.probeTimer s.now then
      sendOn c.upPort .probeNak (probeNakBody c.lpId c.probeLevel s.switch.nodeId)
        (s.modCtx n fun c => { c with probeTimer := none })
    else s

/-! ## Meanings -/

def execBurstReport (f : Fin 12) (code : BitVec 12) (s : State) : Host.Outcome State Fault Refusal :=
  .next (endTake (takeBurst f code.toNat s))

def execProbe (h : Hdr) (body : List Byte) (s : State) : Host.Outcome State Fault Refusal :=
  .next (endTake (onProbe h body s))

def execProbeAck (h : Hdr) (body : List Byte) (s : State) : Host.Outcome State Fault Refusal :=
  .next (endTake (onProbeAck h body s))

def execProbeNak (h : Hdr) (body : List Byte) (s : State) : Host.Outcome State Fault Refusal :=
  .next (endTake (onProbeNak h body s))

def execProbeDwellExpiry (n : Fin 256) (inst : Nat) (s : State) : Host.Outcome State Fault Refusal :=
  .next (endTake (probeDwellExpired n inst s))

def execProbeWindowExpiry (n : Fin 256) (inst : Nat) (s : State) : Host.Outcome State Fault Refusal :=
  .next (probeWindowExpired n inst s)

end Sys2Proof.Machine
end

