-- ==== Sys2Proof/Machine/Service.lean ====
section
/-! DEFINITION. Service, withdrawal and faults (chapter 6): ADVANCE, READY, FAULT, TEARDOWN, and the expiries of
deadlines, ramp dwells and audit timers. -/

namespace Sys2Proof.Machine

/-- R116: an ADVANCE with its reports. -/
def takeAdvance (h : Hdr) (x : Nat × List HopReport) (s : State) : State :=
  match findLp s x.1 with
  | none => stray s
  | some (n, c) =>
    if c.role ≠ .head ∧ c.upPort = some h.port.val ∧ c.st = .armed ∧ c.carried = none ∧ x.2.length = c.hopIndex then
      joinRamp n c (s.modCtx n fun c => { c with carried := some x.2 })
    else stray s

/-- R118: a READY with its reports. -/
def takeReady (h : Hdr) (body : List Byte) (x : Nat × List HopReport) (s : State) : State :=
  match findLp s x.1 with
  | none => stray s
  | some (n, c) =>
    if c.downPort = some h.port.val ∧ c.st = .settled ∧ x.2.length = c.hopCount then
      match c.role with
      | .transit => relay c.upPort .ready h body (changeState n c .inService s)
      | .head =>
        tellEvent n (evReady c.lpId c.hopCount)
          ((changeState n c .inService s).modCtx n fun c => { c with hopReports := some x.2 })
      | .tail => stray s
    else stray s

/-- R122: the table's part of a TEARDOWN at a transit or tail record: safety block, and the record is freed. -/
def teardownRecord (n : Nat) (c : Context) (s : State) : State :=
  freeRecord n c (askWss .safety .setBlock false .safety n c s)

/-- R123: a TEARDOWN goes on from a transit position by the hop entry `e`, or is reported at the tail position, as
an event of the record at `rec` that it freed or of no record. -/
def passTeardown (h : Hdr) (b : TeardownBody) (e : Hop) (rec : Option Nat) (s : State) : State :=
  if b.cursor + 1 < b.hops.length then
    match portOfFace e.egress with
    | none => stray s
    | some p => relay (some p) .teardown h (TeardownBody.encode { b with cursor := b.cursor + 1 }) s
  else match rec with
    | none => event (evWithdrawn b.id) s
    | some n => tellEvent n (evWithdrawn b.id) s

/-- R122, R123: a TEARDOWN whose body and header have passed. -/
def takeTeardown (h : Hdr) (b : TeardownBody) (s : State) : State :=
  match b.hops[b.cursor]? with
  | none => malformed h.port s
  | some e =>
    if e.node ≠ s.switch.nodeId then stray s
    else match findLp s b.id with
      | none => passTeardown h b e none s
      | some (n, c) => if c.role = .head then stray s else passTeardown h b e (some n) (teardownRecord n c s)

def onAdvance (h : Hdr) (body : List Byte) (s : State) : State :=
  receive h.port false (commissioning h (parseReports body) (takeAdvance h)) s

def onReady (h : Hdr) (body : List Byte) (s : State) : State :=
  receive h.port false (commissioning h (parseReports body) (takeReady h body)) s

def onFault (h : Hdr) (body : List Byte) (s : State) : State :=
  receive h.port false
    (commissioning h (parseFault body) fun x => takeFault h.port x.1 x.2.1 x.2.2.1 x.2.2.2) s

def onTeardown (h : Hdr) (body : List Byte) (s : State) : State :=
  receive h.port false (commissioning h (TeardownBody.parse body) (takeTeardown h)) s

/-- R36: a deadline expiry by state. -/
def deadlineExpired (n inst : Nat) (s : State) : State :=
  match current s n inst with
  | none => s
  | some c =>
    if due c.deadline s.now then
      match c.st with
      | .reserved | .probing => localFault n c .setupTimeout s
      | .armed => localFault n c .armTimeout s
      | .settled => localFault n c .readyTimeout s
      | .faulted => freeRecord n c s
      | _ => s
    else s

/-- R99, R109: a ramp dwell expiry, acted on while the record holds the instance, is RAMPING or WITHDRAWING and
holds the turn. -/
def stepDwellExpired (n inst : Nat) (s : State) : State :=
  match current s n inst with
  | none => s
  | some c =>
    if due c.rampDwell s.now ∧ (s.rampFace c.egress).turn = some (n, inst) then
      let t := s.modCtx n fun c => { c with rampDwell := none }
      match c.st with
      | .ramping => startStep n c t
      | .withdrawing => withdrawStep n c t
      | _ => s
    else s

/-- R135: an audit timer expiry: the timer restarts, the face becomes pending or counts an overrun. -/
def auditExpired (f : Nat) (s : State) : State :=
  if due (s.auditFace f).timer s.now then
    let s := s.modAudit f fun a => { a with timer := some (s.now + 1000 * (s.faceSet f).auditInterval) }
    if (s.auditFace f).pending || (s.auditFace f).running then
      s.modAudit f fun a => { a with overruns := bump a.overruns }
    else judgeAudit f (s.modAudit f fun a => { a with pending := true })
  else s

/-! ## Meanings -/

def execAdvance (h : Hdr) (body : List Byte) (s : State) : Host.Outcome State Fault Refusal :=
  .next (endTake (onAdvance h body s))

def execReady (h : Hdr) (body : List Byte) (s : State) : Host.Outcome State Fault Refusal :=
  .next (endTake (onReady h body s))

def execFault (h : Hdr) (body : List Byte) (s : State) : Host.Outcome State Fault Refusal :=
  .next (endTake (onFault h body s))

def execTeardown (h : Hdr) (body : List Byte) (s : State) : Host.Outcome State Fault Refusal :=
  .next (endTake (onTeardown h body s))

def execDeadlineExpiry (n : Fin 256) (inst : Nat) (s : State) : Host.Outcome State Fault Refusal :=
  .next (endTake (deadlineExpired n inst s))

def execStepDwellExpiry (n : Fin 256) (inst : Nat) (s : State) : Host.Outcome State Fault Refusal :=
  .next (endTake (stepDwellExpired n inst s))

def execAuditTimerExpiry (f : Fin 12) (s : State) : Host.Outcome State Fault Refusal :=
  .next (endTake (auditExpired f s))

end Sys2Proof.Machine
end

