-- ==== Sys2Proof/Machine/BusEvents.lean ====
section
/-! DEFINITION. The element bus's commands (chapter 8): settle period end, turnaround end, element answer,
response timeout. -/

namespace Sys2Proof.Machine

/-- R152: a settle period ends and the arbiter judges. -/
def execSettlePeriodEnd (e : Fin 32) (s : State) : Host.Outcome State Fault Refusal :=
  if due (s.elem e).settleUntil s.now then
    .next (arbitrate (s.modElem e fun x => { x with settleUntil := none }))
  else .next s

/-- R147, R153: the turnaround ends; the request is sent and its response timeout starts. -/
def execTurnaroundEnd (s : State) : Host.Outcome State Fault Refusal :=
  match s.bus.onBus with
  | some b =>
    match b.phase with
    | .turnaround _ =>
      .next { s with bus := { s.bus with onBus := some { b with phase := .waiting (s.now + b.timeout) } } }
    | .waiting _ => .next s
  | none => .next s

/-- R147: an element's answer to the transaction with serial number `txn`; one that belongs to no transaction
waiting for its answer is ignored. -/
def execElementAnswer (txn : Nat) (a : Answer) (s : State) : Host.Outcome State Fault Refusal :=
  match s.bus.onBus with
  | some b =>
    match b.phase with
    | .waiting _ => if b.serial = txn then .next (endTake (endTxn b (b.txn.outcome a) s)) else .next s
    | .turnaround _ => .next s
  | none => .next s

/-- R147: the response timeout expires: failure by timeout. -/
def execResponseTimeout (s : State) : Host.Outcome State Fault Refusal :=
  match s.bus.onBus with
  | some b =>
    match b.phase with
    | .waiting t => if t ≤ s.now then .next (endTake (endTxn b .failed s)) else .next s
    | .turnaround _ => .next s
  | none => .next s

end Sys2Proof.Machine
end

