-- ==== Sys2Proof/Machine/Tables.lean ====
section
/-! DEFINITION. Management requests on the loadable tables (chapters 1, 5, 8, 9, 10): TABLE READ, the eight TABLE
WRITEs, FLAGS CLEAR; and the dispatch of management frames (R166, R172). -/

namespace Sys2Proof.Machine

/-! ## Dispatch of management frames -/

/-- R165, R166: a management frame received on `h.port`: done here (`own`), or done as `adj` when it is addressed
ADJACENT, or forwarded, or discarded. -/
def onMgmt (h : Hdr) (k : FrameKind) (body : List Byte) (own adj : State → State) (s : State) : State :=
  receive h.port false (fun s =>
    let d := h.dst.toNat
    if d = s.switch.nodeId then own s
    else if d = Config.adjacent then adj s
    else if d = 0 then malformed h.port s
    else forwardFrame h.port (frameOf h k body) s) s

/-- R172: a MGMT-REQUEST with code `code` and the body that follows it: BAD_REQUEST when it is not well formed,
else carried out. -/
def onRequest {α : Type} (h : Hdr) (code : Nat) (rest : List Byte) (parsed : Option α)
    (k : α → State → State) (s : State) : State :=
  let here : State → State := fun s => match parsed with
    | none => respond h code .badRequest [] s
    | some x => k x s
  onMgmt h .mgmtRequest (e8 code ++ rest) here here s

/-- R166: a MGMT-RESPONSE or EVENT. -/
def onReply (h : Hdr) (k : FrameKind) (body : List Byte) (s : State) : State :=
  onMgmt h k body (handFrame 8 (frameOf h k body)) (malformed h.port) s

/-- A body that must be empty (R186). -/
def parseEmpty (l : List Byte) : Option Unit := if l = [] then some () else none

/-! ## TABLE READ (R173) -/

/-- Table, index and record of a TABLE READ or TABLE WRITE response (section 11.4). -/
def tableResult (t : Nat) (ix : Nat × Nat) (record : List Byte) : List Byte :=
  e8 t ++ e8 ix.1 ++ e16 ix.2 ++ record

/-- R14: the entry governing a slot, when its block descriptor is present. -/
def slotAt (s : State) (f slot : Nat) : Option SlotEntry := (entryKey s f slot).map s.dir.entries.get

/-- The status of a TABLE READ with the record read (R14, R91, R93, R144, R168; a minor index that a table does
not use must be 0, section 11.4). -/
def readRecord (s : State) (t : Nat) (ix : Nat × Nat) : Status × List Byte :=
  let give (good : Bool) (r : List Byte) : Status × List Byte := if good then (.ok, r) else (.badIndex, [])
  let m := ix.1
  let n := ix.2
  match t with
  | 1 => give (m ≤ 11 && n == 0) (s.face m).encode
  | 2 => give (m ≤ 11 && n ≤ 23) (s.block m n).encode
  | 3 =>
    if m ≤ 11 && n ≤ 383 then
      match slotAt s m n with
      | none => (.notFound, [])
      | some e => (.ok, e.encode)
    else (.badIndex, [])
  | 4 => give (m ≤ 11 && n == 0) (s.faceSet m).encode
  | 5 => give (m ≤ 7 && n == 0) (s.profile m).encode
  | 6 => give (m ≤ 31 && n == 0) (s.elem m).encode
  | 7 => give (m ≤ 31 && n == 0) (s.switch.routes.get m).encode
  | 8 => give (m == 0 && n == 0) (s.switch.settings.encode s.switch.nodeId)
  | _ => (.badRequest, [])

def tableRead (h : Hdr) (x : Nat × Nat × Nat) (s : State) : State :=
  let r := readRecord s x.1 x.2
  respond h reqTableRead r.1 (if r.1 = .ok then tableResult x.1 x.2 r.2 else []) s

/-! ## TABLE WRITE -/

/-- The response to a TABLE WRITE with status `st` and the record as it stands (R173, section 11.4). -/
def respondWrite (h : Hdr) (t : Nat) (ix : Nat × Nat) (st : Status) (record : List Byte) (s : State) : State :=
  respond h reqTableWrite st
    (match st with
      | .badIndex | .notFound | .badRequest => []
      | _ => tableResult t ix record) s

/-- R15: a written face descriptor. -/
def writeFace (h : Hdr) (x : (Nat × Nat) × FaceWrite) (s : State) : State :=
  let f := x.1.1
  let w := x.2
  if 11 < f ∨ x.1.2 ≠ 0 then respondWrite h tabFace x.1 .badIndex [] s
  else if 1 < w.present then respondWrite h tabFace x.1 .badValue (s.face f).encode s
  else if (s.face f).present && w.present == 0 && faceOccupied s f then
    respondWrite h tabFace x.1 .inUse (s.face f).encode s
  else
    let s := s.modFace f fun y => { y with present := w.present == 1, guard := w.guard, mask := w.mask }
    respondWrite h tabFace x.1 .ok (s.face f).encode s

/-- R16: whether a block descriptor write is refused IN_USE. -/
def blockInUse (s : State) (f b : Nat) (present : Bool) (page : Nat) : Bool :=
  let cur := s.block f b
  match cur.present, present with
  | false, false => false
  | false, true => pageNamedElsewhere s f b page
  | true, false => pageOccupied s cur.page
  | true, true => page != cur.page && (pageOccupied s cur.page || pageNamedElsewhere s f b page)

/-- R16, R17: a written block descriptor. -/
def writeBlock (h : Hdr) (x : (Nat × Nat) × BlockWrite) (s : State) : State :=
  let f := x.1.1
  let b := x.1.2
  let w := x.2
  if 11 < f ∨ 23 < b then respondWrite h tabBlock x.1 .badIndex [] s
  else if 1 < w.present ∨ 255 < w.page then respondWrite h tabBlock x.1 .badValue (s.block f b).encode s
  else
    let present := w.present == 1
    if blockInUse s f b present w.page then respondWrite h tabBlock x.1 .inUse (s.block f b).encode s
    else
      let fresh := present && (!(s.block f b).present || w.page != (s.block f b).page)
      let s := s.modBlock f b fun y => { y with present := present, guard := w.guard, page := w.page }
      let s := if fresh then clearPage w.page s else s
      respondWrite h tabBlock x.1 .ok (s.block f b).encode s

/-- R18: the kinds a slot entry write may set. -/
def writtenKind : Nat → Option EntryKind
  | 0 => some .free
  | 3 => some .foreign
  | 4 => some .barred
  | _ => none

/-- R13: the live slot count change of a slot entry write. -/
def writeLive (f : Nat) (was now : EntryKind) (s : State) : State :=
  liveChange f 1 (was == .foreign) (now == .foreign) s

/-- The record in the response to a refused slot entry write. -/
def slotRecord (s : State) (f slot : Nat) : List Byte :=
  match slotAt s f slot with
  | some e => e.encode
  | none => e8 (Config.absentSlotRecord.toNat / 4294967296) ++ e32 Config.absentSlotRecord.toNat

/-- R18, R13: a written slot entry. -/
def writeSlot (h : Hdr) (x : (Nat × Nat) × Nat) (s : State) : State :=
  let f := x.1.1
  let slot := x.1.2
  if 11 < f ∨ 383 < slot then respondWrite h tabSlot x.1 .badIndex [] s
  else match writtenKind x.2 with
    | none => respondWrite h tabSlot x.1 .badValue (slotRecord s f slot) s
    | some k =>
      match slotAt s f slot with
      | none => respondWrite h tabSlot x.1 .notFound [] s
      | some e =>
        match e.kind with
        | .owned _ | .indirect _ _ => respondWrite h tabSlot x.1 .inUse e.encode s
        | _ =>
          let s := writeLive f e.kind k (setKind f slot k s)
          respondWrite h tabSlot x.1 .ok (slotRecord s f slot) s

/-- R93: an element field of written face settings: NONE, or an element number of a role. -/
def fieldFits (s : State) (n : Nat) (r : ElemRole) : Bool := n == 255 || (n ≤ 31 && (s.elem n).role == r)

/-- R92, R93: written face settings with every numeric field brought within range. -/
def SettingsWrite.clamped (w : SettingsWrite) : FaceSettings :=
  { wss := optByteOf w.wss, monitor := optByteOf w.monitor, density := clampInt (-2000) 500 w.density,
    transient := clampNat 10 300 w.transient, ceilingPower := clampInt (-1000) 2000 w.ceilingPower,
    auditInterval := clampNat 0 3600 w.auditInterval, auditTol := clampNat 50 500 w.auditTol,
    autoTrim := w.autoTrim == 1, spacingMin := clampNat 5 500 w.spacingMin,
    spacingMax := clampNat 5 500 w.spacingMax, helloInterval := clampNat 50 1000 w.helloInterval }

/-- Whether the clamping changed a field. -/
def SettingsWrite.wasClamped (w : SettingsWrite) : Bool :=
  let c := w.clamped
  c.density != w.density || c.transient != w.transient || c.ceilingPower != w.ceilingPower ||
    c.auditInterval != w.auditInterval || c.auditTol != w.auditTol || c.spacingMin != w.spacingMin ||
    c.spacingMax != w.spacingMax || c.helloInterval != w.helloInterval

/-- R136: what a face settings write that leaves interval `new` does to the audit timer. -/
def retimeAudit (f old new : Nat) (s : State) : State :=
  if new = old then s
  else if new = 0 then s.modAudit f fun a => { a with timer := none, pending := false }
  else s.modAudit f fun a => { a with timer := some (s.now + 1000 * new) }

/-- R93, R136: written face settings. -/
def writeSettings (h : Hdr) (x : (Nat × Nat) × SettingsWrite) (s : State) : State :=
  let f := x.1.1
  let w := x.2
  if 11 < f ∨ x.1.2 ≠ 0 then respondWrite h tabSettings x.1 .badIndex [] s
  else if !(fieldFits s w.wss .wss && fieldFits s w.monitor .monitor && w.autoTrim ≤ 1) then
    respondWrite h tabSettings x.1 .badValue (s.faceSet f).encode s
  else if w.clamped.spacingMax < w.clamped.spacingMin then
    respondWrite h tabSettings x.1 .badValue (s.faceSet f).encode s
  else
    let s := retimeAudit f (s.faceSet f).auditInterval w.clamped.auditInterval (s.setFaceSet f w.clamped)
    respondWrite h tabSettings x.1 (if w.wasClamped then .clamped else .ok) (s.faceSet f).encode s

/-- R90, R91: a written profile with every field brought within range. -/
def Profile.clamped (w : Profile) : Profile :=
  { sMax := clampNat 10 300 w.sMax, deadband := clampNat 5 100 w.deadband, settleCount := clampNat 1 4 w.settleCount,
    gain := clampNat 1 8 w.gain, stepDwell := clampNat 50 5000 w.stepDwell, maxSteps := clampNat 8 128 w.maxSteps,
    l0 := clampNat 0 2500 w.l0, l1 := clampNat 0 2500 w.l1, l2 := clampNat 0 2500 w.l2, l3 := clampNat 0 2500 w.l3,
    probeDwell := clampNat 500 10000 w.probeDwell, probeWindow := clampNat 200 10000 w.probeWindow,
    setupTimeout := clampNat 1 3600 w.setupTimeout, armTimeout := clampNat 1 3600 w.armTimeout,
    readyTimeout := clampNat 1 3600 w.readyTimeout, faultHold := clampNat 0 3600 w.faultHold,
    withdrawStep := clampNat 10 300 w.withdrawStep }

/-- R91: the ladder does not rise. -/
def Profile.ladderFalls (p : Profile) : Bool := p.l1 ≤ p.l0 && p.l2 ≤ p.l1 && p.l3 ≤ p.l2

/-- R91: an active context holds the profile's number. -/
def profileInUse (s : State) (n : Nat) : Bool :=
  s.table.recs.cells.any fun x => (x.2.map fun c => c.st.active && c.profile == n).getD false

/-- R91: a written profile. -/
def writeProfile (h : Hdr) (x : (Nat × Nat) × Profile) (s : State) : State :=
  let n := x.1.1
  let w := x.2.clamped
  if 7 < n ∨ x.1.2 ≠ 0 then respondWrite h tabProfile x.1 .badIndex [] s
  else if !w.ladderFalls then respondWrite h tabProfile x.1 .badValue (s.profile n).encode s
  else if profileInUse s n then respondWrite h tabProfile x.1 .inUse (s.profile n).encode s
  else
    let s := s.setProfile n w
    respondWrite h tabProfile x.1 (if w = x.2 then .ok else .clamped) (s.profile n).encode s

/-- R145: the element is named by the WSS or monitor field of some face's settings. -/
def elementNamed (s : State) (e : Nat) : Bool :=
  (List.range 12).any fun f => (s.faceSet f).wss == some e || (s.faceSet f).monitor == some e

/-- R145: a request for the element is queued or on the bus. -/
def elementBusy (s : State) (e : Nat) : Bool :=
  s.bus.queued.any (fun r => r.elem == e) || (s.bus.onBus.map fun b => b.req.elem == e).getD false

/-- R145: a written element record. -/
def writeElement (h : Hdr) (x : (Nat × Nat) × ElementWrite) (s : State) : State :=
  let e := x.1.1
  let w := x.2
  if 31 < e ∨ x.1.2 ≠ 0 then respondWrite h tabElement x.1 .badIndex [] s
  else match ElemRole.ofCode w.role with
    | none => respondWrite h tabElement x.1 .badValue (s.elem e).encode s
    | some role =>
      if role != (s.elem e).role && (elementNamed s e || elementBusy s e) then
        respondWrite h tabElement x.1 .inUse (s.elem e).encode s
      else
        let t := clampNat 1 255 w.timeout
        let st := clampNat 0 255 w.settle
        let s := s.modElem e fun y => { y with role := role, timeout := t, settle := st }
        respondWrite h tabElement x.1 (if t = w.timeout ∧ st = w.settle then .ok else .clamped) (s.elem e).encode s

/-- R168: a written route table entry. -/
def writeRoute (h : Hdr) (x : (Nat × Nat) × Route) (s : State) : State :=
  let i := x.1.1
  if 31 < i ∨ x.1.2 ≠ 0 then respondWrite h tabRoute x.1 .badIndex [] s
  else if 8 < x.2.port then respondWrite h tabRoute x.1 .badValue (s.switch.routes.get i).encode s
  else
    let s := { s with switch := { s.switch with routes := s.switch.routes.set i x.2 } }
    respondWrite h tabRoute x.1 .ok (s.switch.routes.get i).encode s

/-- R168: written node settings. -/
def writeNode (h : Hdr) (x : (Nat × Nat) × NodeWrite) (s : State) : State :=
  let w := x.2
  if x.1 ≠ (0, 0) then respondWrite h tabNode x.1 .badIndex [] s
  else if (8 < w.defaultPort ∧ w.defaultPort ≠ 255) ∨ w.reportDest = 65535 then
    respondWrite h tabNode x.1 .badValue (s.switch.settings.encode s.switch.nodeId) s
  else
    let hop := clampNat 1 63 w.originHop
    let turn := clampNat 0 1000 w.turnaround
    let s := { s with switch := { s.switch with settings :=
      { defaultPort := optByteOf w.defaultPort, reportDest := w.reportDest, originHop := hop, turnaround := turn } } }
    respondWrite h tabNode x.1 (if hop = w.originHop ∧ turn = w.turnaround then .ok else .clamped)
      (s.switch.settings.encode s.switch.nodeId) s

/-- A TABLE WRITE of table `t` with the parameters that follow the table code. -/
def onTableWrite {α : Type} (h : Hdr) (t : Nat) (params : List Byte) (parsed : Option α)
    (k : α → State → State) (s : State) : State :=
  onRequest h reqTableWrite (e8 t ++ params) parsed k s

/-- R19: FLAGS CLEAR of a face and a block, 255 for all blocks. -/
def flagsClear (h : Hdr) (x : Nat × Nat) (s : State) : State :=
  if 11 < x.1 ∨ (23 < x.2 ∧ x.2 ≠ 255) then respond h reqFlagsClear .badIndex [] s
  else if x.2 = 255 then
    let s := s.modFace x.1 fun y => { y with used := false }
    respond h reqFlagsClear .ok [] ((List.range 24).foldl (fun s b => clearBlockFlags x.1 b s) s)
  else respond h reqFlagsClear .ok [] (clearBlockFlags x.1 x.2 s)

/-! ## Meanings -/

def onTableRead (h : Hdr) (params : List Byte) (s : State) : State :=
  onRequest h reqTableRead params (parseTableRead params) (tableRead h) s

def onFaceWrite (h : Hdr) (params : List Byte) (s : State) : State :=
  onTableWrite h tabFace params (FaceWrite.parse params) (writeFace h) s

def onBlockWrite (h : Hdr) (params : List Byte) (s : State) : State :=
  onTableWrite h tabBlock params (BlockWrite.parse params) (writeBlock h) s

def onSlotWrite (h : Hdr) (params : List Byte) (s : State) : State :=
  onTableWrite h tabSlot params (parseSlotWrite params) (writeSlot h) s

def onSettingsWrite (h : Hdr) (params : List Byte) (s : State) : State :=
  onTableWrite h tabSettings params (SettingsWrite.parse params) (writeSettings h) s

def onProfileWrite (h : Hdr) (params : List Byte) (s : State) : State :=
  onTableWrite h tabProfile params (parseProfileWrite params) (writeProfile h) s

def onElementWrite (h : Hdr) (params : List Byte) (s : State) : State :=
  onTableWrite h tabElement params (ElementWrite.parse params) (writeElement h) s

def onRouteWrite (h : Hdr) (params : List Byte) (s : State) : State :=
  onTableWrite h tabRoute params (parseRouteWrite params) (writeRoute h) s

def onNodeWrite (h : Hdr) (params : List Byte) (s : State) : State :=
  onTableWrite h tabNode params (NodeWrite.parse params) (writeNode h) s

def onFlagsClear (h : Hdr) (params : List Byte) (s : State) : State :=
  onRequest h reqFlagsClear params (parseFlagsClear params) (flagsClear h) s

def execTableRead (h : Hdr) (params : List Byte) (s : State) : Host.Outcome State Fault Refusal :=
  .next (onTableRead h params s)

def execFaceDescriptorWrite (h : Hdr) (params : List Byte) (s : State) : Host.Outcome State Fault Refusal :=
  .next (onFaceWrite h params s)

def execBlockDescriptorWrite (h : Hdr) (params : List Byte) (s : State) : Host.Outcome State Fault Refusal :=
  .next (onBlockWrite h params s)

def execSlotEntryWrite (h : Hdr) (params : List Byte) (s : State) : Host.Outcome State Fault Refusal :=
  .next (onSlotWrite h params s)

def execFaceSettingsWrite (h : Hdr) (params : List Byte) (s : State) : Host.Outcome State Fault Refusal :=
  .next (onSettingsWrite h params s)

def execProfileWrite (h : Hdr) (params : List Byte) (s : State) : Host.Outcome State Fault Refusal :=
  .next (onProfileWrite h params s)

def execElementWrite (h : Hdr) (params : List Byte) (s : State) : Host.Outcome State Fault Refusal :=
  .next (onElementWrite h params s)

def execRouteWrite (h : Hdr) (params : List Byte) (s : State) : Host.Outcome State Fault Refusal :=
  .next (onRouteWrite h params s)

def execNodeSettingsWrite (h : Hdr) (params : List Byte) (s : State) : Host.Outcome State Fault Refusal :=
  .next (onNodeWrite h params s)

def execFlagsClear (h : Hdr) (params : List Byte) (s : State) : Host.Outcome State Fault Refusal :=
  .next (onFlagsClear h params s)

end Sys2Proof.Machine
end

