-- ==== Sys2Proof/Machine/Management.lean ====
section
/-! DEFINITION. Management requests on lightpaths, elements, the capability overlay, the counters and the node
(chapters 2, 3, 6, 8, 10). -/

namespace Sys2Proof.Machine

/-! ## COMMISSION (R46 to R49) -/

/-- R46, check 1: the body is well formed and every face in range. -/
def parseCommission (l : List Byte) : Option SetupBody := (SetupBody.parse false l).filter fun b => facesInRange b.hops

/-- R46, check 2. -/
def commissionInRange (b : SetupBody) : Bool := b.id != 0 && pilotInRange b.pilot && trimInRange b.trim

/-- No node ID stands in two entries. -/
def nodesDistinct (l : List Hop) : Bool := decide ((l.map (·.node)).Nodup)

/-- R47, check 3; answers entry 0 when it passes. -/
def commissionPath (s : State) (b : SetupBody) : Option Hop :=
  match b.hops with
  | [] => none
  | e :: _ =>
    if 2 ≤ b.hops.length && b.hops.length ≤ 32 && b.hops.all (fun x => 1 ≤ x.node && x.node ≤ 65534) &&
        e.node == s.switch.nodeId && nodesDistinct b.hops then some e else none

/-- R47, check 4. -/
def commissionHop (b : SetupBody) (e : Hop) : Bool :=
  8 ≤ e.ingress && e.ingress ≤ 11 && e.egress ≤ 7 && spanValid b.first b.count

/-- R49: a COMMISSION refused with a setup reason. -/
def refuseCommission (h : Hdr) (r : Reason) (s : State) : State :=
  respond h reqCommission (.refusedFor r) [] (countRejected s)

/-- R46 to R49. The response is handed over before the SETUP ("the head then sends SETUP"). -/
def commission (h : Hdr) (b : SetupBody) (s : State) : State :=
  if !commissionInRange b then respond h reqCommission .badValue [] s
  else match commissionPath s b with
    | none => refuseCommission h .badPath s
    | some e =>
      if !commissionHop b e then refuseCommission h .badHop s
      else match admission .head e.ingress e.egress 0 b s with
        | (.refused r, s) => refuseCommission h r s
        | (.made n, s) =>
          sendOn (portOfFace e.egress) .setup (SetupBody.encode { b with cursor := 1 })
            (respond h reqCommission .accepted (e8 n) s)

def onCommission (h : Hdr) (params : List Byte) (s : State) : State :=
  onRequest h reqCommission params (parseCommission params) (commission h) s

/-! ## WITHDRAW (R120, R121) -/

/-- R120, check 1. -/
def parseWithdraw (l : List Byte) : Option Nat := (parseId l).filter (· ≠ 0)

/-- R120: the IN_SERVICE head at `n` (which is `c`) starts its withdrawal. -/
def startWithdrawal (n : Nat) (c : Context) (s : State) : State := joinRamp n c (changeState n c .withdrawing s)

/-- R121: the active head at `n` (which is `c`) aborts its lightpath. -/
def abortLightpath (n : Nat) (c : Context) (s : State) : State :=
  freeRecord n c (sendTeardown c (askSafety n c s))

/-- R120. -/
def withdraw (h : Hdr) (id : Nat) (s : State) : State :=
  match findLp s id with
  | none => respond h reqWithdraw .notFound [] s
  | some (n, c) =>
    if c.role ≠ .head then respond h reqWithdraw .notAllowed [] s
    else match c.st with
      | .inService =>
        if Config.activeMax ≤ activeCount s then respond h reqWithdraw .busy [] s
        else respond h reqWithdraw .ok [] (startWithdrawal n c s)
      | .withdrawing => respond h reqWithdraw .ok [] s
      | _ => respond h reqWithdraw .ok [] (abortLightpath n c s)

def onWithdraw (h : Hdr) (params : List Byte) (s : State) : State :=
  onRequest h reqWithdraw params (parseWithdraw params) (withdraw h) s

/-! ## ADOPT (R41, R42) -/

/-- R41, check 2. -/
def adoptInRange (b : AdoptBody) : Bool := trimInRange b.trim && (b.atten == 65535 || b.atten ≤ 2500)

/-- R41, check 3: judged at the head alone. -/
def adoptPath (s : State) (b : AdoptBody) : Bool :=
  match b.role, b.hops with
  | .head, e :: _ =>
    2 ≤ b.hopCount && b.hopCount ≤ 32 && b.hops.length == b.hopCount && e.node == s.switch.nodeId &&
      e.ingress == b.ingress && e.egress == b.egress && nodesDistinct b.hops
  | .head, [] => false
  | _, _ => true

/-- The faces fit the role and differ (00_scope.md, Roles and directions). -/
def facesFit (role : Role) (ing eg : Nat) : Bool :=
  match role with
  | .head => 8 ≤ ing && ing ≤ 11 && eg ≤ 7
  | .transit => ing ≤ 7 && eg ≤ 7 && ing != eg
  | .tail => ing ≤ 7 && 8 ≤ eg && eg ≤ 11

/-- The hop index fits the role: 0 for HEAD, count − 1 for TAIL, 1 to count − 2 for TRANSIT. -/
def indexFits (role : Role) (i n : Nat) : Bool :=
  match role with
  | .head => i == 0
  | .transit => 1 ≤ i && i + 2 ≤ n
  | .tail => i + 1 == n

/-- R41, check 4. -/
def adoptHop (b : AdoptBody) : Bool :=
  facesFit b.role b.ingress b.egress && spanValid b.first b.count && 2 ≤ b.hopCount && b.hopCount ≤ 32 &&
    indexFits b.role b.hopIndex b.hopCount

/-- R41, checks 2 to 7: the first that fails. -/
def adoptFailure (s : State) (b : AdoptBody) : Option Status :=
  if !adoptInRange b then some .badValue
  else if !adoptPath s b then some (.refusedFor .badPath)
  else if !adoptHop b then some (.refusedFor .badHop)
  else if (findLp s b.id).isSome then some (.refusedFor .lpBusy)
  else if (lowestFree s).isNone then some (.refusedFor .tableFull)
  else if 7 < b.profile then some (.refusedFor .badProfile)
  else none

/-- R42: the record allocated, the span reserved and the live slot count raised. -/
def adoptAt (n : Nat) (b : AdoptBody) (s : State) : State :=
  raiseLive b.egress b.count
    (reserveSpan n b.ingress b.egress b.first b.count (allocate n (adoptedContext s b) s))

/-- R41, R42. An ADOPT of lightpath ID 0 that passes every other check makes no record; its status is a free value
(log entry 7). -/
def adopt (h : Hdr) (b : AdoptBody) (s : State) : State :=
  match adoptFailure s b with
  | some st => respond h reqAdopt st [] s
  | none =>
    let j := judgeSpan b.ingress b.egress b.first b.count b.cls s
    match j.1, lowestFree s with
    | some r, _ => respond h reqAdopt (.refusedFor r) [] j.2
    | none, none => respond h reqAdopt (.refusedFor .tableFull) [] j.2
    | none, some n =>
      if b.id = 0 then
        respondTo h.port.val h.src.toNat h.tag (e8 reqAdopt ++ [Config.adoptZeroIdStatus]) j.2
      else respond h reqAdopt .ok (e8 n) (adoptAt n b j.2)

def onAdopt (h : Hdr) (params : List Byte) (s : State) : State :=
  onRequest h reqAdopt params (AdoptBody.parse params) (adopt h) s

/-! ## CONTEXT READ, CONTEXT LIST, CONTEXT DISCARD (R38 to R40) -/

def contextRead (h : Hdr) (id : Nat) (s : State) : State :=
  match findLp s id with
  | none => respond h reqContextRead .notFound [] s
  | some (n, c) => respond h reqContextRead .ok (c.encode n s.now) s

def onContextRead (h : Hdr) (params : List Byte) (s : State) : State :=
  onRequest h reqContextRead params (parseId params) (contextRead h) s

/-- The non-FREE records at or above a handle, in increasing handle order. -/
def recordsFrom (s : State) (start : Nat) : List (Nat × Context) :=
  s.table.recs.cells.filterMap fun x => if start ≤ x.1 then x.2.map fun c => (x.1, c) else none

/-- One entry of a CONTEXT LIST response. -/
def listEntry (x : Nat × Context) : List Byte := e8 x.1 ++ e8 x.2.st.code ++ e32 x.2.lpId

/-- R39: the result of a CONTEXT LIST; an absent continuation is all bytes 0xFF (R184). -/
def listResult (l : List (Nat × Context)) : List Byte :=
  e8 (l.take 32).length ++ e16 (((l[32]?).map (·.1)).getD 65535) ++ (l.take 32).flatMap listEntry

def contextList (h : Hdr) (start : Nat) (s : State) : State :=
  if 255 < start then respond h reqContextList .badIndex [] s
  else respond h reqContextList .ok (listResult (recordsFrom s start)) s

def onContextList (h : Hdr) (params : List Byte) (s : State) : State :=
  onRequest h reqContextList params (whole (d16 params)) (contextList h) s

def contextDiscard (h : Hdr) (id : Nat) (s : State) : State :=
  match findLp s id with
  | none => respond h reqContextDiscard .notFound [] s
  | some (n, c) =>
    match c.st with
    | .faulted | .inService => respond h reqContextDiscard .ok [] (freeRecord n c s)
    | _ => respond h reqContextDiscard .notAllowed [] s

def onContextDiscard (h : Hdr) (params : List Byte) (s : State) : State :=
  onRequest h reqContextDiscard params (parseId params) (contextDiscard h) s

/-! ## ELEMENT READ, ELEMENT REVIVE (R156, R157) -/

/-- R156: the first check that fails. -/
def readFailure (s : State) (x : Nat × Nat × Nat) : Option Status :=
  if 31 < x.1 then some .badIndex
  else if (s.elem x.1).role ≠ .monitor then some .badValue
  else if !spanValid x.2.1 x.2.2 then some .badValue
  else if (s.elem x.1).health = .failed then some .elementError
  else if BusClass.mgmt.capacity ≤ s.bus.mgmtQ.length then some .busy
  else none

/-- R156: a read that passes is placed in the MGMT queue and answered when its transaction ends. -/
def elementRead (h : Hdr) (x : Nat × Nat × Nat) (s : State) : State :=
  match readFailure s x with
  | some st => respond h reqElementRead st [] s
  | none => place .mgmt x.1 .getPower false x.2.1 x.2.2 (.read h.port.val h.src.toNat h.tag) s

def onElementRead (h : Hdr) (params : List Byte) (s : State) : State :=
  onRequest h reqElementRead params (parseElementRead params) (elementRead h) s

def elementRevive (h : Hdr) (e : Nat) (s : State) : State :=
  if 31 < e then respond h reqElementRevive .badIndex [] s
  else respond h reqElementRevive .ok [] (s.modElem e fun x => { x with health := .ok })

def onElementRevive (h : Hdr) (params : List Byte) (s : State) : State :=
  onRequest h reqElementRevive params (whole (d8 params)) (elementRevive h) s

/-! ## The capability overlay (R175 to R177) -/

def setOverlay (o : Overlay) (s : State) : State := { s with resp := { s.resp with overlay := o } }

def capabilityIdentify (h : Hdr) (_ : Unit) (s : State) : State :=
  respond h reqIdentify .ok (Overlay.factory.encode ++ s.resp.overlay.encode ++ eBool s.resp.frozen) s

/-- R176: the five requested values judged against the factory record. -/
def Overlay.judged (w : Overlay) : Overlay :=
  { concurrency := min w.concurrency Overlay.factory.concurrency,
    span := clampNat 1 Overlay.factory.span w.span,
    classes := w.classes.inter Overlay.factory.classes,
    stepCeiling := clampNat 10 Overlay.factory.stepCeiling w.stepCeiling,
    autoTrim := w.autoTrim && Overlay.factory.autoTrim }

def capabilitySet (h : Hdr) (w : Overlay) (s : State) : State :=
  if s.resp.frozen then respond h reqSet .frozen [] s
  else respond h reqSet (if w.judged = w then .ok else .clamped) w.judged.encode (setOverlay w.judged s)

def capabilityRestore (h : Hdr) (_ : Unit) (s : State) : State :=
  if s.resp.frozen then respond h reqRestore .frozen [] s
  else respond h reqRestore .ok Overlay.factory.encode (setOverlay Overlay.factory s)

def capabilityFreeze (h : Hdr) (_ : Unit) (s : State) : State :=
  if s.resp.frozen then respond h reqFreeze .frozen [] s
  else respond h reqFreeze .ok s.resp.overlay.encode { s with resp := { s.resp with frozen := true } }

def onCapabilityIdentify (h : Hdr) (params : List Byte) (s : State) : State :=
  onRequest h reqIdentify params (parseEmpty params) (capabilityIdentify h) s

def onCapabilitySet (h : Hdr) (params : List Byte) (s : State) : State :=
  onRequest h reqSet params (parseOverlay params) (capabilitySet h) s

def onCapabilityRestore (h : Hdr) (params : List Byte) (s : State) : State :=
  onRequest h reqRestore params (parseEmpty params) (capabilityRestore h) s

def onCapabilityFreeze (h : Hdr) (params : List Byte) (s : State) : State :=
  onRequest h reqFreeze params (parseEmpty params) (capabilityFreeze h) s

/-! ## COUNTERS READ (R180, R181) -/

def PortCounters.encode (x : PortCounters) : List Byte :=
  e32 x.rx ++ e32 x.tx ++ e32 x.crc ++ e32 x.malformed ++ e32 x.notUp ++ e32 x.drop ++ e32 x.hopLimit

/-- One port of the counter block; no neighbour is node 0 and port 0xFF (R184). -/
def Port.block (x : Port) : List Byte :=
  x.counters.encode ++ e8 x.link.code ++ e16 ((x.neighbour.map (·.1)).getD 0) ++ e8 (optByte (x.neighbour.map (·.2)))

def NodeCounters.encode (x : NodeCounters) : List Byte :=
  e32 x.noRoute ++ e32 x.stray ++ e32 x.setupsAccepted ++ e32 x.setupsRejected ++ e32 x.localFaults ++
    e32 x.receivedFaults ++ e32 x.discardedFaults

/-- The counter block of section 11.4, 572 bytes. -/
def counterBlock (s : State) : List Byte :=
  (List.range 9).flatMap (fun p => (s.port p).block) ++ s.resp.counters.encode ++
    (List.range 12).flatMap (fun f => e32 (s.stray.get f) ++ e32 (s.auditFace f).overruns) ++
    (List.range 32).flatMap (fun e => e32 (s.elem e).failures ++ e8 (s.elem e).health.code)

/-- Every counter of R180 set to 0. -/
def clearCounters (s : State) : State :=
  let s := (List.range 9).foldl (fun s p => s.modPort p fun x => { x with counters := PortCounters.zero }) s
  let s := (List.range 12).foldl (fun s f => s.modAudit f fun a => { a with overruns := 0 }) s
  let s := (List.range 32).foldl (fun s e => s.modElem e fun x => { x with failures := 0 }) s
  { s with stray := Tab.empty 0, resp := { s.resp with counters := NodeCounters.zero } }

/-- R181. The counters are cleared before the response is handed over, so a drop of the response is counted
(log entry 12). -/
def countersRead (h : Hdr) (clear : Bool) (s : State) : State :=
  respond h reqCounters .ok (counterBlock s) (if clear then clearCounters s else s)

def onCountersRead (h : Hdr) (params : List Byte) (s : State) : State :=
  onRequest h reqCounters params (whole (dBool params)) (countersRead h) s

/-! ## NODE RESET (R182, R183) -/

/-- Step 1: every frame in every egress queue is dropped. -/
def flushPorts (s : State) : State := (List.range 9).foldl (fun s p => s.modPort p Port.flush) s

/-- Step 2, R158: queued requests dropped, the transaction on the bus handed to no requester, every health OK,
the round-robin position MGMT. -/
def resetBus (s : State) : State :=
  let s := (List.range 32).foldl (fun s e => s.modElem e fun x => { x with health := .ok }) s
  { s with bus := { s.bus with safetyQ := [], rampQ := [], auditQ := [], mgmtQ := [], rr := .mgmt,
                               onBus := s.bus.onBus.map fun b => { b with orphan := true } } }

/-- Step 4, R183: the active context at `n` aborted: FAULT frames, safety request, the record freed. -/
def abortContext (s : State) (n : Nat) : State :=
  match s.ctx n with
  | none => s
  | some c =>
    if c.st.active then
      let s := sendFault c.upPort .upstream c .nodeReset s.switch.nodeId s
      let s := sendFault c.downPort .downstream c .nodeReset s.switch.nodeId s
      freeRecord n c (askSafety n c s)
    else s

/-- Step 5, R143. -/
def resetAudit (s : State) (f : Nat) : State :=
  let i := (s.faceSet f).auditInterval
  s.modAudit f fun a =>
    { a with pending := false, running := false, list := [], pos := 0,
             timer := if 0 < i then some (s.now + 1000 * i) else a.timer }

/-- R112: every ramp queue empty, every turn free, every step-in-progress indication clear, no GET held back. -/
def clearRamps (s : State) : State := { s with ramp := { s.ramp with faces := Tab.empty _ } }

/-- R182, steps 1 to 5. R112, R143 and R158 let no grant, no audit and no result follow from the aborts, so what
the aborts left to be done in the take is dropped (log entry 13). -/
def nodeResetSteps (s : State) : State :=
  let s := clearCounters (resetBus (flushPorts s))
  let s := { s with table := { s.table with closings := [] } }
  let s := clearRamps ((handles s).foldl abortContext s)
  let s := (List.range 12).foldl resetAudit s
  { s with work := [] }

def nodeReset (h : Hdr) (_ : Unit) (s : State) : State := respond h reqNodeReset .ok [] (nodeResetSteps s)

def onNodeReset (h : Hdr) (params : List Byte) (s : State) : State :=
  onRequest h reqNodeReset params (parseEmpty params) (nodeReset h) s

/-! ## Meanings -/

def execCommission (h : Hdr) (params : List Byte) (s : State) : Host.Outcome State Fault Refusal :=
  .next (onCommission h params s)

def execWithdraw (h : Hdr) (params : List Byte) (s : State) : Host.Outcome State Fault Refusal :=
  .next (endTake (onWithdraw h params s))

def execAdopt (h : Hdr) (params : List Byte) (s : State) : Host.Outcome State Fault Refusal :=
  .next (onAdopt h params s)

def execContextRead (h : Hdr) (params : List Byte) (s : State) : Host.Outcome State Fault Refusal :=
  .next (onContextRead h params s)

def execContextList (h : Hdr) (params : List Byte) (s : State) : Host.Outcome State Fault Refusal :=
  .next (onContextList h params s)

def execContextDiscard (h : Hdr) (params : List Byte) (s : State) : Host.Outcome State Fault Refusal :=
  .next (endTake (onContextDiscard h params s))

def execElementRead (h : Hdr) (params : List Byte) (s : State) : Host.Outcome State Fault Refusal :=
  .next (endTake (onElementRead h params s))

def execElementRevive (h : Hdr) (params : List Byte) (s : State) : Host.Outcome State Fault Refusal :=
  .next (onElementRevive h params s)

def execCapabilityIdentify (h : Hdr) (params : List Byte) (s : State) : Host.Outcome State Fault Refusal :=
  .next (onCapabilityIdentify h params s)

def execCapabilitySet (h : Hdr) (params : List Byte) (s : State) : Host.Outcome State Fault Refusal :=
  .next (onCapabilitySet h params s)

def execCapabilityRestore (h : Hdr) (params : List Byte) (s : State) : Host.Outcome State Fault Refusal :=
  .next (onCapabilityRestore h params s)

def execCapabilityFreeze (h : Hdr) (params : List Byte) (s : State) : Host.Outcome State Fault Refusal :=
  .next (onCapabilityFreeze h params s)

def execCountersRead (h : Hdr) (params : List Byte) (s : State) : Host.Outcome State Fault Refusal :=
  .next (onCountersRead h params s)

def execNodeReset (h : Hdr) (params : List Byte) (s : State) : Host.Outcome State Fault Refusal :=
  .next (arbitrate (onNodeReset h params s))

end Sys2Proof.Machine
end

