-- ==== Sys2Proof/Machine/Reception.lean ====
section
/-! DEFINITION. Reception and dispatch (R165, R166, R172): every received byte sequence handled as the command it
is, forwarding, delivery of responses and events, and requests that name nothing. -/

namespace Sys2Proof.Machine

/-! ## Requests by their codes -/

/-- R173: a TABLE WRITE by its table code; one outside the eight tables is answered BAD_REQUEST. -/
def tableWriteAs (h : Hdr) (rest : List Byte) (s : State) : Host.Outcome State Fault Refusal :=
  match rest with
  | [] => .next (onRequest h reqTableWrite [] (none : Option Unit) (fun _ s => s) s)
  | t :: params =>
    match t.toNat with
    | 1 => execFaceDescriptorWrite h params s
    | 2 => execBlockDescriptorWrite h params s
    | 3 => execSlotEntryWrite h params s
    | 4 => execFaceSettingsWrite h params s
    | 5 => execProfileWrite h params s
    | 6 => execElementWrite h params s
    | 7 => execRouteWrite h params s
    | 8 => execNodeSettingsWrite h params s
    | _ => .next (onRequest h reqTableWrite (t :: params) (none : Option Unit) (fun _ s => s) s)

/-- R172: a MGMT-REQUEST whose body is empty: BAD_REQUEST with a free echo (log entry 6). -/
def emptyRequest (h : Hdr) (s : State) : State :=
  let here : State → State := respondTo h.port.val h.src.toNat h.tag ([Config.missingCodeEcho] ++ e8 Status.badRequest.code)
  onMgmt h .mgmtRequest [] here here s

/-- R172: a MGMT-REQUEST by its request code. -/
def requestAs (h : Hdr) (body : List Byte) (s : State) : Host.Outcome State Fault Refusal :=
  match body with
  | [] => .next (emptyRequest h s)
  | c :: rest =>
    match c.toNat with
    | 0x01 => execTableRead h rest s
    | 0x02 => tableWriteAs h rest s
    | 0x03 => execFlagsClear h rest s
    | 0x10 => execCommission h rest s
    | 0x11 => execWithdraw h rest s
    | 0x12 => execAdopt h rest s
    | 0x13 => execContextRead h rest s
    | 0x14 => execContextList h rest s
    | 0x15 => execContextDiscard h rest s
    | 0x20 => execElementRead h rest s
    | 0x21 => execElementRevive h rest s
    | 0x30 => execCapabilityIdentify h rest s
    | 0x31 => execCapabilitySet h rest s
    | 0x32 => execCapabilityRestore h rest s
    | 0x33 => execCapabilityFreeze h rest s
    | 0x40 => execCountersRead h rest s
    | 0x50 => execNodeReset h rest s
    | n => .next (onRequest h n rest (none : Option Unit) (fun _ s => s) s)

/-- A MGMT-REQUEST received on a port: carried out when it is for this node, else forwarded or discarded. -/
def managementRequest (h : Hdr) (body : List Byte) (s : State) : Host.Outcome State Fault Refusal :=
  if h.dst.toNat = s.switch.nodeId ∨ h.dst.toNat = Config.adjacent then requestAs h body s
  else .next (onMgmt h .mgmtRequest body id id s)

/-- R172: a request code that names no request. A body that names one is carried out as that request. -/
def execUnknownRequestCode (h : Hdr) (body : List Byte) (s : State) : Host.Outcome State Fault Refusal :=
  requestAs h body s

/-- The kind of frame that a response or an event is. -/
def replyFrameKind : ReplyKind → FrameKind
  | .response => .mgmtResponse
  | .event => .event

/-- R166: a MGMT-RESPONSE or EVENT for this node goes out of port 8. -/
def execResponseEventDelivery (h : Hdr) (k : ReplyKind) (body : List Byte) (s : State) :
    Host.Outcome State Fault Refusal :=
  .next (onReply h (replyFrameKind k) body s)

/-- R167: a management frame for another node. -/
def execForwarding (h : Hdr) (k : MgmtKind) (body : List Byte) (s : State) : Host.Outcome State Fault Refusal :=
  match k with
  | .request => managementRequest h body s
  | .response => .next (onReply h .mgmtResponse body s)
  | .event => .next (onReply h .event body s)

/-! ## Reception (R165, R166) -/

/-- The header of a received frame, with the port it arrived on. -/
def headerOf (p : Fin 9) (f : Frame) : Hdr :=
  { port := p, dst := BitVec.ofNat 16 f.dst, src := BitVec.ofNat 16 f.src, hop := BitVec.ofNat 8 f.hop, tag := f.tag }

/-- R166: a frame that has passed checks 1 and 2, as the command of its kind. -/
def frameAs (p : Fin 9) (f : Frame) (s : State) : Host.Outcome State Fault Refusal :=
  let h := headerOf p f
  match f.kind with
  | .hello => execHello h f.body s
  | .setup => execSetup h f.body s
  | .setupAck => execSetupAck h f.body s
  | .setupReject => execSetupReject h f.body s
  | .probe => execProbe h f.body s
  | .probeAck => execProbeAck h f.body s
  | .probeNak => execProbeNak h f.body s
  | .advance => execAdvance h f.body s
  | .ready => execReady h f.body s
  | .fault => execFault h f.body s
  | .teardown => execTeardown h f.body s
  | .mgmtRequest => managementRequest h f.body s
  | .mgmtResponse => execResponseEventDelivery h .response f.body s
  | .event => execResponseEventDelivery h .event f.body s

/-- R165: a byte sequence received whole on port `p`. One that fails check 1 or 2 is discarded and counted here;
one that passes both is judged on (check 3 and R166) as the frame it is. -/
def execRxFrameRejected (p : Fin 9) (bytes : List Byte) (s : State) : Host.Outcome State Fault Refusal :=
  match receivedFrame bytes with
  | .crcWrong => .next (countCrc p.val (countRx p.val s))
  | .malformed => .next (malformed p.val (countRx p.val s))
  | .frame f => frameAs p f s

end Sys2Proof.Machine
end

