-- ==== Sys2Proof/Machine/Clock.lean ====
section
/-! DEFINITION. The passing of a millisecond while no command waits: the expiries that are due (log entry 3). -/

namespace Sys2Proof.Machine

/-- The turnaround or the response timeout of the transaction on the bus. -/
def busExpiry (s : State) : List Instr :=
  match s.bus.onBus with
  | none => []
  | some b =>
    match b.phase with
    | .turnaround _ => [.turnaroundEnd]
    | .waiting t => if t ≤ s.now then [.responseTimeout] else []

/-- The expiries of one context record. -/
def contextExpiries (now : Nat) (x : Nat × Option Context) : List Instr :=
  match x.2 with
  | none => []
  | some c =>
    let h : Fin 256 := Fin.ofNat 256 x.1
    (if due c.deadline now then [Instr.deadlineExpiry h c.inst] else []) ++
      (if due c.probeTimer now then
        [if c.role = .head then Instr.probeDwellExpiry h c.inst else Instr.probeWindowExpiry h c.inst] else []) ++
      (if due c.rampDwell now then [Instr.stepDwellExpiry h c.inst] else [])

/-- All expiries that are due, in a fixed order: the bus, settle periods, HELLO and dead timers, the contexts by
handle, the audits. -/
def dueCommands (s : State) : List Instr :=
  busExpiry s ++
    ((List.finRange 32).filterMap fun (e : Fin 32) =>
      if due (s.elem e.val).settleUntil s.now then some (Instr.settlePeriodEnd e) else none) ++
    ((List.finRange 8).filterMap fun (p : Fin 8) =>
      if due (s.port p.val).helloTimer s.now then some (Instr.helloTimerExpiry p) else none) ++
    ((List.finRange 8).filterMap fun (p : Fin 8) =>
      if due (s.port p.val).deadTimer s.now then some (Instr.deadTimerExpiry p) else none) ++
    s.table.recs.cells.flatMap (contextExpiries s.now) ++
    ((List.finRange 12).filterMap fun (f : Fin 12) =>
      if due (s.auditFace f.val).timer s.now then some (Instr.auditTimerExpiry f) else none)

/-- One millisecond passes; the expiries that are then due wait in the queue. -/
def tick (s : State) : State :=
  let s := { s with now := s.now + 1 }
  { s with pending := s.pending ++ dueCommands s }

end Sys2Proof.Machine
end

