-- ==== Sys2Proof/Machine/Dispatch.lean ====
section
/-! DEFINITION. One arm per command: the meaning it has. -/

namespace Sys2Proof.Machine

def exec (i : Instr) (s : State) : Host.Outcome State Fault Refusal :=
  match i with
  | .powerOnReset straps => Sys2Proof.Machine.execPowerOnReset straps s
  | .signalPresent p => Sys2Proof.Machine.execSignalPresent p s
  | .signalLost p => Sys2Proof.Machine.execSignalLost p s
  | .carrierPresent => Sys2Proof.Machine.execCarrierPresent s
  | .carrierLost => Sys2Proof.Machine.execCarrierLost s
  | .burstReport f code => Sys2Proof.Machine.execBurstReport f code s
  | .rxFrameRejected port bytes => Sys2Proof.Machine.execRxFrameRejected port bytes s
  | .hello h body => Sys2Proof.Machine.execHello h body s
  | .setup h body => Sys2Proof.Machine.execSetup h body s
  | .setupAck h body => Sys2Proof.Machine.execSetupAck h body s
  | .setupReject h body => Sys2Proof.Machine.execSetupReject h body s
  | .probe h body => Sys2Proof.Machine.execProbe h body s
  | .probeAck h body => Sys2Proof.Machine.execProbeAck h body s
  | .probeNak h body => Sys2Proof.Machine.execProbeNak h body s
  | .advance h body => Sys2Proof.Machine.execAdvance h body s
  | .ready h body => Sys2Proof.Machine.execReady h body s
  | .fault h body => Sys2Proof.Machine.execFault h body s
  | .teardown h body => Sys2Proof.Machine.execTeardown h body s
  | .forwarding h kind body => Sys2Proof.Machine.execForwarding h kind body s
  | .responseEventDelivery h kind body => Sys2Proof.Machine.execResponseEventDelivery h kind body s
  | .unknownRequestCode h body => Sys2Proof.Machine.execUnknownRequestCode h body s
  | .tableRead h params => Sys2Proof.Machine.execTableRead h params s
  | .faceDescriptorWrite h params => Sys2Proof.Machine.execFaceDescriptorWrite h params s
  | .blockDescriptorWrite h params => Sys2Proof.Machine.execBlockDescriptorWrite h params s
  | .slotEntryWrite h params => Sys2Proof.Machine.execSlotEntryWrite h params s
  | .faceSettingsWrite h params => Sys2Proof.Machine.execFaceSettingsWrite h params s
  | .profileWrite h params => Sys2Proof.Machine.execProfileWrite h params s
  | .elementWrite h params => Sys2Proof.Machine.execElementWrite h params s
  | .routeWrite h params => Sys2Proof.Machine.execRouteWrite h params s
  | .nodeSettingsWrite h params => Sys2Proof.Machine.execNodeSettingsWrite h params s
  | .flagsClear h params => Sys2Proof.Machine.execFlagsClear h params s
  | .commission h params => Sys2Proof.Machine.execCommission h params s
  | .withdraw h params => Sys2Proof.Machine.execWithdraw h params s
  | .adopt h params => Sys2Proof.Machine.execAdopt h params s
  | .contextRead h params => Sys2Proof.Machine.execContextRead h params s
  | .contextList h params => Sys2Proof.Machine.execContextList h params s
  | .contextDiscard h params => Sys2Proof.Machine.execContextDiscard h params s
  | .elementRead h params => Sys2Proof.Machine.execElementRead h params s
  | .elementRevive h params => Sys2Proof.Machine.execElementRevive h params s
  | .capabilityIdentify h params => Sys2Proof.Machine.execCapabilityIdentify h params s
  | .capabilitySet h params => Sys2Proof.Machine.execCapabilitySet h params s
  | .capabilityRestore h params => Sys2Proof.Machine.execCapabilityRestore h params s
  | .capabilityFreeze h params => Sys2Proof.Machine.execCapabilityFreeze h params s
  | .countersRead h params => Sys2Proof.Machine.execCountersRead h params s
  | .nodeReset h params => Sys2Proof.Machine.execNodeReset h params s
  | .helloTimerExpiry p => Sys2Proof.Machine.execHelloTimerExpiry p s
  | .deadTimerExpiry p => Sys2Proof.Machine.execDeadTimerExpiry p s
  | .deadlineExpiry handle inst => Sys2Proof.Machine.execDeadlineExpiry handle inst s
  | .probeDwellExpiry handle inst => Sys2Proof.Machine.execProbeDwellExpiry handle inst s
  | .probeWindowExpiry handle inst => Sys2Proof.Machine.execProbeWindowExpiry handle inst s
  | .stepDwellExpiry handle inst => Sys2Proof.Machine.execStepDwellExpiry handle inst s
  | .auditTimerExpiry f => Sys2Proof.Machine.execAuditTimerExpiry f s
  | .settlePeriodEnd e => Sys2Proof.Machine.execSettlePeriodEnd e s
  | .turnaroundEnd => Sys2Proof.Machine.execTurnaroundEnd s
  | .elementAnswer txn a => Sys2Proof.Machine.execElementAnswer txn a s
  | .responseTimeout => Sys2Proof.Machine.execResponseTimeout s
  | .transmissionEnd p => Sys2Proof.Machine.execTransmissionEnd p s

end Sys2Proof.Machine
end

