-- ==== Sys2Proof/Safety.lean ====
section
/-! DEFINITION. What the claims speak of: the laws of the part as properties of a state, the state between two
takes, and when a frame or a request is taken. -/

namespace Sys2Proof.Machine

/-! ## Between takes -/

/-- Nothing is left of the last take, and the arbiter has made every choice it can (R152). -/
def AtRest (s : State) : Prop :=
  s.work = [] ∧ s.told = [] ∧ (s.bus.onBus.isSome = true ∨ chosen s.bus = none)

/-- Every table is in its one canonical form. -/
def Canonical (s : State) : Prop :=
  s.pins.signal.wf ∧ s.dir.faces.wf ∧ s.dir.blocks.wf ∧ s.dir.entries.wf ∧ s.table.recs.wf ∧ s.stray.wf ∧
    s.ramp.profiles.wf ∧ s.ramp.settings.wf ∧ s.ramp.faces.wf ∧ s.audit.wf ∧ s.bus.elems.wf ∧ s.ports.wf ∧
    s.switch.routes.wf

/-! ## The laws of the part (00_scope.md and the rules that state them) -/

/-- Law 3 (R37): at most 16 contexts are in states other than FREE and IN_SERVICE, under an overlay whose
concurrency limit is at most 16 (R174). -/
def Law3 (s : State) : Prop :=
  s.table.recs.wf ∧ s.resp.overlay.concurrency ≤ Config.activeMax ∧ activeCount s ≤ Config.activeMax

/-- Law 8 (R24): no two non-FREE contexts share a lightpath ID, and no two in RESERVED or PROBING share a pilot
code. -/
def Law8 (s : State) : Prop :=
  s.table.recs.wf ∧
    ∀ h k c d, s.ctx h = some c → s.ctx k = some d → h ≠ k →
      c.lpId ≠ d.lpId ∧
        ((c.st = .reserved ∨ c.st = .probing) → (d.st = .reserved ∨ d.st = .probing) → c.pilot ≠ d.pilot)

/-- Law 10 (R2): no slot page is named by two present block descriptors of the node's faces. -/
def Law10 (s : State) : Prop :=
  ∀ f b g c, f ≤ 11 → b ≤ 23 → g ≤ 11 → c ≤ 23 → (s.block f b).present = true → (s.block g c).present = true →
    (s.block f b).page = (s.block g c).page → f = g ∧ b = c

/-- The kind of the entry that governs a slot of a face, where a present block governs it (R3). -/
def slotKind (s : State) (f n : Nat) : Option EntryKind := (entryKey s f n).map fun e => (s.dir.entries.get e).kind

/-- The span of a record holds the slot. -/
def Context.spans (c : Context) (n : Nat) : Prop := c.first ≤ n ∧ n < c.first + c.count

/-- Law 1 (R9): every non-FREE context owns the slots of its span on its egress face, and every OWNED entry of the
node's faces is such a slot. -/
def Law1 (s : State) : Prop :=
  (∀ h c n, s.ctx h = some c → c.spans n → slotKind s c.egress n = some (.owned h)) ∧
    ∀ f n h, f ≤ 11 → n ≤ 383 → slotKind s f n = some (.owned h) → ∃ c, s.ctx h = some c ∧ c.egress = f ∧ c.spans n

/-- Law 2 (R9): each slot of a non-FREE context's span is, on its ingress face, INDIRECT to the same slot on its
egress face, and every INDIRECT entry of the node's faces is such a link. -/
def Law2 (s : State) : Prop :=
  (∀ h c n, s.ctx h = some c → c.spans n → slotKind s c.ingress n = some (.indirect c.egress n)) ∧
    ∀ f n g m, f ≤ 11 → n ≤ 383 → slotKind s f n = some (.indirect g m) →
      m = n ∧ ∃ h c, s.ctx h = some c ∧ c.ingress = f ∧ c.egress = g ∧ c.spans n

/-- The FOREIGN entries under the present blocks of a face (R12). -/
def foreignSlots (s : State) (f : Nat) : Nat :=
  ((List.range 384).filter fun n => slotKind s f n = some .foreign).length

/-- The slots of the contexts in SETTLED or IN_SERVICE that egress on a face (R12). -/
def countedSlots (s : State) (f : Nat) : Nat :=
  (s.table.recs.cells.map fun x => match x.2 with
    | some c => if c.egress = f ∧ c.st.counted = true then c.count else 0
    | none => 0).sum

/-- Law 9 (R12): the live slot count of each of the node's faces. -/
def Law9 (s : State) : Prop := ∀ f, f ≤ 11 → (s.face f).live = foreignSlots s f + countedSlots s f

/-- The faces of a non-FREE context differ and are equipped, and its span is valid (R41, R51, R52, R15). -/
def PathsSound (s : State) : Prop :=
  ∀ h c, s.ctx h = some c → c.ingress ≤ 11 ∧ c.egress ≤ 11 ∧ c.ingress ≠ c.egress ∧ 1 ≤ c.count ∧
    c.first + c.count ≤ 384 ∧ (s.face c.ingress).present = true ∧ (s.face c.egress).present = true

/-- Laws 1, 2, 9 and 10 together, over a Context Table in its canonical form whose paths are sound. -/
def SpectrumLaws (s : State) : Prop :=
  s.table.recs.wf ∧ PathsSound s ∧ Law1 s ∧ Law2 s ∧ Law9 s ∧ Law10 s

/-- Law 4 (R95, R96): the holder of a face's turn is a context egressing there in RAMPING or WITHDRAWING that is not
in the face's queue; each queue entry names such a context in ARMED or WITHDRAWING, and none twice; and every RAMPING
context holds its egress face's turn; over a Context Table in its canonical form. -/
def Law4 (s : State) : Prop :=
  s.table.recs.wf ∧
  (∀ f h i, (s.rampFace f).turn = some (h, i) →
    (∃ c, s.ctx h = some c ∧ c.inst = i ∧ c.egress = f ∧ (c.st = .ramping ∨ c.st = .withdrawing)) ∧
      ∀ e ∈ (s.rampFace f).queue, e.handle ≠ h) ∧
  (∀ f, ∀ e ∈ (s.rampFace f).queue,
    ∃ c, s.ctx e.handle = some c ∧ c.inst = e.inst ∧ c.egress = f ∧ (c.st = .armed ∨ c.st = .withdrawing)) ∧
  (∀ f, ((s.rampFace f).queue.map (·.handle)).Nodup) ∧
  ∀ h c, s.ctx h = some c → c.st = .ramping → (s.rampFace c.egress).turn = some (h, c.inst)

/-- R90: the fields of a profile within their ranges, the probe ladder falling. -/
def Profile.InRange (p : Profile) : Prop :=
  (10 ≤ p.sMax ∧ p.sMax ≤ 300) ∧ (5 ≤ p.deadband ∧ p.deadband ≤ 100) ∧ (1 ≤ p.settleCount ∧ p.settleCount ≤ 4) ∧
    (1 ≤ p.gain ∧ p.gain ≤ 8) ∧ (50 ≤ p.stepDwell ∧ p.stepDwell ≤ 5000) ∧ (8 ≤ p.maxSteps ∧ p.maxSteps ≤ 128) ∧
    (p.l0 ≤ 2500 ∧ p.l1 ≤ p.l0 ∧ p.l2 ≤ p.l1 ∧ p.l3 ≤ p.l2) ∧ (500 ≤ p.probeDwell ∧ p.probeDwell ≤ 10000) ∧
    (200 ≤ p.probeWindow ∧ p.probeWindow ≤ 10000) ∧ (1 ≤ p.setupTimeout ∧ p.setupTimeout ≤ 3600) ∧
    (1 ≤ p.armTimeout ∧ p.armTimeout ≤ 3600) ∧ (1 ≤ p.readyTimeout ∧ p.readyTimeout ≤ 3600) ∧ p.faultHold ≤ 3600 ∧
    (10 ≤ p.withdrawStep ∧ p.withdrawStep ≤ 300)

/-- The attenuation that a success recorded for this purpose gives a record (R27). -/
def Purpose.setting : Purpose → Option Nat
  | .level a | .rampSet a | .withdrawSet a | .auditSet _ a => some a
  | .ditherStart | .ditherStop | .rampGet | .withdrawBlock | .safety | .closing | .auditGet _ => none

/-- Every setting asked of the element bus, and every setting its success would record, is an attenuation (R27,
R146). -/
def SettingsSound (s : State) : Prop :=
  ∀ r, (r ∈ s.bus.queued ∨ ∃ b, s.bus.onBus = some b ∧ b.req = r) →
    (∀ a, r.txn = .setAtten a → a ≤ 2500) ∧ ∀ h i p a, r.tag = .ctx h i p → p.setting = some a → a ≤ 2500

/-- Law 5 (R27): attenuation, target and last reading of every context are within their ranges. -/
def Law5 (s : State) : Prop :=
  ∀ h c, s.ctx h = some c → (∀ a, c.atten = .db a → a ≤ 2500) ∧ (-4000 ≤ c.target ∧ c.target ≤ 1500) ∧
    ∀ p, c.lastReading = some p → -6000 ≤ p ∧ p ≤ 2000

/-- Law 6 (R27): in RESERVED to SETTLED and in FAULTED the readings used are at most the profile's max steps. -/
def Law6 (s : State) : Prop :=
  ∀ h c, s.ctx h = some c → c.st ≠ .inService → c.st ≠ .withdrawing →
    c.readingsUsed ≤ (s.profile c.profile).maxSteps

/-- The other progress fields of R27, and what a ramp leaves for its next reading (R104, R105): settled run at most 4
and probe level at most 3; before RAMPING no reading is used; in RAMPING there is room for one more reading, and the
settled run has not reached the settle count. -/
def ProgressSound (s : State) : Prop :=
  ∀ h c, s.ctx h = some c → c.settledRun ≤ 4 ∧ c.probeLevel ≤ 3 ∧
    ((c.st = .reserved ∨ c.st = .probing ∨ c.st = .armed) → c.readingsUsed = 0 ∧ c.settledRun = 0) ∧
    (c.st = .ramping → c.readingsUsed < (s.profile c.profile).maxSteps ∧
      c.settledRun < (s.profile c.profile).settleCount)

/-- Laws 5 and 6 together with the ranges they rest on, between takes, over a Context Table in its canonical form. -/
def ProgressLaws (s : State) : Prop :=
  s.work = [] ∧ s.table.recs.wf ∧ (∀ n, (s.profile n).InRange) ∧ SettingsSound s ∧ Law5 s ∧ Law6 s ∧ ProgressSound s

/-- Law 12 (R155): no transaction of a FAILED element is queued or on the bus. -/
def Law12 (s : State) : Prop :=
  (∀ r ∈ s.bus.queued, (s.elem r.elem).health ≠ .failed) ∧
    ∀ b, s.bus.onBus = some b → (s.elem b.req.elem).health ≠ .failed

/-- R137: on each face at most one of a running audit and a step in progress is at work. -/
def AuditStepApart (s : State) : Prop := ∀ f, ¬((s.rampFace f).inStep = true ∧ (s.auditFace f).running = true)

/-- R169: the queues stay within their capacities, and a line stands idle only while both queues are empty. -/
def QueuesSound (s : State) : Prop :=
  ∀ p, (s.port p).urgent.length ≤ Config.urgentCapacity ∧ (s.port p).bulk.length ≤ Config.bulkCapacity ∧
    ((s.port p).line = none → (s.port p).urgent = [] ∧ (s.port p).bulk = [])

/-! ## When a frame or a request is taken -/

/-- The frame came over a line port that is UP, addressed ADJACENT (R45, R165). -/
def OnLink (h : Hdr) (s : State) : Prop :=
  h.port.val ≠ 8 ∧ h.dst.toNat = Config.adjacent ∧ (s.port h.port).link = .up

/-- The management frame came over a port that is UP and is addressed to this node or ADJACENT (R165, R166). -/
def ForNode (h : Hdr) (s : State) : Prop :=
  (s.port h.port).link = .up ∧ (h.dst.toNat = s.switch.nodeId ∨ h.dst.toNat = Config.adjacent)

/-- A commissioning command's header, and whether its body passes (R45, R50, R67, R113, R186). -/
def linkFrame : Instr → Option (Hdr × Bool)
  | .setup h b => some (h, (parseSetup b).isSome)
  | .setupAck h b => some (h, (parseId b).isSome)
  | .setupReject h b => some (h, (parseReject b).isSome)
  | .probe h b => some (h, (parseProbe b).isSome)
  | .probeAck h b => some (h, (parseProbeAck b).isSome)
  | .probeNak h b => some (h, (parseProbeNak b).isSome)
  | .advance h b => some (h, (parseReports b).isSome)
  | .ready h b => some (h, (parseReports b).isSome)
  | .fault h b => some (h, (parseFault b).isSome)
  | .teardown h b => some (h, (TeardownBody.parse b).isSome)
  | _ => none

/-- A management request: its header, its request code, what follows the code in its body, and whether that is
well formed (R172, R186). -/
structure RequestParts where
  hdr  : Hdr
  code : Nat
  rest : List Byte
  good : Bool
  deriving DecidableEq, Repr

/-- The parts of a request command. -/
def requestParts : Instr → Option RequestParts
  | .tableRead h p => some ⟨h, 0x01, p, (parseTableRead p).isSome⟩
  | .faceDescriptorWrite h p => some ⟨h, 0x02, e8 1 ++ p, (FaceWrite.parse p).isSome⟩
  | .blockDescriptorWrite h p => some ⟨h, 0x02, e8 2 ++ p, (BlockWrite.parse p).isSome⟩
  | .slotEntryWrite h p => some ⟨h, 0x02, e8 3 ++ p, (parseSlotWrite p).isSome⟩
  | .faceSettingsWrite h p => some ⟨h, 0x02, e8 4 ++ p, (SettingsWrite.parse p).isSome⟩
  | .profileWrite h p => some ⟨h, 0x02, e8 5 ++ p, (parseProfileWrite p).isSome⟩
  | .elementWrite h p => some ⟨h, 0x02, e8 6 ++ p, (ElementWrite.parse p).isSome⟩
  | .routeWrite h p => some ⟨h, 0x02, e8 7 ++ p, (parseRouteWrite p).isSome⟩
  | .nodeSettingsWrite h p => some ⟨h, 0x02, e8 8 ++ p, (NodeWrite.parse p).isSome⟩
  | .flagsClear h p => some ⟨h, 0x03, p, (parseFlagsClear p).isSome⟩
  | .commission h p => some ⟨h, 0x10, p, (parseCommission p).isSome⟩
  | .withdraw h p => some ⟨h, 0x11, p, (parseWithdraw p).isSome⟩
  | .adopt h p => some ⟨h, 0x12, p, (AdoptBody.parse p).isSome⟩
  | .contextRead h p => some ⟨h, 0x13, p, (parseId p).isSome⟩
  | .contextList h p => some ⟨h, 0x14, p, (whole (d16 p)).isSome⟩
  | .contextDiscard h p => some ⟨h, 0x15, p, (parseId p).isSome⟩
  | .elementRead h p => some ⟨h, 0x20, p, (parseElementRead p).isSome⟩
  | .elementRevive h p => some ⟨h, 0x21, p, (whole (d8 p)).isSome⟩
  | .capabilityIdentify h p => some ⟨h, 0x30, p, p.isEmpty⟩
  | .capabilitySet h p => some ⟨h, 0x31, p, (parseOverlay p).isSome⟩
  | .capabilityRestore h p => some ⟨h, 0x32, p, p.isEmpty⟩
  | .capabilityFreeze h p => some ⟨h, 0x33, p, p.isEmpty⟩
  | .countersRead h p => some ⟨h, 0x40, p, (whole (dBool p)).isSome⟩
  | .nodeReset h p => some ⟨h, 0x50, p, p.isEmpty⟩
  | _ => none

/-! ## Places in a ramp queue and on the element bus -/

/-- The context at `h` (which is `c`) neither holds its egress face's turn nor stands in its queue. -/
def OffRamp (h : Nat) (c : Context) (s : State) : Prop :=
  (s.rampFace c.egress).turn ≠ some (h, c.inst) ∧
    ∀ e ∈ (s.rampFace c.egress).queue, ¬(e.handle = h ∧ e.inst = c.inst)

/-- A request of class `cl` for the element that a face's field names would be placed, on element `e` (R148). -/
def Placeable (cl : BusClass) (field : Option Nat) (e : Nat) (s : State) : Prop :=
  field = some e ∧ (s.elem e).health ≠ .failed ∧ (s.bus.queue cl).length < cl.capacity

end Sys2Proof.Machine
end

