-- ==== Sys2Proof/Certificates/Slice0/Obligations.lean ====
section
/-! DEFINITION. The statements for the provers. -/

open Sys2Proof Sys2Proof.Machine

/-! ## The machine as a whole -/

/-- The command at the front of the queue is taken whole, on the state with the queue's rest.
The queue is the model's own (log entry 20). -/
def Obligations.StepRunsFrontCommand : Prop :=
  ∀ (c : Instr) (rest : List Instr) (s : State),
    step { s with pending := c :: rest } = exec c { s with pending := rest }

/-- No command stops the part, none touches the queue, and none but power-on reset moves the clock.
The queue and the tick are the model's own (log entries 3 and 20). -/
def Obligations.EveryCommandAnswersNextState : Prop :=
  ∀ (c : Instr) (s : State), ∃ t, exec c s = .next t ∧ t.pending = s.pending ∧
    ((∀ straps, c ≠ .powerOnReset straps) → t.now = s.now)

/-- What the rules state of the tables, queues, timers and counters right after power-on reset.
The state after reset satisfies every law that every step keeps. -/
def Obligations.ResetStateHoldsDefaultsAndLaws : Prop :=
  ((∀ f, State.reset.face f = ⟨false, false, ⟨true, true, true⟩, false, 0⟩) ∧
   (∀ f b, State.reset.block f b = ⟨false, false, 0, false⟩) ∧
   (∀ page i, State.reset.entry page i = ⟨.free, false, false⟩) ∧
   (∀ h, State.reset.ctx h = none) ∧ State.reset.table.nextInst = 1 ∧ activeCount State.reset = 0 ∧
   (∀ n, State.reset.profile n =
     { sMax := 100, deadband := 20, settleCount := 2, gain := 6, stepDwell := 200, maxSteps := 64,
       l0 := 2200, l1 := 1900, l2 := 1600, l3 := 1300, probeDwell := 3000, probeWindow := 1500,
       setupTimeout := 60, armTimeout := 1800, readyTimeout := 1800, faultHold := 600, withdrawStep := 100 }) ∧
   (∀ f, State.reset.faceSet f =
     { wss := none, monitor := none, density := -1000, transient := 100, ceilingPower := 1000, auditInterval := 0,
       auditTol := 100, autoTrim := false, spacingMin := 15, spacingMax := 25, helloInterval := 100 }) ∧
   (∀ f, State.reset.rampFace f = ⟨[], none, false, false⟩) ∧
   (∀ f, State.reset.auditFace f = ⟨none, false, false, [], 0, 0⟩) ∧
   (∀ e, State.reset.elem e = ⟨.none, 20, 0, .ok, 0, none⟩) ∧
   State.reset.bus.queued = [] ∧ State.reset.bus.onBus = none ∧ State.reset.bus.last = none ∧
   State.reset.bus.rr = .mgmt ∧
   (∀ p, State.reset.port p = ⟨.down, none, none, none, none, [], [], none, ⟨0, 0, 0, 0, 0, 0, 0⟩⟩) ∧
   (∀ i, State.reset.switch.routes.get i = ⟨false, 0, 0, 0⟩) ∧
   State.reset.switch.settings = ⟨none, 0, 32, 20⟩ ∧
   State.reset.resp.overlay = ⟨16, 16, ⟨true, true, true⟩, 300, true⟩ ∧ State.reset.resp.frozen = false ∧
   State.reset.resp.counters = ⟨0, 0, 0, 0, 0, 0, 0⟩ ∧ (∀ f, State.reset.stray.get f = 0)) ∧
  (Canonical State.reset ∧ QueuesSound State.reset ∧ AtRest State.reset ∧ Law12 State.reset ∧
     AuditStepApart State.reset ∧ Law3 State.reset ∧ Law4 State.reset ∧ Law8 State.reset ∧
     SpectrumLaws State.reset ∧ ProgressLaws State.reset ∧
     ∀ h c, State.reset.ctx h = some c → c.st = .reserved → c.probeLevel = 0)

/-- Power-on reset brings every table, queue and timer to its power-on value and samples the node ID. A line port
whose signal is present enters ACQUIRE with a HELLO on its line; the local port enters UP when its carrier is
present; with straps of 0 or 65535 every port stays DOWN. The pins keep their levels.
That pins, queue and transaction serial stay, and that a frame on a line is removed uncounted, is the model's (log
entries 4 and 22). -/
def Obligations.PowerOnResetStartsPorts : Prop :=
  ∀ (straps : BitVec 16) (s : State), ∃ t, exec (.powerOnReset straps) s = .next t ∧
    t = { State.resetWith straps.toNat with
            pins := s.pins, pending := s.pending, ports := t.ports,
            bus := { ElementBus.reset with serial := s.bus.serial } } ∧
    (∀ p, p < 8 → t.port p =
      if straps ≠ 0#16 ∧ straps ≠ 65535#16 ∧ s.pins.signal.get p = true then
        { Port.initial with
            link := .acquire, helloTimer := some 100,
            line := some { kind := .hello, dst := 65535, src := straps.toNat, hop := 1, tag := Config.ownFrameTag,
                           body := helloBody straps.toNat p } }
      else Port.initial) ∧
    t.port 8 = if straps ≠ 0#16 ∧ straps ≠ 65535#16 ∧ s.pins.carrier = true then { Port.initial with link := .up }
      else Port.initial

/-! ## Ports (chapter 9) -/

/-- Signal present takes a DOWN line port to ACQUIRE, with a HELLO handed over and the HELLO timer started; carrier
present takes a DOWN local port to UP, with its LINK_CHANGE. In any other link state, or with a node ID of 0 or
65535, only the pin's level changes.
Signal lost takes an ACQUIRE line port to DOWN with its timers stopped and its acquisition record cleared, and
leaves a DOWN one; carrier lost takes an UP local port to DOWN, flushing its queues into the drop counter, and
builds LINK_CHANGE.
That a signal lost in ACQUIRE keeps the port's queues is DEDUCED (log entry 17). -/
def Obligations.SignalAndCarrierTaken : Prop :=
  (∀ s : State,
     (∀ p : Fin 8,
       exec (.signalPresent p) s = .next
         (if (s.port p).link = .down ∧ nodeIdValid s = true then
           ({ s with pins := { s.pins with signal := s.pins.signal.set p true } } : State).modPort p fun x =>
             { ({ x with link := .acquire, acq := none } : Port).hand
                 (adjacentFrame .hello (helloBody s.switch.nodeId p) s) with
               helloTimer := some (s.now + (s.faceSet p).helloInterval) }
         else { s with pins := { s.pins with signal := s.pins.signal.set p true } })) ∧
     exec .carrierPresent s = .next
       (if (s.port 8).link = .down ∧ nodeIdValid s = true then
         event (evLinkChange 8 .up none)
           (({ s with pins := { s.pins with carrier := true } } : State).modPort 8 fun x => { x with link := .up })
       else { s with pins := { s.pins with carrier := true } })) ∧
  (∀ s : State,
     (∀ p : Fin 8,
       ((s.port p).link = .down →
         exec (.signalLost p) s = .next { s with pins := { s.pins with signal := s.pins.signal.set p false } }) ∧
       ((s.port p).link = .acquire →
         exec (.signalLost p) s = .next
           (({ s with pins := { s.pins with signal := s.pins.signal.set p false } } : State).modPort p fun x =>
             { x with link := .down, acq := none, helloTimer := none, deadTimer := none }))) ∧
     ((s.port 8).link ≠ .up →
       exec .carrierLost s = .next { s with pins := { s.pins with carrier := false } }) ∧
     ((s.port 8).link = .up →
       exec .carrierLost s = .next
         (event (evLinkChange 8 .down (s.port 8).neighbour)
           (({ s with pins := { s.pins with carrier := false } } : State).modPort 8 fun x =>
             { x with
                 link := .down, neighbour := none, acq := none, helloTimer := none, deadTimer := none,
                 urgent := [], bulk := [],
                 counters := { x.counters with
                   drop := min (x.counters.drop + (x.urgent.length + x.bulk.length)) counterMax } }))))

/-- A line port in UP leaves it by a lost signal, an expired dead timer or a HELLO from another node, which is then
counted. Its neighbour record is cleared, its dead timer stopped, its queues are emptied and their frames counted as
drops; every context in RESERVED to SETTLED that names the port is FAULTED with cause LINK_LOSS and this node as
origin, its FAULT leaving through its other port alone; IN_SERVICE and FAULTED records are untouched; the LINK_CHANGE
with the new state and the neighbour it had is handed over after the contexts' events.
The loss of a port faults a record in RESERVED to SETTLED that names it with LINK_LOSS, its FAULT through its other
port.
That every record is faulted before what the faults bring is run is DEDUCED (log entry 2). -/
def Obligations.LeavingUpFaultsNamedContexts : Prop :=
  (∀ (p : Fin 8) (s : State) (c : Instr) (link : LinkState) (acq : Option Acq), (s.port p).link = .up →
     s.work = [] → s.told = [] →
     ((c = .signalLost p ∧ link = .down ∧ acq = none) ∨
       (c = .deadTimerExpiry p ∧ due (s.port p).deadTimer s.now = true ∧ link = .acquire ∧ acq = none) ∨
       (∃ h body n np, c = .hello h body ∧ h.port.val = p.val ∧ parseHello body = some (n, np) ∧
         n ≠ s.switch.nodeId ∧ (s.port p).neighbour.map (·.1) ≠ some n ∧ link = .acquire ∧
         acq = some ⟨n, 1, s.now⟩)) →
     ∃ t u, exec c s = .next t ∧ t = arbitrate (event (evLinkChange p link (s.port p).neighbour) u) ∧
       u.work = [] ∧ u.told = [] ∧
       (t.port p).link = link ∧ (t.port p).neighbour = none ∧ (t.port p).deadTimer = none ∧ (t.port p).acq = acq ∧
       (t.port p).urgent = [] ∧ (t.port p).bulk = [] ∧
       (t.port p).counters.drop =
         min ((s.port p).counters.drop + ((s.port p).urgent.length + (s.port p).bulk.length)) counterMax ∧
       (∀ h x, s.ctx h = some x → x.st.faultable = true → x.upPort = some p.val ∨ x.downPort = some p.val →
         ∃ y unconfirmed, t.ctx h = some y ∧ y.st = .faulted ∧ y.inst = x.inst ∧
           y.faultRec = some ⟨.linkLoss, s.switch.nodeId, .here, unconfirmed⟩) ∧
       (∀ h x, s.ctx h = some x → x.st = .inService ∨ x.st = .faulted → t.ctx h = some x)) ∧
  (∀ (p h : Nat) (x : Context) (s : State), s.ctx h = some x → x.st.faultable = true →
     (x.upPort = some p → x.downPort ≠ some p →
       linkLossFault p h s =
         countLocalFault (enterFaulted h x .linkLoss s.switch.nodeId .here false true s)) ∧
     (x.downPort = some p → x.upPort ≠ some p →
       linkLossFault p h s =
         countLocalFault (enterFaulted h x .linkLoss s.switch.nodeId .here true false s)) ∧
     (x.upPort ≠ some p → x.downPort ≠ some p → linkLossFault p h s = s))

/-- A HELLO that is not well formed, that names this node as its sender, or that arrives on port 8 raises the
port's malformed counter and changes nothing else.
A HELLO from node `n`, port `np`, at a line port: ignored when DOWN; in ACQUIRE it counts towards three from
one candidate, each within three hello intervals of the last, and the third takes the port UP; in UP it restarts
the dead timer, and one from another node takes the port back to ACQUIRE.
That a bad HELLO is counted in DOWN too is DEDUCED (log entry 17); that one from node 0 or 65535, or port above 8,
counts as any other is the model's (log entry 26). -/
def Obligations.HelloMovesLinkMachine : Prop :=
  (∀ (h : Hdr) (body : List Byte) (s : State), AtRest s →
     (h.port.val = 8 ∨ parseHello body = none ∨ ∃ np, parseHello body = some (s.switch.nodeId, np)) →
     exec (.hello h body) s = .next (malformed h.port (countRx h.port s))) ∧
  (∀ (h : Hdr) (body : List Byte) (n np : Nat) (s : State), AtRest s → h.port.val < 8 →
     parseHello body = some (n, np) → n ≠ s.switch.nodeId →
     ((s.port h.port).link = .down → exec (.hello h body) s = .next (countRx h.port s)) ∧
     ((s.port h.port).link = .acquire →
       (∀ a, (s.port h.port).acq = some a → a.cand = n →
         s.now ≤ a.time + 3 * (s.faceSet h.port).helloInterval →
         (a.count + 1 < 3 →
           exec (.hello h body) s = .next ((countRx h.port s).modPort h.port fun x =>
             { x with acq := some ⟨n, a.count + 1, s.now⟩ })) ∧
         (3 ≤ a.count + 1 →
           exec (.hello h body) s = .next (event (evLinkChange h.port .up (some (n, np)))
             ((countRx h.port s).modPort h.port fun x =>
               { x with acq := some ⟨n, a.count + 1, s.now⟩, link := .up, neighbour := some (n, np),
                        deadTimer := some (s.now + 3 * (s.faceSet h.port).helloInterval) })))) ∧
       ((∀ a, (s.port h.port).acq = some a →
           a.cand ≠ n ∨ a.time + 3 * (s.faceSet h.port).helloInterval < s.now) →
         exec (.hello h body) s = .next ((countRx h.port s).modPort h.port fun x =>
           { x with acq := some ⟨n, 1, s.now⟩ }))) ∧
     ((s.port h.port).link = .up →
       (∀ m, (s.port h.port).neighbour = some (n, m) →
         exec (.hello h body) s = .next ((countRx h.port s).modPort h.port fun x =>
           { x with neighbour := some (n, np),
                    deadTimer := some (s.now + 3 * (s.faceSet h.port).helloInterval) })) ∧
       (∀ n' m, (s.port h.port).neighbour = some (n', m) → n' ≠ n →
         ∃ t, exec (.hello h body) s = .next t ∧ (t.port h.port).link = .acquire ∧
           (t.port h.port).acq = some ⟨n, 1, s.now⟩ ∧ (t.port h.port).neighbour = none ∧
           (t.port h.port).urgent = [] ∧ (t.port h.port).bulk = [])))

/-- A HELLO timer expiry hands over a HELLO and restarts the timer; a transmission's end raises tx and starts the
oldest URGENT frame, or the oldest BULK frame when URGENT is empty. An expiry of a timer that is not due, and an
end on an idle line, change nothing. -/
def Obligations.HelloTimerAndTransmissionEnd : Prop :=
  ∀ s : State,
    (∀ p : Fin 8,
      exec (.helloTimerExpiry p) s = .next
        (if due (s.port p).helloTimer s.now = true ∧ (s.port p).link ≠ .down then
          s.modPort p fun x =>
            { x.hand (adjacentFrame .hello (helloBody s.switch.nodeId p) s) with
              helloTimer := some (s.now + (s.faceSet p).helloInterval) }
        else s) ∧
      (¬(due (s.port p).deadTimer s.now = true ∧ (s.port p).link = .up) →
        exec (.deadTimerExpiry p) s = .next s)) ∧
    ∀ p : Fin 9,
      ((s.port p).line = none → exec (.transmissionEnd p) s = .next s) ∧
      (∀ f, (s.port p).line = some f →
        exec (.transmissionEnd p) s = .next (s.modPort p fun x =>
          match x.urgent, x.bulk with
          | g :: r, _ => { x with line := some g, urgent := r, counters := { x.counters with tx := bump x.counters.tx } }
          | [], g :: r => { x with line := some g, bulk := r, counters := { x.counters with tx := bump x.counters.tx } }
          | [], [] => { x with line := none, counters := { x.counters with tx := bump x.counters.tx } }))

/-- The hand-over of a frame to a port: a HELLO needs ACQUIRE or UP and any other frame UP, else the not-up
discard counter rises; a full queue raises the queue drop counter; otherwise the frame stands at the back of
URGENT (HELLO and commissioning kinds, 16 frames) or BULK (management kinds, 32 frames), and an idle line starts
its oldest URGENT frame, or its oldest BULK frame.
That a free line starts a frame in the take of its hand-over is DEDUCED (log entry 18). -/
def Obligations.FrameHandOver : Prop :=
  ∀ (x : Port) (f : Frame),
    let management : Prop := f.kind = .mgmtRequest ∨ f.kind = .mgmtResponse ∨ f.kind = .event
    let ready : Prop := x.link = .up ∨ (x.link = .acquire ∧ f.kind = .hello)
    (¬ready → x.hand f = { x with counters := { x.counters with notUp := min (x.counters.notUp + 1) counterMax } }) ∧
    (ready → ¬management → 16 ≤ x.urgent.length →
      x.hand f = { x with counters := { x.counters with drop := min (x.counters.drop + 1) counterMax } }) ∧
    (ready → management → 32 ≤ x.bulk.length →
      x.hand f = { x with counters := { x.counters with drop := min (x.counters.drop + 1) counterMax } }) ∧
    (ready → ¬management → x.urgent.length < 16 → ∀ g, x.line = some g →
      x.hand f = { x with urgent := x.urgent ++ [f] }) ∧
    (ready → management → x.bulk.length < 32 → ∀ g, x.line = some g →
      x.hand f = { x with bulk := x.bulk ++ [f] }) ∧
    (ready → ¬management → x.line = none → x.urgent = [] → x.hand f = { x with line := some f }) ∧
    (ready → management → x.line = none → x.urgent = [] → x.bulk = [] → x.hand f = { x with line := some f })

/-- The egress queues keep within 16 and 32 frames, and a line stands idle only while both its queues are empty. -/
def Obligations.EveryStepKeepsQueuesSound : Prop := ∀ s t : State, QueuesSound s → step s = .next t → QueuesSound t

/-! ## Received frames (chapters 9 and 11) -/

/-- A byte sequence that fails the CRC check raises rx and the CRC counter of its port; one that passes it with a
length, version or kind that is wrong raises rx and malformed; nothing else changes. -/
def Obligations.RejectedFramesCounted : Prop :=
  ∀ (p : Fin 9) (bytes : List Byte) (s : State),
    (4 ≤ bytes.length → bytes.drop (bytes.length - 4) ≠ e32 (crc32 (bytes.take (bytes.length - 4))).toNat →
      exec (.rxFrameRejected p bytes) s = .next (s.modPort p fun x =>
        { x with counters := { x.counters with rx := bump x.counters.rx, crc := bump x.counters.crc } })) ∧
    (4 ≤ bytes.length → bytes.length < 14 →
      bytes.drop (bytes.length - 4) = e32 (crc32 (bytes.take (bytes.length - 4))).toNat →
      exec (.rxFrameRejected p bytes) s = .next (s.modPort p fun x =>
        { x with counters := { x.counters with rx := bump x.counters.rx, malformed := bump x.counters.malformed } })) ∧
    (∀ (version kind len dst src hop tag : Nat) (body : List Byte),
      bytes.take (bytes.length - 4) =
        e8 version ++ e8 kind ++ e16 len ++ e16 dst ++ e16 src ++ e8 hop ++ e8 tag ++ body →
      bytes.length = 14 + body.length →
      bytes.drop (bytes.length - 4) = e32 (crc32 (bytes.take (bytes.length - 4))).toNat →
      version < 256 → kind < 256 → len < 65536 →
      (version ≠ 1 ∨ len ≠ bytes.length ∨ 1024 < len ∨ FrameKind.ofCode kind = none) →
      exec (.rxFrameRejected p bytes) s = .next (s.modPort p fun x =>
        { x with counters := { x.counters with rx := bump x.counters.rx, malformed := bump x.counters.malformed } }))

/-- What is sent is what is received: the bytes of a frame with fields in range pass every check of reception and
give back kind, destination, source, hop limit, tag and body.
The bodies the part writes are the bodies it reads: SETUP, SETUP-REJECT, PROBE, PROBE-ACK, PROBE-NAK, ADVANCE
and READY, FAULT, TEARDOWN and HELLO, with every field at every value its range admits. -/
def Obligations.FramesAndBodiesRoundTrip : Prop :=
  (∀ f : Frame, f.dst < 65536 → f.src < 65536 → f.hop < 256 → f.body.length ≤ 1010 →
     receivedFrame f.encode = .frame f ∧ f.encode.length = 14 + f.body.length) ∧
  ((∀ b : SetupBody, b.id < 4294967296 → b.first < 65536 → b.count < 256 → b.profile < 256 → b.pilot < 65536 →
     b.sound = true → (∀ e ∈ b.hops, e.node < 65536) → parseSetup b.encode = some b) ∧
   (∀ id, id < 4294967296 → parseId (idBody id) = some id) ∧
   (∀ id r node, id < 4294967296 → node < 65536 → parseReject (rejectBody id r node) = some (id, r, node)) ∧
   (∀ id k, id < 4294967296 → k ≤ 3 → parseProbe (probeBody id k) = some (id, k)) ∧
   (∀ id k v, id < 4294967296 → k ≤ 3 → parseProbeAck (probeAckBody id k v) = some (id, k, v)) ∧
   (∀ id k node, id < 4294967296 → k ≤ 3 → node < 65536 →
     parseProbeNak (probeNakBody id k node) = some (id, k, node)) ∧
   (∀ id (l : List HopReport), 0 < id → id < 4294967296 → 1 ≤ l.length → l.length ≤ 32 →
     (∀ x ∈ l, x.node < 65536 ∧ (x.atten = .blocked ∨ ∃ n, n ≤ 2500 ∧ x.atten = .db n) ∧ -32768 ≤ x.reading ∧
       x.reading ≤ 32767 ∧ x.used < 256) →
     parseReports (reportsBody id l) = some (id, l)) ∧
   (∀ id cause origin travel, 0 < id → id < 4294967296 → origin < 65536 → travel ≠ .here →
     parseFault (faultBody id cause origin travel) = some (id, cause, origin, travel)) ∧
   (∀ b : TeardownBody, 0 < b.id → b.id < 4294967296 → 2 ≤ b.hops.length → b.hops.length ≤ 32 → 1 ≤ b.cursor →
     b.cursor + 1 ≤ b.hops.length → (∀ e ∈ b.hops, e.node < 65536 ∧ e.ingress ≤ 11 ∧ e.egress ≤ 11) →
     TeardownBody.parse b.encode = some b) ∧
   ∀ n p, n < 65536 → p < 256 → parseHello (helloBody n p) = some (n, p))

/-- A commissioning frame on a port that is not UP raises rx and not-up discard; on an UP port one whose body does
not pass raises rx and malformed; one whose body passes but that came over port 8, or is not addressed ADJACENT,
raises rx and the stray commissioning counter. Nothing else changes.
A setup reply or probe frame whose lightpath ID finds no record is stray. -/
def Obligations.CommissioningFramesScreened : Prop :=
  (∀ (c : Instr) (h : Hdr) (passes : Bool) (s : State), AtRest s → linkFrame c = some (h, passes) →
     ((s.port h.port).link ≠ .up → exec c s = .next (countNotUp h.port (countRx h.port s))) ∧
     ((s.port h.port).link = .up → passes = false → exec c s = .next (malformed h.port (countRx h.port s))) ∧
     ((s.port h.port).link = .up → passes = true → (h.port.val = 8 ∨ h.dst.toNat ≠ 65535) →
       exec c s = .next (stray (countRx h.port s)))) ∧
  (∀ (h : Hdr) (body : List Byte) (id : Nat) (s : State), AtRest s → OnLink h s → findLp s id = none →
     (parseId body = some id → exec (.setupAck h body) s = .next (stray (countRx h.port s))) ∧
     (∀ r node, parseReject body = some (id, r, node) →
       exec (.setupReject h body) s = .next (stray (countRx h.port s))) ∧
     (∀ k, parseProbe body = some (id, k) → exec (.probe h body) s = .next (stray (countRx h.port s))) ∧
     (∀ k v, parseProbeAck body = some (id, k, v) →
       exec (.probeAck h body) s = .next (stray (countRx h.port s))) ∧
     (∀ k node, parseProbeNak body = some (id, k, node) →
       exec (.probeNak h body) s = .next (stray (countRx h.port s))) ∧
     (∀ l, parseReports body = some (id, l) →
       exec (.advance h body) s = .next (stray (countRx h.port s)) ∧
       exec (.ready h body) s = .next (stray (countRx h.port s))) ∧
     ∀ cause origin travel, parseFault body = some (id, cause, origin, travel) →
       exec (.fault h body) s = .next (countDiscardedFault (countRx h.port s)))

/-- A management request on a port that is not UP raises rx and not-up discard; for this node but not well formed
it is answered BAD_REQUEST; with destination 0 it raises malformed; for another node it is forwarded. Nothing
else changes.
Which bodies are well formed rests, for coded fields that a write ignores, on log entry 14 (DEDUCED). -/
def Obligations.RequestsScreened : Prop :=
  ∀ (c : Instr) (r : RequestParts) (s : State), AtRest s → requestParts c = some r →
    ((s.port r.hdr.port).link ≠ .up → exec c s = .next (countNotUp r.hdr.port (countRx r.hdr.port s))) ∧
    (ForNode r.hdr s → r.good = false →
      exec c s = .next (respond r.hdr r.code .badRequest [] (countRx r.hdr.port s))) ∧
    ((s.port r.hdr.port).link = .up → r.hdr.dst = 0#16 → s.switch.nodeId ≠ 0 →
      exec c s = .next (malformed r.hdr.port (countRx r.hdr.port s))) ∧
    ((s.port r.hdr.port).link = .up → r.hdr.dst ≠ 0#16 → r.hdr.dst ≠ 65535#16 →
      r.hdr.dst.toNat ≠ s.switch.nodeId →
      exec c s = .next (forwardFrame r.hdr.port (frameOf r.hdr .mgmtRequest (e8 r.code ++ r.rest))
        (countRx r.hdr.port s)))

/-- A management frame for another node: with hop limit 0 or 1 it raises the hop limit counter; otherwise it is
handed, its hop limit one lower, to the port of the lowest valid route entry that agrees with its destination in
every bit of the mask, else to the default port, else it raises no-route. A response or event for this node is
handed to port 8, and one addressed ADJACENT is malformed. A request code that names no request, and a request
with no code, is answered BAD_REQUEST.
The echo of a missing code is the free value of log entry 6. -/
def Obligations.ManagementFramesSwitched : Prop :=
  ∀ (h : Hdr) (body : List Byte) (s : State), (s.port h.port).link = .up →
    (∀ (k : MgmtKind) (fk : FrameKind),
      (k, fk) ∈ [(MgmtKind.request, FrameKind.mgmtRequest), (.response, .mgmtResponse), (.event, .event)] →
      h.dst ≠ 0#16 → h.dst ≠ 65535#16 → h.dst.toNat ≠ s.switch.nodeId →
      (h.hop.toNat ≤ 1 → exec (.forwarding h k body) s = .next (countHopLimit h.port (countRx h.port s))) ∧
      (∀ i r, 2 ≤ h.hop.toNat → i < 32 → s.switch.routes.get i = r → r.valid = true →
        r.base &&& r.mask = h.dst.toNat &&& r.mask →
        (∀ j, j < i → (s.switch.routes.get j).valid = true →
          (s.switch.routes.get j).base &&& (s.switch.routes.get j).mask ≠
            h.dst.toNat &&& (s.switch.routes.get j).mask) →
        exec (.forwarding h k body) s = .next (handFrame r.port
          { kind := fk, dst := h.dst.toNat, src := h.src.toNat, hop := h.hop.toNat - 1, tag := h.tag, body := body }
          (countRx h.port s))) ∧
      (2 ≤ h.hop.toNat →
        (∀ j, j < 32 → (s.switch.routes.get j).valid = true →
          (s.switch.routes.get j).base &&& (s.switch.routes.get j).mask ≠
            h.dst.toNat &&& (s.switch.routes.get j).mask) →
        exec (.forwarding h k body) s = .next
          (match s.switch.settings.defaultPort with
            | none => countNoRoute (countRx h.port s)
            | some p => handFrame p
                { kind := fk, dst := h.dst.toNat, src := h.src.toNat, hop := h.hop.toNat - 1, tag := h.tag,
                  body := body }
                (countRx h.port s)))) ∧
    (∀ (k : ReplyKind) (fk : FrameKind),
      (k, fk) ∈ [(ReplyKind.response, FrameKind.mgmtResponse), (.event, .event)] →
      (h.dst.toNat = s.switch.nodeId →
        exec (.responseEventDelivery h k body) s = .next (handFrame 8
          { kind := fk, dst := h.dst.toNat, src := h.src.toNat, hop := h.hop.toNat, tag := h.tag, body := body }
          (countRx h.port s))) ∧
      (h.dst = 65535#16 → s.switch.nodeId ≠ 65535 →
        exec (.responseEventDelivery h k body) s = .next (malformed h.port (countRx h.port s)))) ∧
    (ForNode h s → namesRequest body = false →
      (∀ c rest, body = c :: rest →
        exec (.unknownRequestCode h body) s = .next (respond h c.toNat .badRequest [] (countRx h.port s))) ∧
      (body = [] →
        exec (.unknownRequestCode h body) s = .next
          (respondTo h.port h.src.toNat h.tag [Config.missingCodeEcho, 3#8] (countRx h.port s))))

/-! ## The Spectrum Directory (chapter 1) -/

/-- A walk reads face, block and entry, and follows one link: absent face or block end it; otherwise it returns the
entry's kind with the guards gathered and the classes every face allows; through a link, those of the home walk.
A marking walk marks every face and block it reads and finds present, and every entry it reads, those of the home
among them.
The marks of the walks of a request set the used flag of just these and change nothing else.
A span is judged by the first of NOT_EQUIPPED, CLASS_BARRED, GUARDED and SPECTRUM_BUSY that holds for any of its
walks, and passes when none does. -/
def Obligations.WalkFollowsOneLink : Prop :=
  (∀ (s : State) (f n : Nat), f ≤ 11 → n ≤ 383 →
     let block := s.block f (n / 16)
     let entry := s.entry block.page (n % 16)
     let face := s.face f
     (face.present = false → (walk s f n).1 = .faceAbsent) ∧
     (face.present = true → block.present = false → (walk s f n).1 = .blockAbsent) ∧
     (face.present = true → block.present = true → (∀ g m, entry.kind ≠ .indirect g m) →
       (walk s f n).1 = .found entry.kind (face.guard || block.guard) face.mask) ∧
     (∀ g m, face.present = true → block.present = true → entry.kind = .indirect g m →
       let home := s.block g (m / 16)
       ((s.face g).present = false → (walk s f n).1 = .faceAbsent) ∧
       ((s.face g).present = true → home.present = false → (walk s f n).1 = .blockAbsent) ∧
       ((s.face g).present = true → home.present = true →
         (walk s f n).1 = .found (s.entry home.page (m % 16)).kind
           (face.guard || block.guard || (s.face g).guard || home.guard) (face.mask.inter (s.face g).mask))) ∧
     let marks := (walk s f n).2
     let linked (g m : Nat) : Prop :=
       face.present = true ∧ block.present = true ∧ entry.kind = .indirect g m ∧ (s.face g).present = true
     (∀ k, k ∈ marks.faces ↔ (k = f ∧ face.present = true) ∨ ∃ m, linked k m) ∧
     (∀ k, k ∈ marks.blocks ↔ (k = 24 * f + n / 16 ∧ face.present = true ∧ block.present = true) ∨
       ∃ g m, linked g m ∧ (s.block g (m / 16)).present = true ∧ k = 24 * g + m / 16) ∧
     ∀ k, k ∈ marks.entries ↔
       (k = 16 * block.page + n % 16 ∧ face.present = true ∧ block.present = true) ∨
       ∃ g m, linked g m ∧ (s.block g (m / 16)).present = true ∧ k = 16 * (s.block g (m / 16)).page + m % 16) ∧
  (∀ (l : List (WalkResult × Marks)) (s : State),
     let t := setMarks (allMarks l) s
     t = { s with dir := t.dir } ∧
     ∀ k,
       (t.dir.faces.get k = { s.dir.faces.get k with
         used := (s.dir.faces.get k).used || l.any fun w => w.2.faces.contains k }) ∧
       (t.dir.blocks.get k = { s.dir.blocks.get k with
         used := (s.dir.blocks.get k).used || l.any fun w => w.2.blocks.contains k }) ∧
       (t.dir.entries.get k = { s.dir.entries.get k with
         used := (s.dir.entries.get k).used || l.any fun w => w.2.entries.contains k })) ∧
  (∀ (c : OriginClass) (l : List WalkResult),
     let absent : Prop := ∃ w ∈ l, w = .faceAbsent ∨ w = .blockAbsent
     let barred : Prop := ∃ k g m, .found k g m ∈ l ∧ m.allows c = false
     let guarded : Prop := ∃ k m, .found k true m ∈ l
     let busy : Prop := ∃ k g m, .found k g m ∈ l ∧ k ≠ .free
     (absent → judgeWalks c l = some .notEquipped) ∧
     (¬absent → barred → judgeWalks c l = some .classBarred) ∧
     (¬absent → ¬barred → guarded → judgeWalks c l = some .guarded) ∧
     (¬absent → ¬barred → ¬guarded → busy → judgeWalks c l = some .spectrumBusy) ∧
     (¬absent → ¬barred → ¬guarded → ¬busy → judgeWalks c l = none))

/-- Under Law 10, where all its blocks are present, a reservation makes each slot of the span OWNED on the egress face
and INDIRECT on the ingress face and touches no other entry; a freeing returns exactly the entries of that form to
FREE; neither touches a flag, a descriptor or anything outside the Directory. -/
def Obligations.SpanReservedAndFreed : Prop :=
  ∀ (handle ing eg first count : Nat) (s : State), Law10 s → ing ≤ 11 → eg ≤ 11 → ing ≠ eg → first + count ≤ 384 →
    (∀ n, first ≤ n → n < first + count →
      (s.block ing (n / 16)).present = true ∧ (s.block eg (n / 16)).present = true) →
    let inSpan (n : Nat) : Prop := first ≤ n ∧ n < first + count
    let key (f n : Nat) : Nat := 16 * (s.block f (n / 16)).page + n % 16
    let r := reserveSpan handle ing eg first count s
    let t := freeSpan handle ing eg first count s
    r = { s with dir := { s.dir with entries := r.dir.entries } } ∧
    (∀ n, inSpan n →
      r.dir.entries.get (key eg n) = { s.dir.entries.get (key eg n) with kind := .owned handle } ∧
      r.dir.entries.get (key ing n) = { s.dir.entries.get (key ing n) with kind := .indirect eg n }) ∧
    (∀ k, (∀ n, inSpan n → k ≠ key eg n ∧ k ≠ key ing n) → r.dir.entries.get k = s.dir.entries.get k) ∧
    t = { s with dir := { s.dir with entries := t.dir.entries } } ∧
    ((s.face ing).present = true → (s.face eg).present = true → ∀ n, inSpan n →
      t.dir.entries.get (key eg n) =
        (if (s.dir.entries.get (key eg n)).kind = .owned handle then { s.dir.entries.get (key eg n) with kind := .free }
          else s.dir.entries.get (key eg n)) ∧
      t.dir.entries.get (key ing n) =
        (if (s.dir.entries.get (key ing n)).kind = .indirect eg n then { s.dir.entries.get (key ing n) with kind := .free }
          else s.dir.entries.get (key ing n))) ∧
    ∀ k, (∀ n, inSpan n → k ≠ key eg n ∧ k ≠ key ing n) → t.dir.entries.get k = s.dir.entries.get k

/-- Law 10: no page is named by two present blocks.
Laws 1, 2 and 9 with it: OWNED and INDIRECT entries are just the spans of the contexts on their egress and ingress
faces, and each live slot count is the FOREIGN entries of the face's present blocks with the spans of the contexts in
SETTLED and IN_SERVICE that egress there. -/
def Obligations.EveryStepKeepsPagesApart : Prop :=
  (∀ s t : State, Law10 s → step s = .next t → Law10 t) ∧
  ∀ s t : State, SpectrumLaws s → step s = .next t → SpectrumLaws t

/-! ## The Context Table (chapter 2) -/

/-- Law 3: at most 16 contexts are in states other than FREE and IN_SERVICE. -/
def Obligations.EveryStepKeepsActiveLimit : Prop := ∀ s t : State, Law3 s → step s = .next t → Law3 t

/-- Law 8: lightpath IDs are not shared, nor pilot codes among contexts in RESERVED or PROBING. -/
def Obligations.EveryStepKeepsIdentifiersApart : Prop := ∀ s t : State, Law8 s → step s = .next t → Law8 t

/-- While a record holds its instance, its identity and path fields keep their values, its adopted flag stays, and
(Law 7) its probe level never decreases, from any state whose Context Table is in its canonical form and whose
RESERVED records stand at level 0; the latter every command keeps. -/
def Obligations.RecordIdentityFixed : Prop :=
  ∀ (c : Instr) (s t : State), s.table.recs.wf → (∀ h x, s.ctx h = some x → x.st = .reserved → x.probeLevel = 0) →
    exec c s = .next t →
    (∀ h x, t.ctx h = some x → x.st = .reserved → x.probeLevel = 0) ∧
    ∀ h x y, s.ctx h = some x → t.ctx h = some y → y.inst = x.inst →
      y = { y with
              lpId := x.lpId, role := x.role, ingress := x.ingress, egress := x.egress, upPort := x.upPort,
              downPort := x.downPort, first := x.first, count := x.count, cls := x.cls, profile := x.profile,
              trim := x.trim, pilot := x.pilot, hopIndex := x.hopIndex, hopCount := x.hopCount,
              adopted := x.adopted, hopList := x.hopList } ∧
      x.probeLevel ≤ y.probeLevel

/-! ## Path setup (chapter 3) -/

/-- A SETUP whose entry names another node or another ingress face is refused MISWIRED; one whose egress face does
not fit the role its cursor gives, or whose span is not valid, BAD_HOP; otherwise the lowest-numbered failing one
of checks 3 to 8 gives the reason, and the walks leave their marks. The reject goes out of the arrival port, and
setups rejected rises.
A SETUP that passes checks 1 to 8 allocates the lowest FREE record in RESERVED with the frame's parameters,
reserves the span and raises setups accepted. A transit sends the SETUP on with the cursor one higher; a tail
answers SETUP-ACK upstream.
That a SETUP sent on keeps source and tag is DEDUCED (log entry 10). -/
def Obligations.SetupJudged : Prop :=
  (∀ (h : Hdr) (body : List Byte) (b : SetupBody) (e : Hop) (s : State), OnLink h s → parseSetup body = some b →
     b.hops[b.cursor]? = some e →
     let refusal (r : Reason) (t : State) : State :=
       sendAdjacent h.port .setupReject (e32 b.id ++ e8 r.code ++ e16 s.switch.nodeId) (countRejected t)
     let mine : Prop := e.node = s.switch.nodeId ∧ e.ingress = h.port.val
     let fits : Prop :=
       ((b.cursor + 1 < b.hops.length ∧ e.egress ≤ 7 ∧ e.egress ≠ e.ingress) ∨
         (b.cursor + 1 = b.hops.length ∧ 8 ≤ e.egress ∧ e.egress ≤ 11)) ∧
       1 ≤ b.count ∧ b.count ≤ 16 ∧ b.first + b.count ≤ 384
     let o := s.resp.overlay
     let spectrum := judgeWalks b.cls ((admitWalks s e.ingress e.egress b.first b.count).map (·.1))
     (¬mine → exec (.setup h body) s = .next (refusal .miswired (countRx h.port s))) ∧
     (mine → ¬fits → exec (.setup h body) s = .next (refusal .badHop (countRx h.port s))) ∧
     ∀ r, mine → fits →
       (if (findLp s b.id).isSome then some Reason.lpBusy
         else if o.classes.allows b.cls = false then some .classBarred
         else if o.span < b.count then some .spanLimit
         else if o.concurrency ≤ activeCount s then some .nodeBusy
         else if lowestFree s = none then some .tableFull
         else if 7 < b.profile then some .badProfile
         else if pilotInUse s b.pilot then some .pilotInUse
         else if spectrum ≠ none then spectrum
         else if elementsReady s e.egress = false then some .noElement
         else none) = some r →
       exec (.setup h body) s = .next (refusal r
         (setMarks (allMarks (admitWalks s e.ingress e.egress b.first b.count)) (countRx h.port s)))) ∧
  (∀ (h : Hdr) (body : List Byte) (b : SetupBody) (e : Hop) (n : Nat) (s : State), OnLink h s →
     parseSetup body = some b → b.hops[b.cursor]? = some e → e.node = s.switch.nodeId → e.ingress = h.port.val →
     1 ≤ b.count → b.count ≤ 16 → b.first + b.count ≤ 384 → findLp s b.id = none →
     s.resp.overlay.classes.allows b.cls = true → b.count ≤ s.resp.overlay.span →
     activeCount s < s.resp.overlay.concurrency → n < 256 → s.ctx n = none →
     (∀ m, m < n → (s.ctx m).isSome = true) → b.profile ≤ 7 → pilotInUse s b.pilot = false →
     judgeWalks b.cls ((admitWalks s e.ingress e.egress b.first b.count).map (·.1)) = none →
     elementsReady s e.egress = true →
     let record (role : Role) (down : Option Nat) : Context :=
       { inst := s.table.nextInst, lpId := b.id, role := role, ingress := e.ingress, egress := e.egress,
         upPort := some e.ingress, downPort := down, first := b.first, count := b.count, cls := b.cls,
         profile := b.profile, trim := b.trim, pilot := b.pilot, hopIndex := b.cursor, hopCount := b.hops.length,
         st := .reserved,
         target := clampInt (-4000) 1500 ((s.faceSet e.egress).density + Config.density b.count + b.trim),
         atten := .blocked, lastReading := none, readingsUsed := 0, settledRun := 0, probeLevel := 0,
         adopted := false, guardHeld := false, pilotValidated := false, setupAcked := role == .tail,
         deadline := some (s.now + 1000 * (s.profile b.profile).setupTimeout), hopList := none, hopReports := none,
         watch := none, faultRec := none, drift := none, probeTimer := none,
         work := ⟨none, false, none, false, false, false⟩, carried := none, rampHeld := false, rampDwell := none }
     let taken (c : Context) : State :=
       countAccepted (reserveSpan n e.ingress e.egress b.first b.count (allocate n c
         (setMarks (allMarks (admitWalks s e.ingress e.egress b.first b.count)) (countRx h.port s))))
     (b.cursor + 1 < b.hops.length → e.egress ≤ 7 → e.egress ≠ e.ingress →
       exec (.setup h body) s = .next
         (handFrame e.egress
           { kind := .setup, dst := 65535, src := h.src.toNat, hop := 1, tag := h.tag,
             body := SetupBody.encode { b with cursor := b.cursor + 1 } }
           (taken (record .transit (some e.egress))))) ∧
     (b.cursor + 1 = b.hops.length → 8 ≤ e.egress → e.egress ≤ 11 →
       exec (.setup h body) s = .next
         (sendAdjacent e.ingress .setupAck (e32 b.id) (taken (record .tail none)))))

/-- A RESERVED record that awaits its reply, on SETUP-ACK from its downstream port: a transit sets setup
acknowledged and relays the frame upstream; the head becomes PROBING at level 0, asks its L[0] setting with the
DITHER-START waiting behind it, starts its probe dwell and sends PROBE(0). Any other SETUP-ACK is stray.
A RESERVED record that awaits its reply, on SETUP-REJECT from its downstream port, is freed with its span: a
transit relays the frame upstream unchanged, the head sends LP_REJECTED with the reason and node it carries. Any
other SETUP-REJECT is stray.
That a relayed frame keeps source and tag is DEDUCED (log entry 10). -/
def Obligations.SetupRepliesTaken : Prop :=
  (∀ (h : Hdr) (body : List Byte) (id n : Nat) (c : Context) (s : State), AtRest s → OnLink h s →
     parseId body = some id → findLp s id = some (n, c) → s.ctx n = some c →
     let awaits : Prop := c.st = .reserved ∧ c.setupAcked = false ∧ c.downPort = some h.port.val
     (awaits → c.role = .transit → ∀ p, c.upPort = some p →
       exec (.setupAck h body) s = .next
         (handFrame p { kind := .setupAck, dst := 65535, src := h.src.toNat, hop := 1, tag := h.tag, body := body }
           ((countRx h.port s).setCtx n (some { c with setupAcked := true })))) ∧
     (awaits → c.role = .head → c.work = ProbeWork.none →
       ∀ e, Placeable .ramp (s.faceSet c.egress).wss e s →
       exec (.setupAck h body) s = .next (arbitrate
         (sendAdjacent h.port .probe (e32 c.lpId ++ e8 0)
           (place .ramp e (.setAtten (s.profile c.profile).l0) false c.first c.count
             (.ctx n c.inst (.level (s.profile c.profile).l0))
             ((countRx h.port s).setCtx n (some { c with
               setupAcked := true, st := .probing, watch := none,
               probeTimer := some (s.now + (s.profile c.profile).probeDwell), probeLevel := 0,
               work := ⟨some 0, true, none, true, false, false⟩ })))))) ∧
     (¬awaits ∨ c.role = .tail → exec (.setupAck h body) s = .next (stray (countRx h.port s)))) ∧
  (∀ (h : Hdr) (body : List Byte) (id node n : Nat) (r : Reason) (c : Context) (s : State), AtRest s → OnLink h s →
     parseReject body = some (id, r, node) → findLp s id = some (n, c) → OffRamp n c s →
     let awaits : Prop := c.st = .reserved ∧ c.setupAcked = false ∧ c.downPort = some h.port.val
     let freed : State := (freeSpan n c.ingress c.egress c.first c.count (countRx h.port s)).setCtx n none
     (awaits → c.role = .transit → ∀ p, c.upPort = some p →
       exec (.setupReject h body) s = .next
         (handFrame p { kind := .setupReject, dst := 65535, src := h.src.toNat, hop := 1, tag := h.tag, body := body }
           freed)) ∧
     (awaits → c.role = .head →
       exec (.setupReject h body) s = .next (event (e8 2 ++ e32 id ++ e8 r.code ++ e16 node) freed)) ∧
     (¬awaits ∨ c.role = .tail → exec (.setupReject h body) s = .next (stray (countRx h.port s))))

/-! ## Pilot verification and the probe ladder (chapter 4) -/

/-- A burst whose code no watch holds raises the face's stray count. One on the watched face extends an unbroken
run, or starts it again at 1; one on another face does the same to the misroute run; the fourth misroute burst
faults the context with MISROUTE. -/
def Obligations.BurstsJudgedAgainstWatches : Prop :=
  ∀ (f : Fin 12) (code : BitVec 12) (s : State), AtRest s →
    (watchOf s code.toNat = none →
      exec (.burstReport f code) s = .next { s with stray := s.stray.mod f bump }) ∧
    ∀ n c w, watchOf s code.toNat = some (n, c, w) → s.ctx n = some c →
      let inWindow (last : Option Nat) : Prop :=
        ∃ t, last = some t ∧ t + (s.faceSet f).spacingMin ≤ s.now ∧ s.now ≤ t + (s.faceSet f).spacingMax
      (c.ingress = f.val → 0 < w.run → inWindow w.lastRun → w.run < 3 →
        exec (.burstReport f code) s = .next (s.setCtx n (some { c with
          watch := some { w with run := w.run + 1, lastRun := some s.now } }))) ∧
      (c.ingress = f.val → (w.run = 0 ∨ ¬inWindow w.lastRun) →
        exec (.burstReport f code) s = .next (s.setCtx n (some { c with
          watch := some { w with run := 1, lastRun := some s.now } }))) ∧
      (c.ingress ≠ f.val → 0 < w.misrun → w.misFace = some f.val → inWindow w.lastMis → w.misrun < 3 →
        exec (.burstReport f code) s = .next (s.setCtx n (some { c with
          watch := some { w with misrun := w.misrun + 1, lastMis := some s.now, misFace := some f.val } }))) ∧
      (c.ingress ≠ f.val → (w.misrun = 0 ∨ w.misFace ≠ some f.val ∨ ¬inWindow w.lastMis) →
        exec (.burstReport f code) s = .next (s.setCtx n (some { c with
          watch := some { w with misrun := 1, lastMis := some s.now, misFace := some f.val } }))) ∧
      (c.ingress ≠ f.val → 3 ≤ w.misrun → w.misFace = some f.val → inWindow w.lastMis →
        exec (.burstReport f code) s = .next (endTake (localFault n c .misroute (s.setCtx n (some { c with
          watch := some { w with misrun := w.misrun + 1, lastMis := some s.now, misFace := some f.val } })))))

/-- The fourth burst of an unbroken run validates the pilot: the watch and the probe window are gone and the flag
is set. A transit sends PROBE with its level downstream; a tail of class PLANNED or RESTORE sends PROBE-ACK with
the verify flag clear upstream and is ARMED under the arm timeout; a MAINT tail sends it with the flag set and
closes. -/
def Obligations.FourthBurstValidatesPilot : Prop :=
  ∀ (f : Fin 12) (code : BitVec 12) (n : Nat) (c : Context) (w : Watch) (t0 : Nat) (s : State), AtRest s →
    watchOf s code.toNat = some (n, c, w) → s.ctx n = some c → c.ingress = f.val → 3 ≤ w.run →
    w.lastRun = some t0 → t0 + (s.faceSet f).spacingMin ≤ s.now → s.now ≤ t0 + (s.faceSet f).spacingMax →
    (c.role = .transit → ∀ d, c.downPort = some d →
      exec (.burstReport f code) s = .next
        (sendAdjacent d .probe (e32 c.lpId ++ e8 c.probeLevel)
          (s.setCtx n (some { c with watch := none, pilotValidated := true, probeTimer := none })))) ∧
    (c.role = .tail → c.cls ≠ .maint → c.st = .probing → ∀ u, c.upPort = some u →
      exec (.burstReport f code) s = .next
        (sendAdjacent u .probeAck (e32 c.lpId ++ e8 c.probeLevel ++ e8 0)
          (s.setCtx n (some { c with
            watch := none, pilotValidated := true, probeTimer := none, st := .armed,
            deadline := some (s.now + 1000 * (s.profile c.profile).armTimeout) })))) ∧
    (c.role = .tail → c.cls = .maint → ∀ u, c.upPort = some u →
      exec (.burstReport f code) s = .next (endTake
        (closeMaint n c (sendAdjacent u .probeAck (e32 c.lpId ++ e8 c.probeLevel ++ e8 1)
          (s.setCtx n (some { c with watch := none, pilotValidated := true, probeTimer := none }))))))

/-- PROBE(k) from the upstream port, k not below the record's level. RESERVED or PROBING with the pilot not
validated: PROBING at level k, the level setting wanted, the watch created or kept, the window restarted. A
validated transit sends the PROBE on. ARMED at the same level: a transit sends PROBE again and a tail PROBE-ACK;
at a higher level they also take the level. Any other PROBE is stray.
That a PROBE sent on keeps source and tag is DEDUCED (log entry 10). -/
def Obligations.ProbeTaken : Prop :=
  ∀ (h : Hdr) (body : List Byte) (id k n : Nat) (c : Context) (s : State), AtRest s → OnLink h s →
    parseProbe body = some (id, k) → findLp s id = some (n, c) → s.ctx n = some c →
    let comes : Prop := c.role ≠ .head ∧ c.upPort = some h.port.val ∧ c.probeLevel ≤ k
    let wanted : ProbeWork :=
      if c.work.lastLevel = some k then c.work else { c.work with lastLevel := some k, level := some k }
    let answer (t : State) : State :=
      match c.role with
      | .transit => relay c.downPort .probe h body t
      | .tail => sendOn c.upPort .probeAck (e32 c.lpId ++ e8 k ++ e8 0) t
      | .head => t
    (comes → (c.st = .reserved ∨ c.st = .probing) → c.pilotValidated = false →
      exec (.probe h body) s = .next (endTake (pumpProbe n ((countRx h.port s).setCtx n (some { c with
        st := .probing, probeLevel := k, work := wanted,
        watch := some (if c.st = .probing then c.watch.getD ⟨0, none, 0, none, none⟩ else ⟨0, none, 0, none, none⟩),
        probeTimer := some (s.now + (s.profile c.profile).probeWindow) }))))) ∧
    (comes → c.st = .probing → c.pilotValidated = true → c.role = .transit →
      exec (.probe h body) s = .next (endTake (answer (pumpProbe n ((countRx h.port s).setCtx n (some { c with
        probeLevel := k, work := wanted })))))) ∧
    (comes → c.st = .armed → c.probeLevel = k →
      exec (.probe h body) s = .next (answer (countRx h.port s))) ∧
    (comes → c.st = .armed → c.probeLevel < k →
      exec (.probe h body) s = .next (endTake (answer (pumpProbe n ((countRx h.port s).setCtx n (some { c with
        probeLevel := k, work := wanted })))))) ∧
    (¬comes ∨ (c.st ≠ .reserved ∧ c.st ≠ .probing ∧ c.st ≠ .armed) →
      exec (.probe h body) s = .next (stray (countRx h.port s)))

/-- A PROBE-ACK from the downstream port at the record's level, its verify flag set exactly for class MAINT: a
validated PROBING transit is ARMED and relays it, an ARMED transit relays it, a PROBING head is ARMED, ends its
probe work and joins its ramp queue; at class MAINT a validated transit and the head close, and the head sends
LP_VERIFIED. Any other PROBE-ACK is stray.
That a relayed frame keeps source and tag is DEDUCED (log entry 10). -/
def Obligations.ProbeAckTaken : Prop :=
  ∀ (h : Hdr) (body : List Byte) (id k n : Nat) (v : Bool) (c : Context) (s : State), AtRest s → OnLink h s →
    parseProbeAck body = some (id, k, v) → findLp s id = some (n, c) → s.ctx n = some c →
    let fits : Prop := c.downPort = some h.port.val ∧ c.probeLevel = k ∧ (v = true ↔ c.cls = .maint)
    let relayed (t : State) : State := relay c.upPort .probeAck h body t
    let armed : Context :=
      { c with st := .armed, deadline := some (s.now + 1000 * (s.profile c.profile).armTimeout), watch := none }
    let ended : ProbeWork := if c.work.dithering = true then { c.work with stop := true } else { c.work with start := false }
    (fits → c.role = .transit → c.st = .probing → c.pilotValidated = true → c.cls ≠ .maint →
      exec (.probeAck h body) s = .next (relayed ((countRx h.port s).setCtx n (some armed)))) ∧
    (fits → c.role = .transit → c.st = .armed → c.cls ≠ .maint →
      exec (.probeAck h body) s = .next (relayed (countRx h.port s))) ∧
    (fits → c.role = .transit → c.st = .probing → c.pilotValidated = true → c.cls = .maint →
      exec (.probeAck h body) s = .next (endTake (relayed (closeMaint n c (countRx h.port s))))) ∧
    (fits → c.role = .head → c.st = .probing → c.cls ≠ .maint →
      exec (.probeAck h body) s = .next (endTake (joinRamp n c (pumpProbe n
        ((countRx h.port s).setCtx n (some { armed with probeTimer := none, work := ended })))))) ∧
    (fits → c.role = .head → c.st = .probing → c.cls = .maint →
      exec (.probeAck h body) s = .next
        (endTake (tellEvent n (e8 5 ++ e32 c.lpId) (closeMaint n c (countRx h.port s))))) ∧
    (¬fits ∨ c.role = .tail ∨ (c.st ≠ .probing ∧ c.st ≠ .armed) ∨ (c.role = .head ∧ c.st = .armed) ∨
        (c.role = .transit ∧ c.st = .probing ∧ c.pilotValidated = false) ∨ (c.cls = .maint ∧ c.st = .armed) →
      exec (.probeAck h body) s = .next (stray (countRx h.port s)))

/-- A PROBE-NAK from the downstream port of a PROBING record: a transit relays it unchanged whatever its level; at
the record's own level the head steps its ladder, or past level 3 faults with PROBE_UNSEEN; any other is stray.
An expiry of the head's probe dwell steps the ladder likewise; an expiry of a transit's or tail's probe window
sends PROBE-NAK upstream and is not restarted; an expiry that is not due, or of another instance, does nothing.
That a relayed frame keeps source and tag is DEDUCED (log entry 10). -/
def Obligations.ProbeNakAndProbeTimers : Prop :=
  ∀ (n : Nat) (c : Context) (s : State), AtRest s → s.ctx n = some c →
    let stepped (t : State) : State :=
      sendOn c.downPort .probe (e32 c.lpId ++ e8 (c.probeLevel + 1))
        (pumpProbe n (t.setCtx n (some { c with
          probeLevel := c.probeLevel + 1, probeTimer := some (s.now + (s.profile c.profile).probeDwell),
          work := if c.work.lastLevel = some (c.probeLevel + 1) then c.work
            else { c.work with lastLevel := some (c.probeLevel + 1), level := some (c.probeLevel + 1) } })))
    (∀ (h : Hdr) (body : List Byte) (id k node : Nat), OnLink h s → parseProbeNak body = some (id, k, node) →
      findLp s id = some (n, c) →
      let fits : Prop := c.downPort = some h.port.val ∧ c.st = .probing
      (fits → c.role = .transit →
        exec (.probeNak h body) s = .next (relay c.upPort .probeNak h body (countRx h.port s))) ∧
      (fits → c.role = .head → c.probeLevel = k → k < 3 →
        exec (.probeNak h body) s = .next (endTake (stepped (countRx h.port s)))) ∧
      (fits → c.role = .head → c.probeLevel = k → k = 3 →
        exec (.probeNak h body) s = .next (endTake (localFault n c .probeUnseen (countRx h.port s)))) ∧
      (¬fits ∨ c.role = .tail ∨ (c.role = .head ∧ c.probeLevel ≠ k) →
        exec (.probeNak h body) s = .next (stray (countRx h.port s)))) ∧
    ∀ (i : Fin 256) (inst : Nat), i.val = n →
      let dwellDue : Prop :=
        c.inst = inst ∧ c.st = .probing ∧ c.role = .head ∧ ∃ t, c.probeTimer = some t ∧ t ≤ s.now
      let windowDue : Prop :=
        c.inst = inst ∧ c.st = .probing ∧ c.role ≠ .head ∧ c.pilotValidated = false ∧
          ∃ t, c.probeTimer = some t ∧ t ≤ s.now
      (dwellDue → c.probeLevel < 3 → exec (.probeDwellExpiry i inst) s = .next (endTake (stepped s))) ∧
      (dwellDue → 3 ≤ c.probeLevel →
        exec (.probeDwellExpiry i inst) s = .next (endTake (localFault n c .probeUnseen s))) ∧
      (¬dwellDue → exec (.probeDwellExpiry i inst) s = .next s) ∧
      (windowDue → ∀ u, c.upPort = some u →
        exec (.probeWindowExpiry i inst) s = .next
          (sendAdjacent u .probeNak (e32 c.lpId ++ e8 c.probeLevel ++ e16 s.switch.nodeId)
            (s.setCtx n (some { c with probeTimer := none })))) ∧
      (¬windowDue → exec (.probeWindowExpiry i inst) s = .next s)

/-- Probe element work goes one request at a time: nothing is asked while one is outstanding; otherwise a waiting
level setting goes first, then a DITHER-START, from which the head is dithering, then a DITHER-STOP, from which it
is not.
The close of a MAINT record that is in no ramp queue frees it with its span and keeps its blocking work: with
nothing outstanding and no dither a SET-BLOCK is asked at once; a dithering head's DITHER-STOP is asked first; a
request still outstanding is waited for. -/
def Obligations.ProbeAndClosingWorkAsked : Prop :=
  (∀ (n : Nat) (c : Context) (e : Nat) (s : State), s.ctx n = some c →
     Placeable .ramp (s.faceSet c.egress).wss e s →
     (c.work.outstanding = true → pumpProbe n s = s) ∧
     (c.work.outstanding = false → ∀ k, c.work.level = some k →
       pumpProbe n s = place .ramp e (.setAtten ((s.profile c.profile).ladder k)) false c.first c.count
         (.ctx n c.inst (.level ((s.profile c.profile).ladder k)))
         (s.setCtx n (some { c with work := { c.work with outstanding := true, level := none } }))) ∧
     (c.work.outstanding = false → c.work.level = none → c.work.start = true →
       pumpProbe n s = place .ramp e (.ditherStart c.pilot) false c.first c.count (.ctx n c.inst .ditherStart)
         (s.setCtx n (some { c with work := { c.work with outstanding := true, start := false, dithering := true } }))) ∧
     (c.work.outstanding = false → c.work.level = none → c.work.start = false → c.work.stop = true →
       pumpProbe n s = place .ramp e .ditherStop false c.first c.count (.ctx n c.inst .ditherStop)
         (s.setCtx n (some { c with work := { c.work with outstanding := true, stop := false, dithering := false } }))) ∧
     (c.work.outstanding = false → c.work.level = none → c.work.start = false → c.work.stop = false →
       pumpProbe n s = s)) ∧
  (∀ (n : Nat) (c : Context) (e : Nat) (s : State), s.ctx n = some c → OffRamp n c s → c.st = .probing →
     Placeable .ramp (s.faceSet c.egress).wss e s → (∀ x ∈ s.table.closings, ¬(x.handle = n ∧ x.inst = c.inst)) →
     let freed (out stop block : Bool) : State :=
       let t := freeSpan n c.ingress c.egress c.first c.count s
       ({ t with table := { t.table with closings :=
         s.table.closings ++ [⟨n, c.inst, c.egress, c.first, c.count, out, stop, block⟩] } } : State).setCtx n none
     (c.work.outstanding = false → c.work.dithering = false →
       closeMaint n c s = place .ramp e .setBlock false c.first c.count (.ctx n c.inst .closing)
         (freed true false false)) ∧
     (c.work.outstanding = false → c.work.dithering = true →
       closeMaint n c s = place .ramp e .ditherStop false c.first c.count (.ctx n c.inst .closing)
         (freed true false true)) ∧
     (c.work.outstanding = true → closeMaint n c s = freed true c.work.dithering true))

/-! ## The ramp (chapter 5) -/

/-- A ramp queue in which every RESTORE entry stands ahead keeps that order when an entry joins: a RESTORE entry
stands behind the last RESTORE entry, any other at the end, and a handle already queued changes nothing.
The holder of a face's turn that gives it up frees the turn, drops its dwell and a GET held back, and clears the
step in progress; a pending audit then begins on the records IN_SERVICE there at that moment, its first entry to be
measured before the next grant is judged. A queued context leaves the queue, the order of the others kept, and the
grant is judged; any other context changes nothing.
Law 4: the holder of a turn is a RAMPING or WITHDRAWING context of the face that is not queued there, queue entries
name ARMED or WITHDRAWING contexts of the face, none twice, and every RAMPING context holds its turn.
That the audit's first entry is measured before the grant is judged is DEDUCED (log entry 2). -/
def Obligations.RampQueuePlacesKept : Prop :=
  (∀ (ahead behind : List QEntry) (e : QEntry),
     (∀ x ∈ ahead, x.cls = .restore) → (∀ x ∈ behind, x.cls ≠ .restore) →
     ((∃ x ∈ ahead ++ behind, x.handle = e.handle) → joinQueue (ahead ++ behind) e = ahead ++ behind) ∧
     ((∀ x ∈ ahead ++ behind, x.handle ≠ e.handle) →
       joinQueue (ahead ++ behind) e =
         if e.cls = .restore then ahead ++ e :: behind else ahead ++ (behind ++ [e]))) ∧
  (∀ (n : Nat) (c : Context) (s : State), s.ctx n = some c →
     ((s.rampFace c.egress).turn = some (n, c.inst) →
       let freed : State :=
         (s.modRamp c.egress fun r => { r with turn := none, heldGet := false, inStep := false }).setCtx n
           (some { c with rampDwell := none })
       ((s.rampFace c.egress).inStep = true → (s.auditFace c.egress).pending = true →
         leaveRamp n c s =
           (freed.modAudit c.egress fun a =>
             { a with pending := false, running := true, list := auditList s c.egress, pos := 0 }).push
               [.measure c.egress, .judgeGrant c.egress]) ∧
       (¬((s.rampFace c.egress).inStep = true ∧ (s.auditFace c.egress).pending = true) →
         leaveRamp n c s = freed.push [.judgeGrant c.egress])) ∧
     (∀ ahead behind cls, (s.rampFace c.egress).turn ≠ some (n, c.inst) →
       (s.rampFace c.egress).queue = ahead ++ ⟨n, c.inst, cls⟩ :: behind →
       (∀ x ∈ ahead ++ behind, x.handle ≠ n) →
       leaveRamp n c s =
         (s.modRamp c.egress fun r => { r with queue := ahead ++ behind }).push [.judgeGrant c.egress]) ∧
     (OffRamp n c s → leaveRamp n c s = s)) ∧
  (∀ s t : State, Law4 s → step s = .next t → Law4 t)

/-- The grant of a free turn to the entry at the head of the queue, whose probe work is empty: the entry leaves the
queue and holds the turn, its target is computed afresh from the face's settings, and an ARMED context becomes
RAMPING with no deadline and begins a closed-loop step, a WITHDRAWING one a withdrawal step. With the turn held,
the queue empty or the head entry's probe work not empty nothing is granted. -/
def Obligations.TurnGrantedToQueueHead : Prop :=
  ∀ (f : Nat) (s : State),
    (((s.rampFace f).turn ≠ none ∨ (s.rampFace f).queue = []) → judgeGrant f s = s) ∧
    ∀ (e : QEntry) (rest : List QEntry) (c : Context), (s.rampFace f).turn = none →
      (s.rampFace f).queue = e :: rest → s.ctx e.handle = some c → c.inst = e.inst → c.egress = f →
      let empty : Prop :=
        c.work.outstanding = false ∧ c.work.level = none ∧ c.work.start = false ∧ c.work.stop = false
      let target := clampInt (-4000) 1500 ((s.faceSet f).density + Config.density c.count + c.trim)
      let held (x : Context) : State :=
        (s.modRamp f fun r => { r with queue := rest, turn := some (e.handle, e.inst) }).setCtx e.handle (some x)
      let ramping : Context :=
        { c with target := target, rampHeld := false, st := .ramping, deadline := none, watch := none }
      (¬empty → judgeGrant f s = s) ∧
      (empty → c.st = .armed → judgeGrant f s = startStep e.handle c (held ramping)) ∧
      (empty → c.st = .withdrawing →
        judgeGrant f s = withdrawStep e.handle c (held { c with target := target, rampHeld := false }))

/-- A ramp dwell expiry of the turn's holder. RAMPING: the span is walked and marked; under a set span guard the
step is held and the dwell starts again; else the GET is held back while the face's audit runs, or handed to the
bus with the step in progress. WITHDRAWING: SET-BLOCK at BLOCKED or 2500, else a SET-ATTEN higher by the withdraw
step, at most 2500. Any other expiry does nothing. -/
def Obligations.RampDwellExpiryStepsRamp : Prop :=
  ∀ (i : Fin 256) (inst e : Nat) (c : Context) (s : State), AtRest s → s.ctx i = some c →
    let due : Prop :=
      c.inst = inst ∧ (∃ t, c.rampDwell = some t ∧ t ≤ s.now) ∧ (s.rampFace c.egress).turn = some (i.val, inst)
    let walked : State := setMarks (allMarks (spanWalks s c.egress c.first c.count)) s
    let guarded : Prop :=
      ∃ w ∈ spanWalks s c.egress c.first c.count, w.1 = .faceAbsent ∨ w.1 = .blockAbsent ∨ ∃ k m, w.1 = .found k true m
    (due → c.st = .ramping → guarded → (s.rampFace c.egress).inStep = false →
      exec (.stepDwellExpiry i inst) s = .next (walked.setCtx i (some { c with
        guardHeld := true, rampHeld := true, rampDwell := some (s.now + (s.profile c.profile).stepDwell) }))) ∧
    (due → c.st = .ramping → ¬guarded → (s.auditFace c.egress).running = true →
      exec (.stepDwellExpiry i inst) s = .next
        ((walked.setCtx i (some { c with guardHeld := false, rampDwell := none })).modRamp c.egress fun r =>
          { r with heldGet := true })) ∧
    (due → c.st = .ramping → ¬guarded → (s.auditFace c.egress).running = false →
      Placeable .ramp (s.faceSet c.egress).monitor e s →
      exec (.stepDwellExpiry i inst) s = .next (arbitrate
        (place .ramp e .getPower false c.first c.count (.ctx i inst .rampGet)
          ((walked.setCtx i (some { c with guardHeld := false, rampDwell := none })).modRamp c.egress fun r =>
            { r with inStep := true })))) ∧
    (due → c.st = .withdrawing → (c.atten = .blocked ∨ c.atten = .db 2500) →
      Placeable .ramp (s.faceSet c.egress).wss e s →
      exec (.stepDwellExpiry i inst) s = .next (arbitrate
        (place .ramp e .setBlock false c.first c.count (.ctx i inst .withdrawBlock)
          (s.setCtx i (some { c with rampDwell := none }))))) ∧
    (due → c.st = .withdrawing → ∀ a, c.atten = .db a → a ≠ 2500 →
      Placeable .ramp (s.faceSet c.egress).wss e s →
      let b := min (a + (s.profile c.profile).withdrawStep) 2500
      exec (.stepDwellExpiry i inst) s = .next (arbitrate
        (place .ramp e (.setAtten b) false c.first c.count (.ctx i inst (.withdrawSet b))
          (s.setCtx i (some { c with rampDwell := none }))))) ∧
    (¬due ∨ (c.st ≠ .ramping ∧ c.st ≠ .withdrawing) → exec (.stepDwellExpiry i inst) s = .next s)

/-- The result of a ramp step's GET at a RAMPING context: failed, a fault with ELEMENT; else the reading, clamped
to −6000..2000 with below floor as −6000, is kept and counted, and judged: above the ceiling power OVERPOWER;
within the deadband settling, STEP_EXHAUSTED or the dwell; outside it STEP_EXHAUSTED, SHORTFALL, EXCESS, or a
setting moved by the gain's share of the error, rounded up and held to the step limit. -/
def Obligations.RampReadingJudged : Prop :=
  ∀ (n e : Nat) (c : Context) (r : Result) (s : State), s.ctx n = some c → c.st = .ramping →
    let pr := s.profile c.profile
    let taken : State := doWork (.result (.ctx n c.inst .rampGet) r) s
    (r = .failed → taken = localFault n c .element s) ∧
    ∀ p : Int, ((r = .belowFloor ∧ p = -6000) ∨ ∃ q, r = .power q ∧ p = max (-6000) (min q 2000)) →
      let err := c.target - p
      let att := c.atten.asNumber
      let used := c.readingsUsed + 1
      let read (run : Nat) : Context := { c with lastReading := some p, readingsUsed := used, settledRun := run }
      let faulted (run : Nat) (cause : Cause) : State := localFault n (read run) cause (s.setCtx n (some (read run)))
      let inBand : Prop := err.natAbs ≤ pr.deadband
      let limit :=
        if 0 < (s.face c.egress).live then
          min (min pr.sMax s.resp.overlay.stepCeiling) (s.faceSet c.egress).transient
        else min pr.sMax s.resp.overlay.stepCeiling
      let delta := min ((err.natAbs * pr.gain + 7) / 8) limit
      let target := if 0 < err then att - delta else min (att + delta) 2500
      let ceiling := (s.faceSet c.egress).ceilingPower
      (ceiling < p → taken = faulted c.settledRun .overpower) ∧
      (p ≤ ceiling → inBand → pr.settleCount ≤ c.settledRun + 1 →
        taken = settle n (read (c.settledRun + 1)) (s.setCtx n (some (read (c.settledRun + 1))))) ∧
      (p ≤ ceiling → inBand → c.settledRun + 1 < pr.settleCount → pr.maxSteps ≤ used →
        taken = faulted (c.settledRun + 1) .stepExhausted) ∧
      (p ≤ ceiling → inBand → c.settledRun + 1 < pr.settleCount → used < pr.maxSteps →
        taken = startDwell n (read (c.settledRun + 1)) (s.setCtx n (some (read (c.settledRun + 1))))) ∧
      (p ≤ ceiling → ¬inBand → pr.maxSteps ≤ used → taken = faulted 0 .stepExhausted) ∧
      (p ≤ ceiling → ¬inBand → used < pr.maxSteps → 0 < err → att = 0 → taken = faulted 0 .shortfall) ∧
      (p ≤ ceiling → ¬inBand → used < pr.maxSteps → err < 0 → att = 2500 → taken = faulted 0 .excess) ∧
      (p ≤ ceiling → ¬inBand → used < pr.maxSteps → ¬(0 < err ∧ att = 0) → ¬(err < 0 ∧ att = 2500) →
        Placeable .ramp (s.faceSet c.egress).wss e s →
        taken = place .ramp e (.setAtten target) false c.first c.count (.ctx n c.inst (.rampSet target))
          (s.setCtx n (some (read 0))))

/-- A ramp setting changes the attenuation by at least 1 and at most the step limit, towards the target, and stays
within 0 to 2500.
Laws 5 and 6, with the ranges of R27 and R90 they rest on: every context's attenuation is BLOCKED or 0 to 2500, its
target, last reading, settled run and probe level are within their ranges, and in every state but IN_SERVICE and
WITHDRAWING it has used at most its profile's max steps of readings; every setting on the element bus is an
attenuation. -/
def Obligations.RampStepBoundedTowardsTarget : Prop :=
  (∀ (err : Int) (att gain sMax ceiling live transient : Nat), err ≠ 0 → 1 ≤ gain → 1 ≤ sMax → 1 ≤ ceiling →
     1 ≤ transient → att ≤ 2500 → ¬(0 < err ∧ att = 0) → ¬(err < 0 ∧ att = 2500) →
     let limit := stepLimit sMax ceiling live transient
     let new := stepAtten err att (stepChange err gain limit)
     new ≤ 2500 ∧ limit ≤ sMax ∧ limit ≤ ceiling ∧ (0 < live → limit ≤ transient) ∧
       (0 < err → new < att ∧ att ≤ new + limit) ∧ (err < 0 → att < new ∧ new ≤ att + limit)) ∧
  (∀ s t : State, ProgressLaws s → step s = .next t → ProgressLaws t)

/-- ADVANCE at an ARMED transit or tail with no carried reports and as many reports as its hop index: the reports
are kept and the context joins its egress face's ramp queue. READY at a SETTLED record with as many reports as its
hop count: IN_SERVICE; a transit relays it upstream, the head keeps the reports and sends LP_READY. Any other is
stray.
A context that settles is SETTLED under the ready timeout, its span joins the live slot count and its turn is
given up. The head sends ADVANCE with its own hop report, a transit ADVANCE with the carried reports and its own,
and a tail READY with the whole list, passing to IN_SERVICE.
That a relayed READY keeps source and tag is DEDUCED (log entry 10), and so is the place of the Controller's part
among what a settling brings: after a pending audit has taken its list, before its first entry and the grant (log
entry 2). -/
def Obligations.ReportsCarriedToService : Prop :=
  (∀ (h : Hdr) (body : List Byte) (id n : Nat) (l : List HopReport) (c : Context) (s : State), AtRest s →
     OnLink h s → parseReports body = some (id, l) → findLp s id = some (n, c) → s.ctx n = some c →
     let advances : Prop :=
       c.role ≠ .head ∧ c.upPort = some h.port.val ∧ c.st = .armed ∧ c.carried = none ∧ l.length = c.hopIndex
     let readies : Prop := c.downPort = some h.port.val ∧ c.st = .settled ∧ l.length = c.hopCount
     let serving : Context := { c with st := .inService, deadline := none, watch := none }
     (advances →
       exec (.advance h body) s = .next (endTake
         ((((countRx h.port s).setCtx n (some { c with carried := some l })).modRamp c.egress fun r =>
           { r with queue := joinQueue r.queue ⟨n, c.inst, c.cls⟩ }).push [.judgeGrant c.egress]))) ∧
     (¬advances → exec (.advance h body) s = .next (stray (countRx h.port s))) ∧
     (readies → c.role = .transit →
       exec (.ready h body) s = .next
         (relay c.upPort .ready h body ((countRx h.port s).setCtx n (some serving)))) ∧
     (readies → c.role = .head →
       exec (.ready h body) s = .next (event (e8 1 ++ e32 c.lpId ++ e8 c.hopCount)
         ((countRx h.port s).setCtx n (some { serving with hopReports := some l })))) ∧
     (¬readies ∨ c.role = .tail → exec (.ready h body) s = .next (stray (countRx h.port s)))) ∧
  (∀ (n : Nat) (c : Context) (s : State), s.ctx n = some c → c.st = .ramping →
     let report : List Byte :=
       e16 s.switch.nodeId ++ e16 c.atten.code ++ s16 (c.lastReading.getD (-32768)) ++ e8 c.readingsUsed ++
         eBool c.rampHeld
     let settled : Context :=
       { c with st := .settled, deadline := some (s.now + 1000 * (s.profile c.profile).readyTimeout), watch := none }
     let left : State := leaveRamp n c (raiseLive c.egress c.count (s.setCtx n (some settled)))
     (c.role = .head → c.cls ≠ .maint → ∀ d, c.downPort = some d →
       settle n c s = sendAdjacent d .advance (e32 c.lpId ++ e8 1 ++ report) left) ∧
     (c.role = .transit → ∀ d l, c.downPort = some d → c.carried = some l →
       settle n c s = sendAdjacent d .advance (e32 c.lpId ++ e8 (l.length + 1) ++ encodeReports l ++ report)
         (left.modCtx n fun x => { x with carried := none })) ∧
     (c.role = .tail → ∀ u l, c.upPort = some u → c.carried = some l →
       settle n c s = sendAdjacent u .ready (e32 c.lpId ++ e8 (l.length + 1) ++ encodeReports l ++ report)
         (left.modCtx n fun x => { x with carried := none, st := .inService, deadline := none })))

/-! ## Faults, withdrawal, teardown (chapter 6) -/

/-- The entry of a RESERVED to SETTLED record into FAULTED: it gives up the turn or queue place it has, its timers,
waiting probe work, carried reports and ramp-held note are dropped, the fault hold is its deadline, the fault record
is filled with block-unconfirmed clear, a SETTLED span leaves the live count, the safety block is asked (with a
DITHER-STOP before it for a dithering head), or its failure handed back in the take where it cannot be placed, FAULT
frames leave through the ports named, and a head tells LP_FAULT.
The events that contexts tell in one take are handed over by increasing handle, those of one handle as told.
When the events told are handed over is DEDUCED (log entry 19). -/
def Obligations.FaultEntryDarkensContext : Prop :=
  (∀ (n : Nat) (c : Context) (cause : Cause) (origin : Nat) (from_ : Direction) (up down : Bool) (s : State),
     s.ctx n = some c → c.st.faultable = true →
     let faulted : Context :=
       { c with
           st := .faulted, watch := none, probeTimer := none, carried := none, rampHeld := false,
           rampDwell := if (s.rampFace c.egress).turn = some (n, c.inst) then none else c.rampDwell,
           work := { c.work with level := none, start := false, stop := false, dithering := false },
           deadline := if (s.profile c.profile).faultHold = 0 then none
             else some (s.now + 1000 * (s.profile c.profile).faultHold),
           faultRec := some ⟨cause, origin, from_, false⟩ }
     let left : State := leaveRamp n c s
     let entered : State :=
       (if c.st = .settled then lowerLive c.egress c.count left else left).setCtx n (some faulted)
     let body (travel : Direction) : List Byte := e32 c.lpId ++ e8 cause.code ++ e16 origin ++ e8 travel.code
     let sentUp (t : State) : State := if up = true then sendOn c.upPort .fault (body .upstream) t else t
     let sentDown (t : State) : State := if down = true then sendOn c.downPort .fault (body .downstream) t else t
     let reported (t : State) : State :=
       if c.role = .head then tellEvent n (e8 3 ++ e32 c.lpId ++ e8 cause.code ++ e16 origin) t else t
     (∀ e, Placeable .safety (s.faceSet c.egress).wss e s →
       enterFaulted n c cause origin from_ up down s =
         reported (sentDown (sentUp (place .safety e .setBlock c.work.dithering c.first c.count
           (.ctx n c.inst .safety) entered)))) ∧
     ((∀ e, ¬Placeable .safety (s.faceSet c.egress).wss e s) →
       enterFaulted n c cause origin from_ up down s =
         reported (sentDown (sentUp (entered.push [.result (.ctx n c.inst .safety) .failed]))))) ∧
  ((∀ (h : Nat) (b : List Byte) (ahead behind : List Told) (s : State),
     s.told = ahead ++ behind → (∀ x ∈ ahead, x.handle ≤ h) → (∀ x ∈ behind, h < x.handle) →
     tellEvent h b s = { s with told := ahead ++ ⟨h, b⟩ :: behind }) ∧
   (∀ s : State, sendTold s = s.told.foldl (fun t x => event x.body t) { s with told := [] }))

/-- A FAULT for a record. In RESERVED to SETTLED one that fits (travelling DOWNSTREAM from the upstream port or
UPSTREAM from the downstream port) is entered with the cause and origin it carries and passed on through the far
port; one travelling UPSTREAM that fits a WITHDRAWING head ends its withdrawal; every other is discarded and
counted. -/
def Obligations.FaultFrameTaken : Prop :=
  ∀ (h : Hdr) (body : List Byte) (id origin n : Nat) (cause : Cause) (travel : Direction) (c : Context) (s : State),
    AtRest s → OnLink h s → parseFault body = some (id, cause, origin, travel) → findLp s id = some (n, c) →
    let down : Prop := travel = .downstream ∧ c.upPort = some h.port.val
    let up : Prop := travel = .upstream ∧ c.downPort = some h.port.val
    (c.st.faultable = true → down →
      exec (.fault h body) s = .next (endTake (countReceivedFault
        (enterFaulted n c cause origin .upstream false true (countRx h.port s))))) ∧
    (c.st.faultable = true → up →
      exec (.fault h body) s = .next (endTake (countReceivedFault
        (enterFaulted n c cause origin .downstream true false (countRx h.port s))))) ∧
    (c.st = .withdrawing → up →
      exec (.fault h body) s = .next (endTake (countReceivedFault (freeRecord n c
        (sendOn c.downPort .teardown (TeardownBody.encode ⟨c.lpId, 1, c.hopList.getD []⟩)
          (askWss .safety .setBlock false .safety n c (countRx h.port s))))))) ∧
    (¬(c.st.faultable = true ∧ (down ∨ up)) → ¬(c.st = .withdrawing ∧ up) →
      exec (.fault h body) s = .next (countDiscardedFault (countRx h.port s)))

/-- A due deadline faults a RESERVED or PROBING record with SETUP_TIMEOUT, an ARMED one with ARM_TIMEOUT and a
SETTLED one with READY_TIMEOUT, sending FAULT both ways and counting a local fault; a FAULTED record that is in no
ramp queue is freed with its span. An expiry that is not due, or of another instance, does nothing. -/
def Obligations.DeadlineExpiryByState : Prop :=
  ∀ (i : Fin 256) (inst : Nat) (c : Context) (s : State), AtRest s → s.ctx i = some c →
    let due : Prop := c.inst = inst ∧ ∃ t, c.deadline = some t ∧ t ≤ s.now
    let fault (cause : Cause) : State :=
      endTake (countLocalFault (enterFaulted i c cause s.switch.nodeId .here true true s))
    (due → (c.st = .reserved ∨ c.st = .probing) →
      exec (.deadlineExpiry i inst) s = .next (fault .setupTimeout)) ∧
    (due → c.st = .armed → exec (.deadlineExpiry i inst) s = .next (fault .armTimeout)) ∧
    (due → c.st = .settled → exec (.deadlineExpiry i inst) s = .next (fault .readyTimeout)) ∧
    (due → c.st = .faulted → OffRamp i c s →
      exec (.deadlineExpiry i inst) s = .next ((freeSpan i c.ingress c.egress c.first c.count s).setCtx i none)) ∧
    (¬due → exec (.deadlineExpiry i inst) s = .next s)

/-- TEARDOWN: an entry that does not name this node, and a HEAD record, make it stray. A TRANSIT or TAIL record is
blocked through the SAFETY class and freed; whether or not a record was found, a transit position sends the frame
on with the cursor one higher through the entry's egress face, or counts it stray when that is no line face, and
the tail position sends LP_WITHDRAWN.
That a relayed frame keeps source and tag, and the order of its frames, are DEDUCED (log entries 10 and 19). -/
def Obligations.TeardownTaken : Prop :=
  ∀ (h : Hdr) (body : List Byte) (b : TeardownBody) (x : Hop) (s : State), AtRest s → OnLink h s →
    TeardownBody.parse body = some b → b.hops[b.cursor]? = some x →
    let passed (t : State) : State :=
      if b.cursor + 1 < b.hops.length then
        if x.egress ≤ 7 then
          handFrame x.egress
            { kind := .teardown, dst := 65535, src := h.src.toNat, hop := 1, tag := h.tag,
              body := TeardownBody.encode { b with cursor := b.cursor + 1 } } t
        else stray t
      else event (e8 4 ++ e32 b.id) t
    let freed (n : Nat) (c : Context) (e : Nat) : State :=
      freeSpan n c.ingress c.egress c.first c.count
        (place .safety e .setBlock false c.first c.count (.ctx n c.inst .safety) (countRx h.port s))
    (x.node ≠ s.switch.nodeId → exec (.teardown h body) s = .next (stray (countRx h.port s))) ∧
    (x.node = s.switch.nodeId → findLp s b.id = none →
      exec (.teardown h body) s = .next (passed (countRx h.port s))) ∧
    ∀ n c, x.node = s.switch.nodeId → findLp s b.id = some (n, c) →
      (c.role = .head → exec (.teardown h body) s = .next (stray (countRx h.port s))) ∧
      (c.role ≠ .head → OffRamp n c s → ∀ e, Placeable .safety (s.faceSet c.egress).wss e s →
        exec (.teardown h body) s = .next (arbitrate (passed
          ((if c.st = .settled ∨ c.st = .inService then lowerLive c.egress c.count (freed n c e)
            else freed n c e).setCtx n none))))

/-- WITHDRAW: NOT_FOUND without a record, NOT_ALLOWED at a record that is no head, BUSY at an IN_SERVICE head when
16 contexts are active. An IN_SERVICE head becomes WITHDRAWING, loses its drift record, leaves the live count and
joins its ramp queue; a WITHDRAWING one is answered OK with nothing changed; any other head is blocked through
the SAFETY class, sends TEARDOWN and is freed.
The place of the response among the frames is DEDUCED (log entry 19). -/
def Obligations.WithdrawByState : Prop :=
  ∀ (h : Hdr) (params : List Byte) (id : Nat) (s : State), AtRest s → ForNode h s →
    parseWithdraw params = some id →
    (findLp s id = none →
      exec (.withdraw h params) s = .next (respond h 0x11 .notFound [] (countRx h.port s))) ∧
    ∀ n c, findLp s id = some (n, c) → s.ctx n = some c →
      (c.role ≠ .head → exec (.withdraw h params) s = .next (respond h 0x11 .notAllowed [] (countRx h.port s))) ∧
      (c.role = .head → c.st = .inService → 16 ≤ activeCount s →
        exec (.withdraw h params) s = .next (respond h 0x11 .busy [] (countRx h.port s))) ∧
      (c.role = .head → c.st = .inService → activeCount s < 16 →
        exec (.withdraw h params) s = .next (endTake (respond h 0x11 .ok []
          (((lowerLive c.egress c.count ((countRx h.port s).setCtx n (some { c with
            st := .withdrawing, deadline := none, watch := none, drift := none }))).modRamp c.egress fun r =>
              { r with queue := joinQueue r.queue ⟨n, c.inst, c.cls⟩ }).push [.judgeGrant c.egress])))) ∧
      (c.role = .head → c.st = .withdrawing →
        exec (.withdraw h params) s = .next (respond h 0x11 .ok [] (countRx h.port s))) ∧
      (c.role = .head → c.st ≠ .inService → c.st ≠ .withdrawing →
        exec (.withdraw h params) s = .next (endTake (respond h 0x11 .ok [] (freeRecord n c
          (sendOn c.downPort .teardown (TeardownBody.encode ⟨c.lpId, 1, c.hopList.getD []⟩)
            (askWss .safety .setBlock c.work.dithering .safety n c (countRx h.port s)))))))

/-! ## The audit (chapter 7) -/

/-- A due audit timer restarts for one further interval. A face already pending or running counts an overrun; a
face with a step in progress becomes pending; else the pass begins on the IN_SERVICE records egressing there, in
handle order, asking the first one's GET, or ends at once when there is none. A timer that is not due does
nothing.
An audit reading, clamped as a ramp reading, is written with its drift from the target; the drift flag is set
exactly when the drift is larger than the tolerance, a DRIFT event is sent exactly when the flag changes; and the
record is trimmed by 50 towards its target when the face and the overlay allow it, the flag is set, the
attenuation is a number that would change and no guard stands on the span. A failed reading leaves the record as
it was.
A trim's success records the attenuation and marks the slots, and its failure changes nothing; a result that finds no
record, another instance or another state than IN_SERVICE is discarded; each finishes the entry.
The entry at the position is measured while its record holds the instance and is IN_SERVICE, else skipped; past the
last one the pass ends: the running indication is cleared, the list dropped, and a GET that the holder of the turn
held back is handed to the bus with the step in progress.
That the GET held back is handed over in the order given is DEDUCED (log entry 2). -/
def Obligations.AuditTimerAndReadingsJudged : Prop :=
  (∀ (f : Fin 12) (e : Nat) (s : State), AtRest s →
     let due : Prop := ∃ t, (s.auditFace f).timer = some t ∧ t ≤ s.now
     let again : Option Nat := some (s.now + 1000 * (s.faceSet f).auditInterval)
     let free : Prop := (s.auditFace f).pending = false ∧ (s.auditFace f).running = false
     (¬due → exec (.auditTimerExpiry f) s = .next s) ∧
     (due → ¬free →
       exec (.auditTimerExpiry f) s = .next (s.modAudit f fun a =>
         { a with timer := again, overruns := bump a.overruns })) ∧
     (due → free → (s.rampFace f).inStep = true →
       exec (.auditTimerExpiry f) s = .next (s.modAudit f fun a => { a with timer := again, pending := true })) ∧
     (due → free → (s.rampFace f).inStep = false → (s.rampFace f).heldGet = false →
       (∀ n c, s.ctx n = some c → ¬(c.st = .inService ∧ c.egress = f.val)) → s.table.recs.wf →
       exec (.auditTimerExpiry f) s = .next (s.modAudit f fun a => { a with timer := again, list := [], pos := 0 })) ∧
     (∀ n c l, due → free → (s.rampFace f).inStep = false → auditList s f = (n, c.inst) :: l → s.ctx n = some c →
       c.st = .inService → c.egress = f.val → Placeable .audit (s.faceSet f).monitor e s →
       exec (.auditTimerExpiry f) s = .next (arbitrate
         (place .audit e .getPower false c.first c.count (.ctx n c.inst (.auditGet f))
           (s.modAudit f fun a =>
             { a with timer := again, pending := false, running := true, list := (n, c.inst) :: l, pos := 0 }))))) ∧
  (∀ (f n e a : Nat) (c : Context) (r : Result) (s : State), s.ctx n = some c → c.st = .inService → c.egress = f →
     50 ≤ (s.faceSet f).auditTol →
     let taken : State := doWork (.result (.ctx n c.inst (.auditGet f)) r) s
     let finished (t : State) : State := (t.modAudit f fun x => { x with pos := x.pos + 1 }).push [.measure f]
     (r = .failed → taken = finished s) ∧
     ∀ p : Int, ((r = .belowFloor ∧ p = -6000) ∨ ∃ q, r = .power q ∧ p = max (-6000) (min q 2000)) →
       let d := p - c.target
       let flag : Bool := decide ((s.faceSet f).auditTol < d.natAbs)
       let before : Bool := match c.drift with | some x => x.flag | none => false
       let written : State := s.setCtx n (some { c with drift := some ⟨p, d, flag⟩ })
       let told : State :=
         if flag = before then written else tellEvent n (e8 6 ++ e32 c.lpId ++ e8 f ++ s16 d ++ eBool flag) written
       let trims : Prop :=
         (s.faceSet f).autoTrim = true ∧ s.resp.overlay.autoTrim = true ∧ flag = true ∧
           ¬∃ w ∈ spanWalks s f c.first c.count, w.1 = .faceAbsent ∨ w.1 = .blockAbsent ∨ ∃ k m, w.1 = .found k true m
       let trimmed : Nat := if 0 < d then min (a + 50) 2500 else a - 50
       ((¬trims ∨ c.atten = .blocked) → taken = finished told) ∧
       (trims → c.atten = .db a → trimmed = a → taken = finished told) ∧
       (trims → c.atten = .db a → a ≤ 2500 → trimmed ≠ a → Placeable .audit (s.faceSet f).wss e s →
         taken = place .audit e (.setAtten trimmed) false c.first c.count (.ctx n c.inst (.auditSet f trimmed)) told)) ∧
  (∀ (f n a : Nat) (s : State),
     let finished (t : State) : State := (t.modAudit f fun x => { x with pos := x.pos + 1 }).push [.measure f]
     let result (i : Nat) (p : Purpose) (r : Result) : State := doWork (.result (.ctx n i p) r) s
     (∀ i r, (∀ c, s.ctx n = some c → ¬(c.inst = i ∧ c.st = .inService)) →
       result i (.auditSet f a) r = finished s ∧ result i (.auditGet f) r = finished s) ∧
     ∀ c, s.ctx n = some c → c.st = .inService →
       result c.inst (.auditSet f a) .failed = finished s ∧
       result c.inst (.auditSet f a) .done =
         finished (markModified n c.egress c.first c.count (s.setCtx n (some { c with atten := .db a })))) ∧
  (∀ (f e : Nat) (s : State),
     let x := s.auditFace f
     let r := s.rampFace f
     let measured : State := doWork (.measure f) s
     let ended : State := s.modAudit f fun x => { x with running := false, list := [], pos := 0 }
     (x.running = false → measured = s) ∧
     (x.running = true →
       (∀ h i, x.list[x.pos]? = some (h, i) →
         ((∀ c, s.ctx h = some c → ¬(c.inst = i ∧ c.st = .inService)) →
           measured = (s.modAudit f fun x => { x with pos := x.pos + 1 }).push [.measure f]) ∧
         ∀ c, s.ctx h = some c → c.inst = i → c.st = .inService → c.egress = f →
           (Placeable .audit (s.faceSet f).monitor e s →
             measured = place .audit e .getPower false c.first c.count (.ctx h i (.auditGet f)) s) ∧
           ((∀ e, ¬Placeable .audit (s.faceSet f).monitor e s) →
             measured = s.push [.result (.ctx h i (.auditGet f)) .failed])) ∧
       (x.list.length ≤ x.pos →
         (r.heldGet = false → measured = ended) ∧
         (r.heldGet = true → (∀ h c, r.turn = some (h, c.inst) → s.ctx h ≠ some c) →
           measured = ended.modRamp f fun r => { r with heldGet := false }) ∧
         ∀ h c, r.heldGet = true → r.turn = some (h, c.inst) → s.ctx h = some c → c.egress = f →
           Placeable .ramp (s.faceSet f).monitor e s →
           measured = place .ramp e .getPower false c.first c.count (.ctx h c.inst .rampGet)
             (ended.modRamp f fun r => { r with heldGet := false, inStep := true }))))

/-- On no face are a running audit and a step in progress at work together. -/
def Obligations.EveryStepKeepsAuditAndStepApart : Prop :=
  ∀ s t : State, AuditStepApart s → step s = .next t → AuditStepApart t

/-! ## The element bus (chapter 8) -/

/-- A request handed over fails at once, its failure handed back in the take, when the face names no element, the
element is FAILED or the class queue is full; otherwise it stands at the back of its class queue with the next
hand-over stamp, and nothing else changes.
The arbiter: with the bus taken, or no request eligible, nothing is chosen. With the bus free it takes the
oldest eligible SAFETY request and keeps the round-robin position; with none, the oldest eligible request of the
first class in the cycle RAMP, AUDIT, MGMT after the class last served, which becomes the position. A turnaround
stands before the request when the element changes, or when a setting follows a reading, and its interval is not
0; otherwise the response timeout runs at once.
That the request takes no time to reach its element, so that the response timeout runs from the choice, and the serial
of a transaction, are the model's (log entries 24 and 4). -/
def Obligations.RequestsQueuedAndChosen : Prop :=
  (∀ (cl : BusClass) (field : Option Nat) (t : Txn) (dither : Bool) (first count : Nat) (tag : Tag) (s : State),
     let capacity : Nat := match cl with | .safety => 16 | .ramp => 16 | .audit => 12 | .mgmt => 4
     ((field = none ∨ (∃ e, field = some e ∧ (s.elem e).health = .failed) ∨ capacity ≤ (s.bus.queue cl).length) →
       handOver cl field t dither first count tag s = s.push [.result tag .failed]) ∧
     ∀ e, field = some e → (s.elem e).health ≠ .failed → (s.bus.queue cl).length < capacity →
       let t' := handOver cl field t dither first count tag s
       t'.bus.queue cl = s.bus.queue cl ++ [⟨cl, s.bus.seq, e, t, dither, first, count, tag⟩] ∧
       (∀ k, k ≠ cl → t'.bus.queue k = s.bus.queue k) ∧ t'.bus.seq = s.bus.seq + 1 ∧
       t' = { s with bus := { s.bus with safetyQ := t'.bus.safetyQ, rampQ := t'.bus.rampQ, auditQ := t'.bus.auditQ,
                                         mgmtQ := t'.bus.mgmtQ, seq := t'.bus.seq } }) ∧
  (∀ s : State,
     let b := s.bus
     let eligibleIn (c : BusClass) : List Request :=
       (b.queue c).filter fun r => (b.elems.get r.elem).settleUntil.isNone &&
         b.queued.all fun q => !(q.stamp < r.stamp && q.elem == r.elem && spansMeet q.first q.count r.first r.count)
     let after : List BusClass :=
       match b.rr with
       | .ramp => [.audit, .mgmt, .ramp]
       | .audit => [.mgmt, .ramp, .audit]
       | .mgmt => [.ramp, .audit, .mgmt]
       | .safety => [.ramp, .audit, .mgmt]
     (b.onBus ≠ none → arbitrate s = s) ∧
     ((∀ c, eligibleIn c = []) → arbitrate s = s) ∧
     ∀ (c : BusClass) (r : Request) (l : List Request), b.onBus = none → eligibleIn c = r :: l → r.cls = c →
       (c = .safety ∨
         (eligibleIn .safety = [] ∧
           ∃ before behind, after = before ++ c :: behind ∧ ∀ k ∈ before, eligibleIn k = [])) →
       let setting : Bool := r.dither || r.txn != .getPower
       let turn : Bool := decide (0 < s.switch.settings.turnaround) &&
         (match b.last with
           | none => true
           | some (e, wasSetting) => e != r.elem || (setting && !wasSetting))
       let t := arbitrate s
       t.bus.rr = (if c = .safety then b.rr else c) ∧
       t.bus.queue c = (if r.dither = true then
           (b.queue c).map (fun x => if x.stamp = r.stamp then { x with dither := false } else x)
         else (b.queue c).filter fun x => x.stamp ≠ r.stamp) ∧
       (∀ k, k ≠ c → t.bus.queue k = b.queue k) ∧
       t.bus.onBus = some
         { req := r, txn := if r.dither = true then .ditherStop else r.txn, serial := b.serial,
           timeout := (b.elems.get r.elem).timeout,
           phase := if turn = true then .turnaround s.switch.settings.turnaround
             else .waiting (s.now + (b.elems.get r.elem).timeout),
           orphan := false } ∧
       t.bus.elems = b.elems ∧ t.bus.last = b.last ∧ t.bus.seq = b.seq ∧ t = { s with bus := t.bus })

/-- A settle period that is over ends and the arbiter judges; a turnaround's end sends the request and starts the
response timeout; an end of either that does not fit changes nothing.
An answer to the transaction that waits for one ends it with success for ACK (GET-POWER: ACK with a power or
below floor) and with failure otherwise; the response timeout, once reached, ends it with failure. The bus is
free, the note is written, a setting's settle period starts, the health follows the outcome, a failure is
counted, an element failing a second time is FAILED with its event and its queued requests handed back as
failures, and the outcome is handed to the requester (but not that of a two-transaction request's DITHER-STOP, and
not after NODE RESET); then the take runs to its end. An answer to another transaction, or early, or a timeout
before its time, changes nothing.
That the request takes no time to reach its element, so that the response timeout starts at the turnaround's end, is
the model's (log entry 24). The serial, the turnaround's end by a command and the order of the results handed back are
the model's (log entries 2, 3 and 4); that ELEMENT_FAILED is sent before the failures are handed back, and that a
success leaves a FAILED element FAILED, is DEDUCED (log entry 23). -/
def Obligations.BusPeriodsAndTransactionsEnd : Prop :=
  (∀ s : State,
     (∀ (e : Fin 32),
       ((∃ t, (s.elem e).settleUntil = some t ∧ t ≤ s.now) →
         exec (.settlePeriodEnd e) s = .next (arbitrate (s.modElem e fun x => { x with settleUntil := none }))) ∧
       (¬(∃ t, (s.elem e).settleUntil = some t ∧ t ≤ s.now) → exec (.settlePeriodEnd e) s = .next s)) ∧
     (∀ b us, s.bus.onBus = some b → b.phase = .turnaround us →
       exec .turnaroundEnd s = .next
         { s with bus := { s.bus with onBus := some { b with phase := .waiting (s.now + b.timeout) } } }) ∧
     ((∀ b us, s.bus.onBus = some b → b.phase ≠ .turnaround us) → exec .turnaroundEnd s = .next s)) ∧
  (∀ (s : State),
     let finish (b : OnBus) (r : Result) : State :=
       let e := b.req.elem
       let good : Bool := r != .failed
       let was := s.elem e
       let failing : Prop := good = false ∧ was.health = .suspect
       let back : List Work :=
         (if failing then
           (s.bus.queued.filter fun (q : Request) => q.elem = e).map fun (q : Request) => .result q.tag .failed
         else []) ++
         (if b.orphan = true ∨ b.req.dither = true then [] else [.result b.req.tag r])
       let keep (q : List Request) : List Request := if failing then q.filter fun x => x.elem ≠ e else q
       let told : State := if failing then event (e8 7 ++ e8 e) s else s
       { told with
           work := back ++ s.work,
           bus := { s.bus with
             onBus := none, last := some (e, b.txn != .getPower),
             safetyQ := keep s.bus.safetyQ, rampQ := keep s.bus.rampQ, auditQ := keep s.bus.auditQ,
             mgmtQ := keep s.bus.mgmtQ,
             elems := s.bus.elems.set e
               { was with
                   health := if good = true then (if was.health = .failed then .failed else .ok)
                     else if was.health = .ok then .suspect else .failed,
                   failures := if good = true then was.failures else bump was.failures,
                   settleUntil := if b.txn = .getPower then was.settleUntil
                     else if was.settle = 0 then none else some (s.now + was.settle) } } }
     (∀ (txn : Nat) (a : Answer),
       (∀ b t, s.bus.onBus = some b → b.phase = .waiting t → b.serial = txn →
         exec (.elementAnswer txn a) s = .next (endTake (finish b
           (match b.txn, a with
             | .getPower, .power p => .power p.toInt
             | .getPower, .belowFloor => .belowFloor
             | .getPower, _ => .failed
             | _, .ack => .done
             | _, _ => .failed)))) ∧
       ((∀ b t, s.bus.onBus = some b → b.phase = .waiting t → b.serial ≠ txn) →
         exec (.elementAnswer txn a) s = .next s)) ∧
     (∀ b t, s.bus.onBus = some b → b.phase = .waiting t → t ≤ s.now →
       exec .responseTimeout s = .next (endTake (finish b .failed))) ∧
     ((∀ b t, s.bus.onBus = some b → b.phase = .waiting t → s.now < t) → exec .responseTimeout s = .next s))

/-- The results of settings, applied while the record holds the instance and stands in the state that asked:
probe levels, ramp steps and withdrawal settings record the attenuation and mark the slots, a withdrawal's
SET-BLOCK ends it with TEARDOWN, a failure of any of these is a fault with ELEMENT; a safety block darkens a
FAULTED record or, failing, marks it block-unconfirmed. Anything else is discarded.
Marking the slots sets the modified flag of the entries of the span on the egress face that the handle owns under a
present block, and changes nothing else. -/
def Obligations.SettingResultsApplied : Prop :=
  (∀ (n a : Nat) (c : Context) (s : State), s.ctx n = some c →
     let result (i : Nat) (p : Purpose) (r : Result) : State := doWork (.result (.ctx n i p) r) s
     let marked (t : State) : State := markModified n c.egress c.first c.count t
     (∀ p, p ∈ [Purpose.rampSet a, .withdrawSet a, .withdrawBlock, .safety, .rampGet] → ∀ i r, i ≠ c.inst →
       result i p r = s) ∧
     (c.st ≠ .ramping → ∀ r, result c.inst (.rampSet a) r = s ∧ result c.inst .rampGet r = s) ∧
     (c.st ≠ .withdrawing → ∀ r, result c.inst (.withdrawSet a) r = s ∧ result c.inst .withdrawBlock r = s) ∧
     (c.st ≠ .probing → c.st ≠ .armed → ∀ r, result c.inst (.level a) r = s ∧ result c.inst .ditherStart r = s ∧
       result c.inst .ditherStop r = s) ∧
     (c.st ≠ .faulted → ∀ r, result c.inst .safety r = s) ∧
     (c.st = .ramping →
       result c.inst (.rampSet a) .done =
         startDwell n c (marked (s.setCtx n (some { c with atten := .db a }))) ∧
       result c.inst (.rampSet a) .failed = localFault n c .element s) ∧
     (c.st = .withdrawing →
       result c.inst (.withdrawSet a) .done =
         startDwell n c (marked (s.setCtx n (some { c with atten := .db a }))) ∧
       result c.inst (.withdrawSet a) .failed = localFault n c .element s ∧
       result c.inst .withdrawBlock .failed = localFault n c .element s ∧
       result c.inst .withdrawBlock .done =
         freeRecord n c (sendOn c.downPort .teardown (TeardownBody.encode ⟨c.lpId, 1, c.hopList.getD []⟩)
           (marked (s.setCtx n (some { c with atten := .blocked }))))) ∧
     (c.st = .faulted → ∀ x, c.faultRec = some x →
       result c.inst .safety .done = s.setCtx n (some { c with atten := .blocked }) ∧
       result c.inst .safety .failed = s.setCtx n (some { c with faultRec := some { x with unconfirmed := true } })) ∧
     ((c.st = .probing ∨ c.st = .armed) →
       let idle : ProbeWork := { c.work with outstanding := false }
       (∀ p, p ∈ [Purpose.level a, .ditherStart, .ditherStop] →
         result c.inst p .failed = localFault n c .element (s.setCtx n (some { c with work := idle }))) ∧
       (c.work.level = none → c.work.start = false → c.work.stop = false →
         result c.inst (.level a) .done =
           (marked (s.setCtx n (some { c with work := idle, atten := .db a }))).push [.judgeGrant c.egress]))) ∧
  (∀ (n f first count : Nat) (s : State),
     let t := markModified n f first count s
     let owned (k : Nat) : Prop :=
       (∃ i, first ≤ i ∧ i < first + count ∧ (s.block f (i / 16)).present = true ∧
         k = 16 * (s.block f (i / 16)).page + i % 16) ∧
       (s.dir.entries.get k).kind = .owned n
     t = { s with dir := { s.dir with entries := t.dir.entries } } ∧
     (∀ k, owned k → t.dir.entries.get k = { s.dir.entries.get k with modified := true }) ∧
     ∀ k, ¬owned k → t.dir.entries.get k = s.dir.entries.get k)

/-- Between takes nothing is left to be done and the arbiter has made every choice it can; and no transaction of a
FAILED element is queued or on the bus (Law 12). -/
def Obligations.EveryStepKeepsBusLaws : Prop :=
  (∀ s t : State, AtRest s → step s = .next t → AtRest t) ∧ ∀ s t : State, Law12 s → step s = .next t → Law12 t

/-! ## Tables and management requests (chapters 1, 2, 3, 5, 8, 9, 10) -/

/-- Every table keeps its one canonical form. -/
def Obligations.EveryStepKeepsTablesCanonical : Prop := ∀ s t : State, Canonical s → step s = .next t → Canonical t

/-- TABLE READ answers OK with table, index and the record as it stands, and changes nothing: faces, face settings
0 to 11, blocks 0 to 23 of a face, slots 0 to 383 of a face (NOT_FOUND where the block is absent), profiles 0 to
7, elements and routes 0 to 31, node settings 0, each laid out as section 11.4 gives. An index outside the table, or
an unused minor index that is not
0, is answered BAD_INDEX, a table outside 1 to 8 BAD_REQUEST.
Numbers on the wire: the most significant byte first, a signed one in two's complement.
That a 1 in the class mask means allowed is the model's (log entry 25). -/
def Obligations.TableReadReturnsRecord : Prop :=
  (∀ (h : Hdr) (params : List Byte) (t m n : Nat) (s : State), ForNode h s → parseTableRead params = some (t, m, n) →
     let good (record : List Byte) : Prop :=
       exec (.tableRead h params) s = .next
         (respond h 0x01 .ok (e8 t ++ e8 m ++ e16 n ++ record) (countRx h.port s))
     let bad (st : Status) : Prop := exec (.tableRead h params) s = .next (respond h 0x01 st [] (countRx h.port s))
     let block := s.block m (n / 16)
     let bit (b : Bool) (n : Nat) : Nat := if b = true then n else 0
     let face (x : FaceDesc) : List Byte :=
       e8 (bit x.present 1) ++ e8 (bit x.guard 1) ++
         e8 (bit x.mask.planned 1 + bit x.mask.restore 2 + bit x.mask.maint 4) ++ e8 (bit x.used 1) ++ e16 x.live
     let blockRecord (x : BlockDesc) : List Byte :=
       e8 (bit x.present 1) ++ e8 (bit x.guard 1) ++ e16 x.page ++ e8 (bit x.used 1)
     let slot (x : SlotEntry) : List Byte :=
       (match x.kind with
         | .free => e8 0 ++ e8 0 ++ e16 0
         | .owned o => e8 1 ++ e8 o ++ e16 0
         | .indirect g k => e8 2 ++ e8 g ++ e16 k
         | .foreign => e8 3 ++ e8 0 ++ e16 0
         | .barred => e8 4 ++ e8 0 ++ e16 0) ++ e8 (bit x.used 1 + bit x.modified 2)
     let settings (x : FaceSettings) : List Byte :=
       e8 (x.wss.getD 255) ++ e8 (x.monitor.getD 255) ++ s16 x.density ++ e16 x.transient ++ s16 x.ceilingPower ++
         e16 x.auditInterval ++ e16 x.auditTol ++ e8 (bit x.autoTrim 1) ++ e16 x.spacingMin ++ e16 x.spacingMax ++
         e16 x.helloInterval
     let profile (x : Profile) : List Byte :=
       e16 x.sMax ++ e8 x.deadband ++ e8 x.settleCount ++ e8 x.gain ++ e16 x.stepDwell ++ e8 x.maxSteps ++
         e16 x.l0 ++ e16 x.l1 ++ e16 x.l2 ++ e16 x.l3 ++ e16 x.probeDwell ++ e16 x.probeWindow ++
         e16 x.setupTimeout ++ e16 x.armTimeout ++ e16 x.readyTimeout ++ e16 x.faultHold ++ e16 x.withdrawStep
     let role : ElemRole → Nat
       | .none => 0 | .wss => 1 | .monitor => 2
     let health : Health → Nat
       | .ok => 0 | .suspect => 1 | .failed => 2
     let element (x : Element) : List Byte :=
       e8 (role x.role) ++ e8 x.timeout ++ e8 x.settle ++ e8 (health x.health)
     let route (x : Route) : List Byte := e8 (bit x.valid 1) ++ e16 x.base ++ e16 x.mask ++ e8 x.port
     let nodeRecord (x : NodeSettings) : List Byte :=
       e16 s.switch.nodeId ++ e8 (x.defaultPort.getD 255) ++ e16 x.reportDest ++ e8 x.originHop ++ e16 x.turnaround
     (t = 1 → m ≤ 11 → n = 0 → good (face (s.face m))) ∧ (t = 1 → ¬(m ≤ 11 ∧ n = 0) → bad .badIndex) ∧
     (t = 2 → m ≤ 11 → n ≤ 23 → good (blockRecord (s.block m n))) ∧ (t = 2 → ¬(m ≤ 11 ∧ n ≤ 23) → bad .badIndex) ∧
     (t = 3 → m ≤ 11 → n ≤ 383 → block.present = true → good (slot (s.entry block.page (n % 16)))) ∧
     (t = 3 → m ≤ 11 → n ≤ 383 → block.present = false → bad .notFound) ∧
     (t = 3 → ¬(m ≤ 11 ∧ n ≤ 383) → bad .badIndex) ∧
     (t = 4 → m ≤ 11 → n = 0 → good (settings (s.faceSet m))) ∧ (t = 4 → ¬(m ≤ 11 ∧ n = 0) → bad .badIndex) ∧
     (t = 5 → m ≤ 7 → n = 0 → good (profile (s.profile m))) ∧ (t = 5 → ¬(m ≤ 7 ∧ n = 0) → bad .badIndex) ∧
     (t = 6 → m ≤ 31 → n = 0 → good (element (s.elem m))) ∧ (t = 6 → ¬(m ≤ 31 ∧ n = 0) → bad .badIndex) ∧
     (t = 7 → m ≤ 31 → n = 0 → good (route (s.switch.routes.get m))) ∧
     (t = 7 → ¬(m ≤ 31 ∧ n = 0) → bad .badIndex) ∧
     (t = 8 → m = 0 → n = 0 → good (nodeRecord s.switch.settings)) ∧
     (t = 8 → ¬(m = 0 ∧ n = 0) → bad .badIndex) ∧
     (t = 0 ∨ 8 < t → bad .badRequest)) ∧
  ((∀ a b c d : Byte,
     e8 d.toNat = [d] ∧ e16 (256 * c.toNat + d.toNat) = [c, d] ∧
     e32 (16777216 * a.toNat + 65536 * b.toNat + 256 * c.toNat + d.toNat) = [a, b, c, d]) ∧
   (∀ n : Nat, n < 32768 → s16 n = e16 n) ∧ ∀ n : Nat, 1 ≤ n → n ≤ 32768 → s16 (-(n : Int)) = e16 (65536 - n))

/-- FACE DESCRIPTOR and BLOCK DESCRIPTOR writes. A face becomes absent only while its present blocks govern no OWNED,
INDIRECT or FOREIGN entry; an accepted write sets present, guard and class mask. A block keeps its page, or its
presence, while the page holds such an entry, and takes no page that another present block names; a page newly
named is initialised. A refused write changes nothing and answers the record as it stands. -/
def Obligations.DescriptorWritesJudged : Prop :=
  ∀ (h : Hdr) (params : List Byte) (f m : Nat) (s : State), ForNode h s →
    let occupied (page : Nat) : Prop := ∃ i, i < 16 ∧
      ((s.entry page i).kind = .foreign ∨ (∃ o, (s.entry page i).kind = .owned o) ∨
        ∃ g k, (s.entry page i).kind = .indirect g k)
    (∀ w, FaceWrite.parse params = some ((f, m), w) →
      let answer (st : Status) (x : FaceDesc) (t : State) : State :=
        respond h 0x02 st (e8 1 ++ e8 f ++ e16 m ++ x.encode) t
      let taken : Prop := (s.face f).present = true ∧ w.present = 0 ∧
        ∃ b, b < 24 ∧ (s.block f b).present = true ∧ occupied (s.block f b).page
      let new : FaceDesc := { s.face f with present := w.present == 1, guard := w.guard, mask := w.mask }
      (¬(f ≤ 11 ∧ m = 0) →
        exec (.faceDescriptorWrite h params) s = .next (respond h 0x02 .badIndex [] (countRx h.port s))) ∧
      (f ≤ 11 → m = 0 → 1 < w.present →
        exec (.faceDescriptorWrite h params) s = .next (answer .badValue (s.face f) (countRx h.port s))) ∧
      (f ≤ 11 → m = 0 → w.present ≤ 1 → taken →
        exec (.faceDescriptorWrite h params) s = .next (answer .inUse (s.face f) (countRx h.port s))) ∧
      (f ≤ 11 → m = 0 → w.present ≤ 1 → ¬taken →
        exec (.faceDescriptorWrite h params) s = .next
          (answer .ok new ((countRx h.port s).modFace f fun _ => new)))) ∧
    ∀ w, BlockWrite.parse params = some ((f, m), w) →
      let answer (st : Status) (x : BlockDesc) (t : State) : State :=
        respond h 0x02 st (e8 2 ++ e8 f ++ e16 m ++ x.encode) t
      let old := s.block f m
      let named : Prop := ∃ g c, g < 12 ∧ c < 24 ∧ ¬(g = f ∧ c = m) ∧ (s.block g c).present = true ∧
        (s.block g c).page = w.page
      let taken : Prop :=
        (old.present = false ∧ w.present = 1 ∧ named) ∨ (old.present = true ∧ w.present = 0 ∧ occupied old.page) ∨
          (old.present = true ∧ w.present = 1 ∧ w.page ≠ old.page ∧ (occupied old.page ∨ named))
      let new : BlockDesc := { old with present := w.present == 1, guard := w.guard, page := w.page }
      let fresh : Prop := w.present = 1 ∧ (old.present = false ∨ w.page ≠ old.page)
      (¬(f ≤ 11 ∧ m ≤ 23) →
        exec (.blockDescriptorWrite h params) s = .next (respond h 0x02 .badIndex [] (countRx h.port s))) ∧
      (f ≤ 11 → m ≤ 23 → (1 < w.present ∨ 255 < w.page) →
        exec (.blockDescriptorWrite h params) s = .next (answer .badValue old (countRx h.port s))) ∧
      (f ≤ 11 → m ≤ 23 → w.present ≤ 1 → w.page ≤ 255 → taken →
        exec (.blockDescriptorWrite h params) s = .next (answer .inUse old (countRx h.port s))) ∧
      (f ≤ 11 → m ≤ 23 → w.present ≤ 1 → w.page ≤ 255 → ¬taken → ¬fresh →
        exec (.blockDescriptorWrite h params) s = .next
          (answer .ok new ((countRx h.port s).modBlock f m fun _ => new))) ∧
      (f ≤ 11 → m ≤ 23 → w.present ≤ 1 → w.page ≤ 255 → ¬taken → fresh →
        ∃ t, exec (.blockDescriptorWrite h params) s = .next (answer .ok new t) ∧
          t = { (countRx h.port s).modBlock f m fun _ => new with dir := t.dir } ∧
          t.dir.faces = s.dir.faces ∧ (∀ k, t.dir.blocks.get k = if k = 24 * f + m then new else s.dir.blocks.get k) ∧
          ∀ k, t.dir.entries.get k =
            if 16 * w.page ≤ k ∧ k < 16 * w.page + 16 then ⟨.free, false, false⟩ else s.dir.entries.get k)

/-- A SLOT ENTRY write sets the kind of the entry governing the slot to FREE, FOREIGN or BARRED, keeping both flags,
and moves the face's live slot count by one when it makes or ends a FOREIGN entry. Another kind is BAD_VALUE, an
absent block NOT_FOUND, an OWNED or INDIRECT entry IN_USE, an index outside the table BAD_INDEX.
FLAGS CLEAR of one block clears the used flag of its descriptor and, where the block is present, both flags of
the sixteen entries of its page; of all blocks (255) it clears the used flags of the face and of its 24 blocks, and
both flags of every entry of the pages that its present blocks name. Kinds, guards, masks and counts stay. -/
def Obligations.SlotAndFlagRequestsAnswered : Prop :=
  (∀ (h : Hdr) (params : List Byte) (f n code : Nat) (s : State), ForNode h s →
     parseSlotWrite params = some ((f, n), code) →
     let block := s.block f (n / 16)
     let old := s.entry block.page (n % 16)
     let kind : EntryKind := if code = 0 then .free else if code = 3 then .foreign else .barred
     let fixed : Prop := (∃ o, old.kind = .owned o) ∨ ∃ g k, old.kind = .indirect g k
     let new : SlotEntry := { old with kind := kind }
     let written : State := (countRx h.port s).modEntry (16 * block.page + n % 16) fun _ => new
     (¬(f ≤ 11 ∧ n ≤ 383) →
       exec (.slotEntryWrite h params) s = .next (respond h 0x02 .badIndex [] (countRx h.port s))) ∧
     (f ≤ 11 → n ≤ 383 → code ≠ 0 → code ≠ 3 → code ≠ 4 → block.present = true →
       exec (.slotEntryWrite h params) s = .next
         (respond h 0x02 .badValue (e8 3 ++ e8 f ++ e16 n ++ old.encode) (countRx h.port s))) ∧
     (f ≤ 11 → n ≤ 383 → code ≠ 0 → code ≠ 3 → code ≠ 4 → block.present = false →
       ∃ r, exec (.slotEntryWrite h params) s = .next (respond h 0x02 .badValue r (countRx h.port s))) ∧
     (f ≤ 11 → n ≤ 383 → (code = 0 ∨ code = 3 ∨ code = 4) → block.present = false →
       exec (.slotEntryWrite h params) s = .next (respond h 0x02 .notFound [] (countRx h.port s))) ∧
     (f ≤ 11 → n ≤ 383 → (code = 0 ∨ code = 3 ∨ code = 4) → block.present = true → fixed →
       exec (.slotEntryWrite h params) s = .next
         (respond h 0x02 .inUse (e8 3 ++ e8 f ++ e16 n ++ old.encode) (countRx h.port s))) ∧
     (f ≤ 11 → n ≤ 383 → (code = 0 ∨ code = 3 ∨ code = 4) → block.present = true → ¬fixed →
       exec (.slotEntryWrite h params) s = .next
         (respond h 0x02 .ok (e8 3 ++ e8 f ++ e16 n ++ new.encode)
           (if old.kind ≠ .foreign ∧ kind = .foreign then written.modFace f fun x => { x with live := x.live + 1 }
             else if old.kind = .foreign ∧ kind ≠ .foreign then written.modFace f fun x => { x with live := x.live - 1 }
             else written)))) ∧
  (∀ (h : Hdr) (params : List Byte) (f b : Nat) (s : State), ForNode h s → parseFlagsClear params = some (f, b) →
     (¬(f ≤ 11 ∧ (b ≤ 23 ∨ b = 255)) →
       exec (.flagsClear h params) s = .next (respond h 0x03 .badIndex [] (countRx h.port s))) ∧
     (f ≤ 11 → (b ≤ 23 ∨ b = 255) →
       let covers (c : Nat) : Prop := c ≤ 23 ∧ (c = b ∨ b = 255)
       ∃ t, exec (.flagsClear h params) s = .next (respond h 0x03 .ok [] t) ∧
         t = { countRx h.port s with dir := t.dir } ∧
         (∀ g, t.face g = if g = f ∧ b = 255 then { s.face g with used := false } else s.face g) ∧
         (∀ g c, g ≤ 11 → c ≤ 23 →
           (g = f → covers c → t.block g c = { s.block g c with used := false }) ∧
           (¬(g = f ∧ covers c) → t.block g c = s.block g c)) ∧
         ∀ page i, i ≤ 15 →
           ((∃ c, covers c ∧ (s.block f c).present = true ∧ (s.block f c).page = page) →
             t.entry page i = { s.entry page i with used := false, modified := false }) ∧
           ((∀ c, covers c → (s.block f c).present = true → (s.block f c).page ≠ page) →
             t.entry page i = s.entry page i)))

/-- FACE SETTINGS and PROFILE writes: BAD_INDEX outside the table; numeric fields outside their ranges are brought
to the nearer bound and the write is answered CLAMPED; face settings that name no element of the right role, an
undefined auto-trim code or, after clamping, a spacing minimum above the maximum are BAD_VALUE; a profile whose
clamped ladder rises is BAD_VALUE, one that an active context holds IN_USE. A changed audit interval restarts the
audit timer, and 0 stops it and clears the pending indication. A refused write changes nothing. -/
def Obligations.RampTableWritesJudged : Prop :=
  ∀ (h : Hdr) (params : List Byte) (f m : Nat) (s : State), ForNode h s →
    (∀ w, SettingsWrite.parse params = some ((f, m), w) →
      let answer (st : Status) (x : FaceSettings) (t : State) : State :=
        respond h 0x02 st (e8 4 ++ e8 f ++ e16 m ++ x.encode) t
      let names (n : Nat) (role : ElemRole) : Prop := n = 255 ∨ (n ≤ 31 ∧ (s.elem n).role = role)
      let new : FaceSettings :=
        { wss := if w.wss = 255 then none else some w.wss, monitor := if w.monitor = 255 then none else some w.monitor,
          density := max (-2000) (min w.density 500), transient := max 10 (min w.transient 300),
          ceilingPower := max (-1000) (min w.ceilingPower 2000), auditInterval := min w.auditInterval 3600,
          auditTol := max 50 (min w.auditTol 500), autoTrim := w.autoTrim == 1,
          spacingMin := max 5 (min w.spacingMin 500), spacingMax := max 5 (min w.spacingMax 500),
          helloInterval := max 50 (min w.helloInterval 1000) }
      let kept : Prop := new.density = w.density ∧ new.transient = w.transient ∧ new.ceilingPower = w.ceilingPower ∧
        new.auditInterval = w.auditInterval ∧ new.auditTol = w.auditTol ∧ new.spacingMin = w.spacingMin ∧
        new.spacingMax = w.spacingMax ∧ new.helloInterval = w.helloInterval
      let good : Prop := names w.wss .wss ∧ names w.monitor .monitor ∧ w.autoTrim ≤ 1 ∧ new.spacingMin ≤ new.spacingMax
      let stored : State := (countRx h.port s).setFaceSet f new
      (¬(f ≤ 11 ∧ m = 0) →
        exec (.faceSettingsWrite h params) s = .next (respond h 0x02 .badIndex [] (countRx h.port s))) ∧
      (f ≤ 11 → m = 0 → ¬good →
        exec (.faceSettingsWrite h params) s = .next (answer .badValue (s.faceSet f) (countRx h.port s))) ∧
      (f ≤ 11 → m = 0 → good →
        exec (.faceSettingsWrite h params) s = .next (answer (if kept then .ok else .clamped) new
          (if new.auditInterval = (s.faceSet f).auditInterval then stored
            else if new.auditInterval = 0 then stored.modAudit f fun a => { a with timer := none, pending := false }
            else stored.modAudit f fun a => { a with timer := some (s.now + 1000 * new.auditInterval) })))) ∧
    ∀ w : Profile, parseProfileWrite params = some ((f, m), w) →
      let answer (st : Status) (x : Profile) (t : State) : State :=
        respond h 0x02 st (e8 5 ++ e8 f ++ e16 m ++ x.encode) t
      let new : Profile :=
        { sMax := max 10 (min w.sMax 300), deadband := max 5 (min w.deadband 100),
          settleCount := max 1 (min w.settleCount 4), gain := max 1 (min w.gain 8),
          stepDwell := max 50 (min w.stepDwell 5000), maxSteps := max 8 (min w.maxSteps 128), l0 := min w.l0 2500,
          l1 := min w.l1 2500, l2 := min w.l2 2500, l3 := min w.l3 2500,
          probeDwell := max 500 (min w.probeDwell 10000), probeWindow := max 200 (min w.probeWindow 10000),
          setupTimeout := max 1 (min w.setupTimeout 3600), armTimeout := max 1 (min w.armTimeout 3600),
          readyTimeout := max 1 (min w.readyTimeout 3600), faultHold := min w.faultHold 3600,
          withdrawStep := max 10 (min w.withdrawStep 300) }
      let falls : Prop := new.l1 ≤ new.l0 ∧ new.l2 ≤ new.l1 ∧ new.l3 ≤ new.l2
      let held : Prop := ∃ x ∈ s.table.recs.cells, ∃ c, x.2 = some c ∧ c.st ≠ .inService ∧ c.profile = f
      (¬(f ≤ 7 ∧ m = 0) →
        exec (.profileWrite h params) s = .next (respond h 0x02 .badIndex [] (countRx h.port s))) ∧
      (f ≤ 7 → m = 0 → ¬falls →
        exec (.profileWrite h params) s = .next (answer .badValue (s.profile f) (countRx h.port s))) ∧
      (f ≤ 7 → m = 0 → falls → held →
        exec (.profileWrite h params) s = .next (answer .inUse (s.profile f) (countRx h.port s))) ∧
      (f ≤ 7 → m = 0 → falls → ¬held →
        exec (.profileWrite h params) s = .next
          (answer (if new = w then .ok else .clamped) new ((countRx h.port s).setProfile f new)))

/-- ELEMENT, ROUTE and NODE SETTINGS writes. An element keeps its health; a change of its role is IN_USE while a
face names it or a request for it is queued or on the bus; its two times are clamped. A route's port is at most 8.
Node settings keep the node ID; a default port above 8 that is not NONE and a report destination of 65535 are
BAD_VALUE; origin hop limit and turnaround are clamped. -/
def Obligations.NodeTableWritesJudged : Prop :=
  ∀ (h : Hdr) (params : List Byte) (i m : Nat) (s : State), ForNode h s →
    (∀ w, ElementWrite.parse params = some ((i, m), w) →
      let answer (st : Status) (x : Element) (t : State) : State :=
        respond h 0x02 st (e8 6 ++ e8 i ++ e16 m ++ x.encode) t
      let old := s.elem i
      let used : Prop :=
        (∃ f, f < 12 ∧ ((s.faceSet f).wss = some i ∨ (s.faceSet f).monitor = some i)) ∨
          (∃ r ∈ s.bus.queued, r.elem = i) ∨ ∃ b, s.bus.onBus = some b ∧ b.req.elem = i
      let new (role : ElemRole) : Element :=
        { old with role := role, timeout := max 1 (min w.timeout 255), settle := min w.settle 255 }
      (¬(i ≤ 31 ∧ m = 0) →
        exec (.elementWrite h params) s = .next (respond h 0x02 .badIndex [] (countRx h.port s))) ∧
      (i ≤ 31 → m = 0 → 2 < w.role →
        exec (.elementWrite h params) s = .next (answer .badValue old (countRx h.port s))) ∧
      ∀ role, ElemRole.ofCode w.role = some role → i ≤ 31 → m = 0 →
        (role ≠ old.role → used →
          exec (.elementWrite h params) s = .next (answer .inUse old (countRx h.port s))) ∧
        (role = old.role ∨ ¬used →
          exec (.elementWrite h params) s = .next
            (answer (if (new role).timeout = w.timeout ∧ (new role).settle = w.settle then .ok else .clamped) (new role)
              ((countRx h.port s).modElem i fun _ => new role)))) ∧
    (∀ r : Route, parseRouteWrite params = some ((i, m), r) →
      (¬(i ≤ 31 ∧ m = 0) →
        exec (.routeWrite h params) s = .next (respond h 0x02 .badIndex [] (countRx h.port s))) ∧
      (i ≤ 31 → m = 0 → 8 < r.port →
        exec (.routeWrite h params) s = .next
          (respond h 0x02 .badValue (e8 7 ++ e8 i ++ e16 m ++ (s.switch.routes.get i).encode) (countRx h.port s))) ∧
      (i ≤ 31 → m = 0 → r.port ≤ 8 →
        exec (.routeWrite h params) s = .next
          (respond h 0x02 .ok (e8 7 ++ e8 i ++ e16 m ++ r.encode)
            { countRx h.port s with switch := { s.switch with routes := s.switch.routes.set i r } }))) ∧
    ∀ w : NodeWrite, NodeWrite.parse params = some ((i, m), w) →
      let answer (st : Status) (x : NodeSettings) (t : State) : State :=
        respond h 0x02 st (e8 8 ++ e8 i ++ e16 m ++ x.encode s.switch.nodeId) t
      let wrong : Prop := (8 < w.defaultPort ∧ w.defaultPort ≠ 255) ∨ w.reportDest = 65535
      let new : NodeSettings :=
        { defaultPort := if w.defaultPort = 255 then none else some w.defaultPort, reportDest := w.reportDest,
          originHop := max 1 (min w.originHop 63), turnaround := min w.turnaround 1000 }
      (¬(i = 0 ∧ m = 0) →
        exec (.nodeSettingsWrite h params) s = .next (respond h 0x02 .badIndex [] (countRx h.port s))) ∧
      (i = 0 → m = 0 → wrong →
        exec (.nodeSettingsWrite h params) s = .next (answer .badValue s.switch.settings (countRx h.port s))) ∧
      (i = 0 → m = 0 → ¬wrong → ∃ t,
        exec (.nodeSettingsWrite h params) s = .next t ∧
        t = handFrame h.port
          { kind := .mgmtResponse, dst := h.src.toNat, src := s.switch.nodeId, hop := new.originHop, tag := h.tag,
            body := e8 0x02 ++ e8 (if new.originHop = w.originHop ∧ new.turnaround = w.turnaround then 0 else 2) ++
              (e8 8 ++ e8 i ++ e16 m ++ new.encode s.switch.nodeId) }
          { countRx h.port s with switch := { s.switch with settings := new } })

/-- COMMISSION at the head. Lightpath ID, pilot code or trim out of range: BAD_VALUE. A path of fewer than 2 or more
than 32 hops, with a node ID outside 1 to 65534 or twice, or not starting at this node: BAD_PATH. Faces of entry 0
that are not add/drop to line, or a span that is not valid: BAD_HOP. Then the lowest-numbered failing one of checks
3 to 8. A setup reason raises setups rejected and the walks leave their marks. When all pass, the lowest FREE record
becomes the RESERVED head with the hop list, the span is reserved, setups accepted rises, the response is ACCEPTED
with the handle, and SETUP with cursor 1 is sent downstream.
That the response is handed over before the SETUP is DEDUCED (log entry 19). -/
def Obligations.CommissionJudged : Prop :=
  ∀ (h : Hdr) (params : List Byte) (b : SetupBody) (s : State), ForNode h s → parseCommission params = some b →
    let inRange : Prop := b.id ≠ 0 ∧ 1 ≤ b.pilot ∧ b.pilot ≤ 4095 ∧ -300 ≤ b.trim ∧ b.trim ≤ 300
    let o := s.resp.overlay
    (¬inRange → exec (.commission h params) s = .next (respond h 0x10 .badValue [] (countRx h.port s))) ∧
    (inRange →
      ¬(2 ≤ b.hops.length ∧ b.hops.length ≤ 32 ∧ (∀ x ∈ b.hops, 1 ≤ x.node ∧ x.node ≤ 65534) ∧
        (∃ e, b.hops[0]? = some e ∧ e.node = s.switch.nodeId) ∧ (b.hops.map (·.node)).Nodup) →
      exec (.commission h params) s = .next
        (respond h 0x10 (.refusedFor .badPath) [] (countRejected (countRx h.port s)))) ∧
    ∀ e l, b.hops = e :: l → inRange → 1 ≤ l.length → l.length ≤ 31 →
      (∀ x ∈ b.hops, 1 ≤ x.node ∧ x.node ≤ 65534) → e.node = s.switch.nodeId → (b.hops.map (·.node)).Nodup →
      let fits : Prop := 8 ≤ e.ingress ∧ e.ingress ≤ 11 ∧ e.egress ≤ 7 ∧ 1 ≤ b.count ∧ b.count ≤ 16 ∧
        b.first ≤ 383 ∧ b.first + b.count ≤ 384
      let walks := admitWalks s e.ingress e.egress b.first b.count
      let spectrum := judgeWalks b.cls (walks.map (·.1))
      (¬fits → exec (.commission h params) s = .next
        (respond h 0x10 (.refusedFor .badHop) [] (countRejected (countRx h.port s)))) ∧
      (∀ r, fits →
        (if (findLp s b.id).isSome then some Reason.lpBusy
          else if o.classes.allows b.cls = false then some .classBarred
          else if o.span < b.count then some .spanLimit
          else if o.concurrency ≤ activeCount s then some .nodeBusy
          else if lowestFree s = none then some .tableFull
          else if 7 < b.profile then some .badProfile
          else if pilotInUse s b.pilot then some .pilotInUse
          else if spectrum ≠ none then spectrum
          else if elementsReady s e.egress = false then some .noElement
          else none) = some r →
        exec (.commission h params) s = .next
          (respond h 0x10 (.refusedFor r) [] (countRejected (setMarks (allMarks walks) (countRx h.port s))))) ∧
      ∀ n, fits → findLp s b.id = none → o.classes.allows b.cls = true → b.count ≤ o.span →
        activeCount s < o.concurrency → n < 256 → s.ctx n = none → (∀ m, m < n → (s.ctx m).isSome = true) →
        b.profile ≤ 7 → pilotInUse s b.pilot = false → spectrum = none → elementsReady s e.egress = true →
        let record : Context :=
          { inst := s.table.nextInst, lpId := b.id, role := .head, ingress := e.ingress, egress := e.egress,
            upPort := none, downPort := some e.egress, first := b.first, count := b.count, cls := b.cls,
            profile := b.profile, trim := b.trim, pilot := b.pilot, hopIndex := 0, hopCount := b.hops.length,
            st := .reserved,
            target := clampInt (-4000) 1500 ((s.faceSet e.egress).density + Config.density b.count + b.trim),
            atten := .blocked, lastReading := none, readingsUsed := 0, settledRun := 0, probeLevel := 0,
            adopted := false, guardHeld := false, pilotValidated := false, setupAcked := false,
            deadline := some (s.now + 1000 * (s.profile b.profile).setupTimeout), hopList := some b.hops,
            hopReports := none, watch := none, faultRec := none, drift := none, probeTimer := none,
            work := ⟨none, false, none, false, false, false⟩, carried := none, rampHeld := false, rampDwell := none }
        exec (.commission h params) s = .next
          (sendAdjacent e.egress .setup (SetupBody.encode { b with cursor := 1 })
            (respond h 0x10 .accepted (e8 n)
              (countAccepted (reserveSpan n e.ingress e.egress b.first b.count (allocate n record
                (setMarks (allMarks walks) (countRx h.port s)))))))

/-- ADOPT of a nonzero lightpath ID. The first failing one of checks 2 to 7 gives the status and changes nothing; a
span that does not pass is refused with the Directory's reason and its walks' marks stand. When all pass, the
lowest FREE record is IN_SERVICE with the request's attenuation, the span is reserved and joins the live slot count,
and the response is OK with the handle.
The case of lightpath ID 0 is the free value of log entry 7 and is not stated. -/
def Obligations.AdoptJudged : Prop :=
  ∀ (h : Hdr) (params : List Byte) (b : AdoptBody) (s : State), ForNode h s → AdoptBody.parse params = some b →
    b.id ≠ 0 →
    let inRange : Prop := -300 ≤ b.trim ∧ b.trim ≤ 300 ∧ (b.atten = 65535 ∨ b.atten ≤ 2500)
    let path : Prop := b.role = .head →
      2 ≤ b.hopCount ∧ b.hopCount ≤ 32 ∧ b.hops.length = b.hopCount ∧
        b.hops[0]? = some ⟨s.switch.nodeId, b.ingress, b.egress⟩ ∧ (b.hops.map (·.node)).Nodup
    let faces : Prop :=
      match b.role with
      | .head => 8 ≤ b.ingress ∧ b.ingress ≤ 11 ∧ b.egress ≤ 7 ∧ b.hopIndex = 0
      | .transit => b.ingress ≤ 7 ∧ b.egress ≤ 7 ∧ b.ingress ≠ b.egress ∧ 1 ≤ b.hopIndex ∧ b.hopIndex + 2 ≤ b.hopCount
      | .tail => b.ingress ≤ 7 ∧ 8 ≤ b.egress ∧ b.egress ≤ 11 ∧ b.hopIndex + 1 = b.hopCount
    let hop : Prop := faces ∧ 1 ≤ b.count ∧ b.count ≤ 16 ∧ b.first ≤ 383 ∧ b.first + b.count ≤ 384 ∧
      2 ≤ b.hopCount ∧ b.hopCount ≤ 32
    let walks := admitWalks s b.ingress b.egress b.first b.count
    let spectrum := judgeWalks b.cls (walks.map (·.1))
    let marked : State := setMarks (allMarks walks) (countRx h.port s)
    let refused (st : Status) : Prop :=
      exec (.adopt h params) s = .next (respond h 0x12 st [] (countRx h.port s))
    (¬inRange → refused .badValue) ∧
    (inRange → ¬path → refused (.refusedFor .badPath)) ∧
    (inRange → path → ¬hop → refused (.refusedFor .badHop)) ∧
    (inRange → path → hop → (findLp s b.id).isSome = true → refused (.refusedFor .lpBusy)) ∧
    (inRange → path → hop → findLp s b.id = none → (∀ n, n < 256 → (s.ctx n).isSome = true) →
      refused (.refusedFor .tableFull)) ∧
    ∀ n, inRange → path → hop → findLp s b.id = none → n < 256 → s.ctx n = none →
      (∀ m, m < n → (s.ctx m).isSome = true) →
      (7 < b.profile → refused (.refusedFor .badProfile)) ∧
      (∀ r, b.profile ≤ 7 → spectrum = some r →
        exec (.adopt h params) s = .next (respond h 0x12 (.refusedFor r) [] marked)) ∧
      (b.profile ≤ 7 → spectrum = none →
        let record : Context :=
          { inst := s.table.nextInst, lpId := b.id, role := b.role, ingress := b.ingress, egress := b.egress,
            upPort := if b.role = .head then none else some b.ingress,
            downPort := if b.role = .tail then none else some b.egress, first := b.first, count := b.count,
            cls := b.cls, profile := b.profile, trim := b.trim, pilot := 0, hopIndex := b.hopIndex,
            hopCount := b.hopCount, st := .inService,
            target := clampInt (-4000) 1500 ((s.faceSet b.egress).density + Config.density b.count + b.trim),
            atten := if b.atten = 65535 then .blocked else .db b.atten, lastReading := none, readingsUsed := 0,
            settledRun := 0, probeLevel := 0, adopted := true, guardHeld := false, pilotValidated := false,
            setupAcked := true, deadline := none, hopList := if b.role = .head then some b.hops else none,
            hopReports := none, watch := none, faultRec := none, drift := none, probeTimer := none,
            work := ⟨none, false, none, false, false, false⟩, carried := none, rampHeld := false, rampDwell := none }
        exec (.adopt h params) s = .next (respond h 0x12 .ok (e8 n)
          (raiseLive b.egress b.count
            (reserveSpan n b.ingress b.egress b.first b.count (allocate n record marked)))))

/-- CONTEXT READ answers NOT_FOUND, or OK with the record laid out as section 11.4 gives, and changes nothing. CONTEXT
LIST answers OK with the first
32 non-FREE records at or above the start in handle order and the handle of the next one, or all ones; a start above
255 BAD_INDEX. CONTEXT DISCARD answers NOT_FOUND; frees a FAULTED or IN_SERVICE record that holds no ramp place and
answers OK; any other state is NOT_ALLOWED. -/
def Obligations.ContextRequestsAnswered : Prop :=
  ∀ (h : Hdr) (params : List Byte) (s : State), ForNode h s →
    let bit (b : Bool) (n : Nat) : Nat := if b = true then n else 0
    let role : Role → Nat
      | .head => 1 | .transit => 2 | .tail => 3
    let cls : OriginClass → Nat
      | .planned => 1 | .restore => 2 | .maint => 3
    let direction : Direction → Nat
      | .here => 0 | .upstream => 1 | .downstream => 2
    let state : CtxState → Nat
      | .reserved => 1 | .probing => 2 | .armed => 3 | .ramping => 4 | .settled => 5 | .inService => 6
      | .withdrawing => 7 | .faulted => 8
    let cause : Cause → Nat
      | .element => 1 | .shortfall => 2 | .excess => 3 | .overpower => 4 | .stepExhausted => 5 | .misroute => 6
      | .linkLoss => 7 | .setupTimeout => 8 | .armTimeout => 9 | .readyTimeout => 10 | .probeUnseen => 11
      | .nodeReset => 12
    let atten : Atten → Nat
      | .blocked => 65535
      | .db a => a
    let remaining : Option Nat → Nat
      | none => 4294967295
      | some t => t - s.now
    let burst (run : Nat) (t : Option Nat) : Nat :=
      if run = 0 then 4294967295 else t.elim 4294967295 fun u => u % 4294967296
    let record (n : Nat) (c : Context) : List Byte :=
      [e8 n, e32 c.inst, e32 c.lpId, e8 (role c.role), e8 (state c.st),
        e8 c.ingress, e8 c.egress, e8 (c.upPort.getD 255), e8 (c.downPort.getD 255),
        e16 c.first, e8 c.count, e8 (cls c.cls), e8 c.profile, s16 c.trim, e16 c.pilot,
        e8 c.hopIndex, e8 c.hopCount,
        s16 c.target, e16 (atten c.atten), s16 (c.lastReading.getD (-32768)), e8 c.readingsUsed, e8 c.settledRun,
        e8 c.probeLevel,
        e32 (remaining c.deadline),
        e8 (bit c.adopted 1 + bit c.guardHeld 2 + bit c.pilotValidated 4 + bit c.setupAcked 8),
        e8 (bit c.hopList.isSome 1 + bit c.hopReports.isSome 2 + bit c.watch.isSome 4 + bit c.faultRec.isSome 8 +
          bit c.drift.isSome 16)].flatten ++
        (c.hopList.elim [] fun l => l.flatMap fun x => e16 x.node ++ e8 x.ingress ++ e8 x.egress) ++
        (c.hopReports.elim [] fun l => e8 l.length ++ l.flatMap fun x =>
          e16 x.node ++ e16 (atten x.atten) ++ s16 x.reading ++ e8 x.used ++ e8 (bit x.guardHeld 1)) ++
        (c.watch.elim [] fun w => e8 w.run ++ e32 (burst w.run w.lastRun) ++ e8 w.misrun ++
          e32 (burst w.misrun w.lastMis) ++ e8 (if w.misrun = 0 then 255 else w.misFace.getD 255)) ++
        (c.faultRec.elim [] fun x => e8 (cause x.cause) ++ e16 x.origin ++
          e8 (direction x.received) ++ e8 (bit x.unconfirmed 1)) ++
        (c.drift.elim [] fun x => s16 x.reading ++ s16 x.drift ++ e8 (bit x.flag 1))
    (∀ id, parseId params = some id →
      (findLp s id = none →
        exec (.contextRead h params) s = .next (respond h 0x13 .notFound [] (countRx h.port s)) ∧
        (AtRest s →
          exec (.contextDiscard h params) s = .next (respond h 0x15 .notFound [] (countRx h.port s)))) ∧
      ∀ n c, findLp s id = some (n, c) →
        exec (.contextRead h params) s = .next (respond h 0x13 .ok (record n c) (countRx h.port s)) ∧
        (AtRest s → c.st ≠ .faulted → c.st ≠ .inService →
          exec (.contextDiscard h params) s = .next (respond h 0x15 .notAllowed [] (countRx h.port s))) ∧
        (AtRest s → OffRamp n c s → c.st = .faulted →
          exec (.contextDiscard h params) s = .next (respond h 0x15 .ok []
            ((freeSpan n c.ingress c.egress c.first c.count (countRx h.port s)).setCtx n none))) ∧
        (AtRest s → OffRamp n c s → c.st = .inService →
          exec (.contextDiscard h params) s = .next (respond h 0x15 .ok []
            ((lowerLive c.egress c.count
              (freeSpan n c.ingress c.egress c.first c.count (countRx h.port s))).setCtx n none)))) ∧
    ∀ start, d16 params = some (start, []) →
      (255 < start →
        exec (.contextList h params) s = .next (respond h 0x14 .badIndex [] (countRx h.port s))) ∧
      ∀ l : List (Nat × Context), start ≤ 255 → s.table.recs.wf → l.Pairwise (fun a b => a.1 < b.1) →
        (∀ n c, (n, c) ∈ l ↔ start ≤ n ∧ s.ctx n = some c) →
        exec (.contextList h params) s = .next (respond h 0x14 .ok
          (e8 (min l.length 32) ++ (match l[32]? with | some x => e16 x.1 | none => e16 65535) ++
            (l.take 32).flatMap fun x => e8 x.1 ++ e8 (state x.2.st) ++ e32 x.2.lpId)
          (countRx h.port s))

/-- ELEMENT READ: BAD_INDEX above element 31, BAD_VALUE for an element that is no MONITOR or a span that is not valid,
ELEMENT_ERROR for a FAILED one, BUSY with four reads queued; else a GET-POWER joins the MGMT queue and the answer
waits: OK with the power as given or the below-floor mark, or ELEMENT_ERROR. ELEMENT REVIVE: BAD_INDEX above 31, else
the health becomes OK and nothing else of the element changes.
The power field beside the below-floor mark is the free value of log entry 8. -/
def Obligations.ElementRequestsAnswered : Prop :=
  ∀ (h : Hdr) (params : List Byte) (s : State), ForNode h s →
    (∀ e first count, AtRest s → parseElementRead params = some (e, first, count) →
      let refused (st : Status) : Prop :=
        exec (.elementRead h params) s = .next (respond h 0x20 st [] (countRx h.port s))
      let valid : Prop := 1 ≤ count ∧ count ≤ 16 ∧ first ≤ 383 ∧ first + count ≤ 384
      (31 < e → refused .badIndex) ∧
      (e ≤ 31 → ¬((s.elem e).role = .monitor ∧ valid) → refused .badValue) ∧
      (e ≤ 31 → (s.elem e).role = .monitor → valid → (s.elem e).health = .failed → refused .elementError) ∧
      (e ≤ 31 → (s.elem e).role = .monitor → valid → (s.elem e).health ≠ .failed → 4 ≤ s.bus.mgmtQ.length →
        refused .busy) ∧
      (e ≤ 31 → (s.elem e).role = .monitor → valid → (s.elem e).health ≠ .failed → s.bus.mgmtQ.length < 4 →
        exec (.elementRead h params) s = .next (arbitrate
          { countRx h.port s with
              bus := { s.bus with
                seq := s.bus.seq + 1,
                mgmtQ := s.bus.mgmtQ ++
                  [⟨.mgmt, s.bus.seq, e, .getPower, false, first, count, .read h.port h.src.toNat h.tag⟩] } }))) ∧
    (∀ (port src : Nat) (tag : Byte),
      let answered (r : Result) (body : List Byte) : Prop :=
        doWork (.result (.read port src tag) r) s = respondTo port src tag body s
      (∀ p, answered (.power p) (e8 0x20 ++ e8 0 ++ s16 p ++ e8 0)) ∧
      answered .belowFloor (e8 0x20 ++ e8 0 ++ e16 Config.belowFloorPower.toNat ++ e8 1) ∧
      answered .failed (e8 0x20 ++ e8 Status.elementError.code)) ∧
    ∀ e, d8 params = some (e, []) →
      (31 < e → exec (.elementRevive h params) s = .next (respond h 0x21 .badIndex [] (countRx h.port s))) ∧
      (e ≤ 31 → exec (.elementRevive h params) s = .next (respond h 0x21 .ok []
        ((countRx h.port s).modElem e fun x => { x with health := .ok })))

/-- CAPABILITY IDENTIFY reports factory record, overlay and frozen flag and changes nothing. While the overlay is
frozen SET, RESTORE and FREEZE are answered FROZEN and change nothing. Otherwise SET stores the requested values held
to the factory record (CLAMPED when one was not kept), RESTORE the factory record, and FREEZE sets the flag.
That an answer FROZEN carries no result is DEDUCED (log entry 15). -/
def Obligations.CapabilityRequestsAnswered : Prop :=
  ∀ (h : Hdr) (params : List Byte) (s : State), ForNode h s →
    let record (c n : Nat) (m : ClassMask) (k : Nat) (a : Bool) : List Byte := e8 c ++ e8 n ++ e8 m.code ++ e16 k ++ eBool a
    let factory : List Byte := record 16 16 ⟨true, true, true⟩ 300 true
    let o := s.resp.overlay
    let now : List Byte := record o.concurrency o.span o.classes o.stepCeiling o.autoTrim
    let t := countRx h.port s
    (params = [] →
      exec (.capabilityIdentify h params) s = .next (respond h 0x30 .ok (factory ++ now ++ eBool s.resp.frozen) t) ∧
      (s.resp.frozen = true →
        exec (.capabilityRestore h params) s = .next (respond h 0x32 .frozen [] t) ∧
        exec (.capabilityFreeze h params) s = .next (respond h 0x33 .frozen [] t)) ∧
      (s.resp.frozen = false →
        exec (.capabilityRestore h params) s = .next (respond h 0x32 .ok factory
          { t with resp := { s.resp with overlay := ⟨16, 16, ⟨true, true, true⟩, 300, true⟩ } }) ∧
        exec (.capabilityFreeze h params) s = .next (respond h 0x33 .ok now
          { t with resp := { s.resp with frozen := true } }))) ∧
    ∀ w, parseOverlay params = some w →
      let new : Overlay := ⟨min w.concurrency 16, max 1 (min w.span 16), w.classes, max 10 (min w.stepCeiling 300), w.autoTrim⟩
      (s.resp.frozen = true → exec (.capabilitySet h params) s = .next (respond h 0x31 .frozen [] t)) ∧
      (s.resp.frozen = false →
        exec (.capabilitySet h params) s = .next
          (respond h 0x31
            (if w.concurrency ≤ 16 ∧ 1 ≤ w.span ∧ w.span ≤ 16 ∧ 10 ≤ w.stepCeiling ∧ w.stepCeiling ≤ 300 then .ok
              else .clamped)
            (record new.concurrency new.span new.classes new.stepCeiling new.autoTrim)
            { t with resp := { s.resp with overlay := new } }))

/-- Law 11: once frozen, the overlay and the frozen flag stay unchanged under every command but power-on reset. -/
def Obligations.FrozenOverlayStays : Prop :=
  ∀ (c : Instr) (s t : State), s.resp.frozen = true → (∀ straps, c ≠ .powerOnReset straps) → exec c s = .next t →
    t.resp.frozen = true ∧ t.resp.overlay = s.resp.overlay

/-- COUNTERS READ answers OK with the 572-byte counter block as it stands, laid out as section 11.4 gives, this
request counted in rx. With the flag
clear nothing else changes; with it set every counter is 0 before the response is handed over, and link states,
neighbours and healths stay.
That the counters are cleared before the response is handed over is DEDUCED (log entry 12). -/
def Obligations.CountersReadAnswered : Prop :=
  ∀ (h : Hdr) (params : List Byte) (clear : Bool) (s : State), ForNode h s → dBool params = some (clear, []) →
    let t := countRx h.port s
    let link : LinkState → Nat
      | .down => 0 | .acquire => 1 | .up => 2
    let health : Health → Nat
      | .ok => 0 | .suspect => 1 | .failed => 2
    let port (x : Port) : List Byte :=
      e32 x.counters.rx ++ e32 x.counters.tx ++ e32 x.counters.crc ++ e32 x.counters.malformed ++
        e32 x.counters.notUp ++ e32 x.counters.drop ++ e32 x.counters.hopLimit ++
        e8 (link x.link) ++ x.neighbour.elim (e16 0 ++ e8 255) fun y => e16 y.1 ++ e8 y.2
    let k := s.resp.counters
    let block : List Byte :=
      (List.range 9).flatMap (fun p => port (t.port p)) ++
        (e32 k.noRoute ++ e32 k.stray ++ e32 k.setupsAccepted ++ e32 k.setupsRejected ++ e32 k.localFaults ++
          e32 k.receivedFaults ++ e32 k.discardedFaults) ++
        (List.range 12).flatMap (fun f => e32 (s.stray.get f) ++ e32 (s.auditFace f).overruns) ++
        (List.range 32).flatMap fun e => e32 (s.elem e).failures ++ e8 (health (s.elem e).health)
    block.length = 572 ∧
    (clear = false → exec (.countersRead h params) s = .next (respond h 0x40 .ok block t)) ∧
    (clear = true → ∃ u, exec (.countersRead h params) s = .next (respond h 0x40 .ok block u) ∧
      u = { s with ports := u.ports, audit := u.audit, bus := { s.bus with elems := u.bus.elems }, stray := u.stray,
                   resp := { s.resp with counters := ⟨0, 0, 0, 0, 0, 0, 0⟩ } } ∧
      (∀ p, p ≤ 8 → u.port p = { s.port p with counters := ⟨0, 0, 0, 0, 0, 0, 0⟩ }) ∧
      (∀ f, u.stray.get f = 0) ∧
      (∀ f, f ≤ 11 → u.auditFace f = { s.auditFace f with overruns := 0 }) ∧
      ∀ e, e ≤ 31 → u.elem e = { s.elem e with failures := 0 })

/-- NODE RESET frees every active record with its span and keeps every IN_SERVICE record whole. For each aborted context,
in increasing handle order, a FAULT with cause NODE_RESET and this node as origin is handed to each port it has and a
safety block is placed. Every counter is 0 but for frames dropped at hand-over, every element's health OK, every
queued request dropped but for the aborted contexts' safety blocks, the transaction on the bus left to no requester,
the round-robin position MGMT; every ramp queue is empty, every turn free, no step in progress and no GET held back;
no
audit is pending or running;
the loaded tables, the allocation number, the overlay, link states and neighbours stay; the response is OK.
That the aborts leave no work to be done in the take is DEDUCED (log entry 13). -/
def Obligations.NodeResetAbortsActive : Prop :=
  ∀ (h : Hdr) (s : State), ForNode h s → ∃ t, exec (.nodeReset h []) s = .next (arbitrate (respond h 0x50 .ok [] t)) ∧
    (∀ n, t.ctx n = match s.ctx n with
      | some c => if c.st = .inService then some c else none
      | none => none) ∧
    (s.table.recs.wf → activeCount t = 0) ∧
    t.table.nextInst = s.table.nextInst ∧ t.table.closings = [] ∧
    (∀ f, (t.face f) = { s.face f with live := (t.face f).live }) ∧ t.dir.blocks = s.dir.blocks ∧
    (∀ page i, (t.entry page i) = { s.entry page i with kind := (t.entry page i).kind }) ∧
    t.ramp.profiles = s.ramp.profiles ∧ t.ramp.settings = s.ramp.settings ∧ t.switch = s.switch ∧
    t.resp = { s.resp with counters := ⟨0, 0, 0, 0, 0, 0, 0⟩ } ∧ t.pins = s.pins ∧ t.now = s.now ∧
    (∀ f, t.stray.get f = 0) ∧
    (∀ p, p ≤ 8 → (t.port p).link = (s.port p).link ∧ (t.port p).neighbour = (s.port p).neighbour ∧
      (t.port p).acq = (s.port p).acq ∧ (t.port p).helloTimer = (s.port p).helloTimer ∧
      (t.port p).deadTimer = (s.port p).deadTimer ∧ (t.port p).bulk = [] ∧
      (∀ f ∈ (t.port p).urgent, f.kind = .fault) ∧
      (t.port p).counters =
        { rx := 0, tx := 0, crc := 0, malformed := 0, notUp := (t.port p).counters.notUp,
          drop := (t.port p).counters.drop, hopLimit := 0 }) ∧
    (s.table.recs.wf →
      let aborted : List (Nat × Context) :=
        s.table.recs.cells.filterMap fun x => x.2.bind fun c => if c.st = .inService then none else some (x.1, c)
      let fault (c : Context) (travel : Direction) : Frame :=
        adjacentFrame .fault
          (e32 c.lpId ++ e8 Cause.nodeReset.code ++ e16 s.switch.nodeId ++ e8 travel.code) s
      let frames (p : Nat) (c : Context) : List Frame :=
        (if c.upPort = some p then [fault c .upstream] else []) ++
          (if c.downPort = some p then [fault c .downstream] else [])
      let block (x : Nat × Context) : Option (Nat → Request) :=
        (s.faceSet x.2.egress).wss.bind fun e =>
          if 31 < e ∧ (s.elem e).health = .failed then none
          else some fun stamp => ⟨.safety, stamp, e, .setBlock, x.2.work.dithering, x.2.first, x.2.count,
            .ctx x.1 x.2.inst .safety⟩
      (∀ p, p ≤ 8 → t.port p = (aborted.flatMap fun x => frames p x.2).foldl Port.hand
        { s.port p with urgent := [], bulk := [], counters := ⟨0, 0, 0, 0, 0, 0, 0⟩ }) ∧
      t.bus.safetyQ = ((aborted.filterMap block).take 16).zipIdx.map (fun x => x.1 (s.bus.seq + x.2)) ∧
      t.dir = (aborted.foldl (fun u x =>
        let v := freeSpan x.1 x.2.ingress x.2.egress x.2.first x.2.count u
        if x.2.st = .settled then lowerLive x.2.egress x.2.count v else v) s).dir) ∧
    (∀ f, t.rampFace f = ⟨[], none, false, false⟩) ∧
    (∀ e, e ≤ 31 → t.elem e = { s.elem e with health := .ok, failures := 0 }) ∧
    t.bus.onBus = s.bus.onBus.map (fun b => { b with orphan := true }) ∧ t.bus.last = s.bus.last ∧
    t.bus.rr = .mgmt ∧ t.bus.rampQ = [] ∧ t.bus.auditQ = [] ∧ t.bus.mgmtQ = [] ∧
    (∀ r ∈ t.bus.safetyQ, r.txn = .setBlock ∧ ∃ n c, s.ctx n = some c ∧ c.st ≠ .inService ∧
      r.first = c.first ∧ r.count = c.count ∧ r.dither = c.work.dithering ∧
      (s.faceSet c.egress).wss = some r.elem ∧ r.tag = .ctx n c.inst .safety) ∧
    ∀ f, f ≤ 11 → t.auditFace f =
      { timer := if 0 < (s.faceSet f).auditInterval then some (s.now + 1000 * (s.faceSet f).auditInterval)
          else (s.auditFace f).timer,
        pending := false, running := false, list := [], pos := 0, overruns := 0 }
end

