-- ==== Sys2Proof/Laws/Tab.lean ====
section
/-! SUPPORT. The laws of a table: a read after a write, the canonical form. -/

namespace Sys2Proof.Machine

variable {α : Type} {d : α}

theorem Tab.lookup_erase (k j : Nat) (l : List (Nat × α)) :
    Tab.lookup (Tab.erase k l) j = if j = k then none else Tab.lookup l j := by
  induction l with
  | nil => simp [Tab.erase, Tab.lookup]
  | cons c r ih =>
    obtain ⟨i, v⟩ := c
    simp only [Tab.erase] at ih
    by_cases hik : i = k <;> by_cases hij : i = j <;> simp_all [Tab.erase, Tab.lookup]

theorem Tab.lookup_insert (k j : Nat) (v : α) (l : List (Nat × α)) :
    Tab.lookup (Tab.insert k v l) j = if j = k then some v else Tab.lookup l j := by
  induction l with
  | nil => simp [Tab.insert, Tab.lookup, eq_comm]
  | cons c r ih =>
    obtain ⟨i, w⟩ := c
    simp only [Tab.insert]
    split
    · by_cases h : j = k <;> simp_all [Tab.lookup, eq_comm]
    · split
      · subst_vars
        by_cases h : j = i <;> simp_all [Tab.lookup, eq_comm]
      · by_cases h : i = j <;> simp_all [Tab.lookup]
        omega

/-- A record after a write: the written record at its number, every other as before. -/
@[simp] theorem Tab.get_set [DecidableEq α] (t : Tab d) (k j : Nat) (v : α) :
    (t.set k v).get j = if j = k then v else t.get j := by
  unfold Tab.set Tab.get
  split <;> simp only [Tab.lookup_erase, Tab.lookup_insert] <;> split <;> simp_all

@[simp] theorem Tab.get_mod [DecidableEq α] (t : Tab d) (k j : Nat) (g : α → α) :
    (t.mod k g).get j = if j = k then g (t.get k) else t.get j := by simp [Tab.mod]

@[simp] theorem Tab.get_empty (k : Nat) : (Tab.empty d).get k = d := rfl

theorem Tab.wf_empty : (Tab.empty d).wf := ⟨List.Pairwise.nil, fun _ hc => absurd hc List.not_mem_nil⟩

theorem Tab.mem_insert {k : Nat} {v : α} {l : List (Nat × α)} {c : Nat × α} (h : c ∈ Tab.insert k v l) :
    c = (k, v) ∨ c ∈ l := by
  induction l with
  | nil => simpa [Tab.insert] using h
  | cons b r ih =>
    simp only [Tab.insert] at h
    split at h
    · simpa using h
    · split at h <;> simp only [List.mem_cons] at h ⊢ <;> rcases h with h | h <;> simp_all
      rcases ih with h | h <;> simp_all

theorem Tab.pairwise_insert {k : Nat} {v : α} {l : List (Nat × α)} (h : l.Pairwise (fun a b => a.1 < b.1)) :
    (Tab.insert k v l).Pairwise (fun a b => a.1 < b.1) := by
  induction l with
  | nil => simp [Tab.insert]
  | cons b r ih =>
    obtain ⟨i, w⟩ := b
    simp only [List.pairwise_cons] at h
    simp only [Tab.insert]
    split
    · refine List.pairwise_cons.2 ⟨?_, List.pairwise_cons.2 h⟩
      intro c hc
      rcases List.mem_cons.1 hc with rfl | hc
      · assumption
      · exact lt_trans ‹k < i› (h.1 c hc)
    · split
      · subst_vars
        exact List.pairwise_cons.2 h
      · refine List.pairwise_cons.2 ⟨?_, ih h.2⟩
        intro c hc
        rcases Tab.mem_insert hc with rfl | hc
        · simp only; omega
        · exact h.1 c hc

/-- A write keeps the canonical form. -/
theorem Tab.wf_set [DecidableEq α] {t : Tab d} (h : t.wf) (k : Nat) (v : α) : (t.set k v).wf := by
  have he : (Tab.erase k t.cells).Pairwise (fun a b => a.1 < b.1) := List.Pairwise.sublist List.filter_sublist h.1
  have hm : ∀ c ∈ Tab.erase k t.cells, c.2 ≠ d := fun c hc => h.2 c (List.mem_of_mem_filter hc)
  unfold Tab.set
  split
  · exact ⟨he, hm⟩
  · refine ⟨Tab.pairwise_insert he, fun c hc => ?_⟩
    rcases Tab.mem_insert hc with rfl | hc
    · assumption
    · exact hm c hc

theorem Tab.wf_mod [DecidableEq α] {t : Tab d} (h : t.wf) (k : Nat) (g : α → α) : (t.mod k g).wf := Tab.wf_set h k _

/-- In canonical form, the listed records are exactly the reads that differ from the power-on record. -/
theorem Tab.mem_cells {t : Tab d} (h : t.wf) (k : Nat) (v : α) : (k, v) ∈ t.cells ↔ t.get k = v ∧ v ≠ d := by
  obtain ⟨l⟩ := t
  simp only [Tab.get]
  replace h : l.Pairwise (fun a b => a.1 < b.1) ∧ ∀ c ∈ l, c.2 ≠ d := h
  induction l with
  | nil => simp [Tab.lookup, eq_comm]
  | cons b r ih =>
    obtain ⟨i, w⟩ := b
    have hr := ih ⟨(List.pairwise_cons.1 h.1).2, fun c hc => h.2 c (List.mem_cons_of_mem _ hc)⟩
    have hlt := (List.pairwise_cons.1 h.1).1
    have hw : w ≠ d := h.2 (i, w) (by simp)
    simp only [Tab.lookup, List.mem_cons, Prod.mk.injEq]
    by_cases hi : i = k
    · subst hi
      simp only [true_and, if_true, Option.getD_some]
      constructor
      · rintro (rfl | hm)
        · exact ⟨rfl, hw⟩
        · exact absurd (hlt _ hm) (lt_irrefl _)
      · rintro ⟨rfl, -⟩
        exact Or.inl rfl
    · have : k ≠ i := fun e => hi e.symm
      simp [hi, this, hr]

theorem Tab.erase_insert (k : Nat) (v : α) (l : List (Nat × α)) (h : ∀ c ∈ l, c.1 ≠ k) :
    Tab.erase k (Tab.insert k v l) = l := by
  induction l with
  | nil => simp [Tab.insert, Tab.erase]
  | cons b r ih =>
    obtain ⟨i, w⟩ := b
    have hi : i ≠ k := h (i, w) (by simp)
    have hr : ∀ c ∈ r, c.1 ≠ k := fun c hc => h c (List.mem_cons_of_mem _ hc)
    have he : r.filter (fun c => decide (c.1 ≠ k)) = r := by
      rw [List.filter_eq_self]
      intro c hc
      simpa using hr c hc
    have ih := ih hr
    simp only [Tab.erase] at ih ⊢
    simp only [Tab.insert]
    split
    · simpa [hi] using hr
    · split <;> simp_all

theorem Tab.erase_erase (k : Nat) (l : List (Nat × α)) : Tab.erase k (Tab.erase k l) = Tab.erase k l := by
  simp [Tab.erase]

theorem Tab.erase_of_set [DecidableEq α] (t : Tab d) (k : Nat) (v : α) :
    Tab.erase k (t.set k v).cells = Tab.erase k t.cells := by
  unfold Tab.set
  split
  · exact Tab.erase_erase k _
  · exact Tab.erase_insert k v _ (fun c hc => by simpa using List.of_mem_filter hc)

/-- Of two writes at one number the later stands. -/
@[simp] theorem Tab.set_set [DecidableEq α] (t : Tab d) (k : Nat) (v w : α) : (t.set k v).set k w = t.set k w := by
  have h := Tab.erase_of_set t k v
  rw [Tab.set, h, Tab.set]

@[simp] theorem Tab.mod_mod [DecidableEq α] (t : Tab d) (k : Nat) (f g : α → α) :
    (t.mod k f).mod k g = t.mod k (fun x => g (f x)) := by simp [Tab.mod]

@[simp] theorem Tab.mod_set [DecidableEq α] (t : Tab d) (k : Nat) (v : α) (g : α → α) :
    (t.set k v).mod k g = t.set k (g v) := by simp [Tab.mod]

end Sys2Proof.Machine
end

