-- ==== Sys2Proof/Laws/State.lean ====
section
/-! SUPPORT. What each update of the state changes and what it leaves: one lemma per field. -/

namespace Sys2Proof.Machine.State

variable (s : State)

/-! ## setCtx -/

@[simp] theorem setCtx_now (h : Nat) (c : Option Context) : (s.setCtx h c).now = s.now := rfl
@[simp] theorem setCtx_pins (h : Nat) (c : Option Context) : (s.setCtx h c).pins = s.pins := rfl
@[simp] theorem setCtx_dir (h : Nat) (c : Option Context) : (s.setCtx h c).dir = s.dir := rfl
@[simp] theorem setCtx_table_nextInst (h : Nat) (c : Option Context) : (s.setCtx h c).table.nextInst = s.table.nextInst := rfl
@[simp] theorem setCtx_table_closings (h : Nat) (c : Option Context) : (s.setCtx h c).table.closings = s.table.closings := rfl
@[simp] theorem setCtx_stray (h : Nat) (c : Option Context) : (s.setCtx h c).stray = s.stray := rfl
@[simp] theorem setCtx_ramp (h : Nat) (c : Option Context) : (s.setCtx h c).ramp = s.ramp := rfl
@[simp] theorem setCtx_audit (h : Nat) (c : Option Context) : (s.setCtx h c).audit = s.audit := rfl
@[simp] theorem setCtx_bus (h : Nat) (c : Option Context) : (s.setCtx h c).bus = s.bus := rfl
@[simp] theorem setCtx_ports (h : Nat) (c : Option Context) : (s.setCtx h c).ports = s.ports := rfl
@[simp] theorem setCtx_switch (h : Nat) (c : Option Context) : (s.setCtx h c).switch = s.switch := rfl
@[simp] theorem setCtx_resp (h : Nat) (c : Option Context) : (s.setCtx h c).resp = s.resp := rfl
@[simp] theorem setCtx_work (h : Nat) (c : Option Context) : (s.setCtx h c).work = s.work := rfl
@[simp] theorem setCtx_told (h : Nat) (c : Option Context) : (s.setCtx h c).told = s.told := rfl
@[simp] theorem setCtx_pending (h : Nat) (c : Option Context) : (s.setCtx h c).pending = s.pending := rfl
@[simp] theorem setCtx_port (h : Nat) (c : Option Context) (j : Nat) : (s.setCtx h c).port j = s.port j := rfl
@[simp] theorem setCtx_face (h : Nat) (c : Option Context) (j : Nat) : (s.setCtx h c).face j = s.face j := rfl
@[simp] theorem setCtx_block (h : Nat) (c : Option Context) (j k : Nat) : (s.setCtx h c).block j k = s.block j k := rfl
@[simp] theorem setCtx_entry (h : Nat) (c : Option Context) (j k : Nat) : (s.setCtx h c).entry j k = s.entry j k := rfl
@[simp] theorem setCtx_profile (h : Nat) (c : Option Context) (j : Nat) : (s.setCtx h c).profile j = s.profile j := rfl
@[simp] theorem setCtx_faceSet (h : Nat) (c : Option Context) (j : Nat) : (s.setCtx h c).faceSet j = s.faceSet j := rfl
@[simp] theorem setCtx_rampFace (h : Nat) (c : Option Context) (j : Nat) : (s.setCtx h c).rampFace j = s.rampFace j := rfl
@[simp] theorem setCtx_auditFace (h : Nat) (c : Option Context) (j : Nat) : (s.setCtx h c).auditFace j = s.auditFace j := rfl
@[simp] theorem setCtx_elem (h : Nat) (c : Option Context) (j : Nat) : (s.setCtx h c).elem j = s.elem j := rfl

/-! ## modCtx -/

@[simp] theorem modCtx_now (h : Nat) (g : Context → Context) : (s.modCtx h g).now = s.now := rfl
@[simp] theorem modCtx_pins (h : Nat) (g : Context → Context) : (s.modCtx h g).pins = s.pins := rfl
@[simp] theorem modCtx_dir (h : Nat) (g : Context → Context) : (s.modCtx h g).dir = s.dir := rfl
@[simp] theorem modCtx_table_nextInst (h : Nat) (g : Context → Context) : (s.modCtx h g).table.nextInst = s.table.nextInst := rfl
@[simp] theorem modCtx_table_closings (h : Nat) (g : Context → Context) : (s.modCtx h g).table.closings = s.table.closings := rfl
@[simp] theorem modCtx_stray (h : Nat) (g : Context → Context) : (s.modCtx h g).stray = s.stray := rfl
@[simp] theorem modCtx_ramp (h : Nat) (g : Context → Context) : (s.modCtx h g).ramp = s.ramp := rfl
@[simp] theorem modCtx_audit (h : Nat) (g : Context → Context) : (s.modCtx h g).audit = s.audit := rfl
@[simp] theorem modCtx_bus (h : Nat) (g : Context → Context) : (s.modCtx h g).bus = s.bus := rfl
@[simp] theorem modCtx_ports (h : Nat) (g : Context → Context) : (s.modCtx h g).ports = s.ports := rfl
@[simp] theorem modCtx_switch (h : Nat) (g : Context → Context) : (s.modCtx h g).switch = s.switch := rfl
@[simp] theorem modCtx_resp (h : Nat) (g : Context → Context) : (s.modCtx h g).resp = s.resp := rfl
@[simp] theorem modCtx_work (h : Nat) (g : Context → Context) : (s.modCtx h g).work = s.work := rfl
@[simp] theorem modCtx_told (h : Nat) (g : Context → Context) : (s.modCtx h g).told = s.told := rfl
@[simp] theorem modCtx_pending (h : Nat) (g : Context → Context) : (s.modCtx h g).pending = s.pending := rfl
@[simp] theorem modCtx_port (h : Nat) (g : Context → Context) (j : Nat) : (s.modCtx h g).port j = s.port j := rfl
@[simp] theorem modCtx_face (h : Nat) (g : Context → Context) (j : Nat) : (s.modCtx h g).face j = s.face j := rfl
@[simp] theorem modCtx_block (h : Nat) (g : Context → Context) (j k : Nat) : (s.modCtx h g).block j k = s.block j k := rfl
@[simp] theorem modCtx_entry (h : Nat) (g : Context → Context) (j k : Nat) : (s.modCtx h g).entry j k = s.entry j k := rfl
@[simp] theorem modCtx_profile (h : Nat) (g : Context → Context) (j : Nat) : (s.modCtx h g).profile j = s.profile j := rfl
@[simp] theorem modCtx_faceSet (h : Nat) (g : Context → Context) (j : Nat) : (s.modCtx h g).faceSet j = s.faceSet j := rfl
@[simp] theorem modCtx_rampFace (h : Nat) (g : Context → Context) (j : Nat) : (s.modCtx h g).rampFace j = s.rampFace j := rfl
@[simp] theorem modCtx_auditFace (h : Nat) (g : Context → Context) (j : Nat) : (s.modCtx h g).auditFace j = s.auditFace j := rfl
@[simp] theorem modCtx_elem (h : Nat) (g : Context → Context) (j : Nat) : (s.modCtx h g).elem j = s.elem j := rfl

/-! ## modPort -/

@[simp] theorem modPort_now (p : Nat) (g : Port → Port) : (s.modPort p g).now = s.now := rfl
@[simp] theorem modPort_pins (p : Nat) (g : Port → Port) : (s.modPort p g).pins = s.pins := rfl
@[simp] theorem modPort_dir (p : Nat) (g : Port → Port) : (s.modPort p g).dir = s.dir := rfl
@[simp] theorem modPort_table (p : Nat) (g : Port → Port) : (s.modPort p g).table = s.table := rfl
@[simp] theorem modPort_stray (p : Nat) (g : Port → Port) : (s.modPort p g).stray = s.stray := rfl
@[simp] theorem modPort_ramp (p : Nat) (g : Port → Port) : (s.modPort p g).ramp = s.ramp := rfl
@[simp] theorem modPort_audit (p : Nat) (g : Port → Port) : (s.modPort p g).audit = s.audit := rfl
@[simp] theorem modPort_bus (p : Nat) (g : Port → Port) : (s.modPort p g).bus = s.bus := rfl
@[simp] theorem modPort_switch (p : Nat) (g : Port → Port) : (s.modPort p g).switch = s.switch := rfl
@[simp] theorem modPort_resp (p : Nat) (g : Port → Port) : (s.modPort p g).resp = s.resp := rfl
@[simp] theorem modPort_work (p : Nat) (g : Port → Port) : (s.modPort p g).work = s.work := rfl
@[simp] theorem modPort_told (p : Nat) (g : Port → Port) : (s.modPort p g).told = s.told := rfl
@[simp] theorem modPort_pending (p : Nat) (g : Port → Port) : (s.modPort p g).pending = s.pending := rfl
@[simp] theorem modPort_ctx (p : Nat) (g : Port → Port) (j : Nat) : (s.modPort p g).ctx j = s.ctx j := rfl
@[simp] theorem modPort_face (p : Nat) (g : Port → Port) (j : Nat) : (s.modPort p g).face j = s.face j := rfl
@[simp] theorem modPort_block (p : Nat) (g : Port → Port) (j k : Nat) : (s.modPort p g).block j k = s.block j k := rfl
@[simp] theorem modPort_entry (p : Nat) (g : Port → Port) (j k : Nat) : (s.modPort p g).entry j k = s.entry j k := rfl
@[simp] theorem modPort_profile (p : Nat) (g : Port → Port) (j : Nat) : (s.modPort p g).profile j = s.profile j := rfl
@[simp] theorem modPort_faceSet (p : Nat) (g : Port → Port) (j : Nat) : (s.modPort p g).faceSet j = s.faceSet j := rfl
@[simp] theorem modPort_rampFace (p : Nat) (g : Port → Port) (j : Nat) : (s.modPort p g).rampFace j = s.rampFace j := rfl
@[simp] theorem modPort_auditFace (p : Nat) (g : Port → Port) (j : Nat) : (s.modPort p g).auditFace j = s.auditFace j := rfl
@[simp] theorem modPort_elem (p : Nat) (g : Port → Port) (j : Nat) : (s.modPort p g).elem j = s.elem j := rfl

/-! ## modFace -/

@[simp] theorem modFace_now (f : Nat) (g : FaceDesc → FaceDesc) : (s.modFace f g).now = s.now := rfl
@[simp] theorem modFace_pins (f : Nat) (g : FaceDesc → FaceDesc) : (s.modFace f g).pins = s.pins := rfl
@[simp] theorem modFace_dir_blocks (f : Nat) (g : FaceDesc → FaceDesc) : (s.modFace f g).dir.blocks = s.dir.blocks := rfl
@[simp] theorem modFace_dir_entries (f : Nat) (g : FaceDesc → FaceDesc) : (s.modFace f g).dir.entries = s.dir.entries := rfl
@[simp] theorem modFace_table (f : Nat) (g : FaceDesc → FaceDesc) : (s.modFace f g).table = s.table := rfl
@[simp] theorem modFace_stray (f : Nat) (g : FaceDesc → FaceDesc) : (s.modFace f g).stray = s.stray := rfl
@[simp] theorem modFace_ramp (f : Nat) (g : FaceDesc → FaceDesc) : (s.modFace f g).ramp = s.ramp := rfl
@[simp] theorem modFace_audit (f : Nat) (g : FaceDesc → FaceDesc) : (s.modFace f g).audit = s.audit := rfl
@[simp] theorem modFace_bus (f : Nat) (g : FaceDesc → FaceDesc) : (s.modFace f g).bus = s.bus := rfl
@[simp] theorem modFace_ports (f : Nat) (g : FaceDesc → FaceDesc) : (s.modFace f g).ports = s.ports := rfl
@[simp] theorem modFace_switch (f : Nat) (g : FaceDesc → FaceDesc) : (s.modFace f g).switch = s.switch := rfl
@[simp] theorem modFace_resp (f : Nat) (g : FaceDesc → FaceDesc) : (s.modFace f g).resp = s.resp := rfl
@[simp] theorem modFace_work (f : Nat) (g : FaceDesc → FaceDesc) : (s.modFace f g).work = s.work := rfl
@[simp] theorem modFace_told (f : Nat) (g : FaceDesc → FaceDesc) : (s.modFace f g).told = s.told := rfl
@[simp] theorem modFace_pending (f : Nat) (g : FaceDesc → FaceDesc) : (s.modFace f g).pending = s.pending := rfl
@[simp] theorem modFace_ctx (f : Nat) (g : FaceDesc → FaceDesc) (j : Nat) : (s.modFace f g).ctx j = s.ctx j := rfl
@[simp] theorem modFace_port (f : Nat) (g : FaceDesc → FaceDesc) (j : Nat) : (s.modFace f g).port j = s.port j := rfl
@[simp] theorem modFace_block (f : Nat) (g : FaceDesc → FaceDesc) (j k : Nat) : (s.modFace f g).block j k = s.block j k := rfl
@[simp] theorem modFace_entry (f : Nat) (g : FaceDesc → FaceDesc) (j k : Nat) : (s.modFace f g).entry j k = s.entry j k := rfl
@[simp] theorem modFace_profile (f : Nat) (g : FaceDesc → FaceDesc) (j : Nat) : (s.modFace f g).profile j = s.profile j := rfl
@[simp] theorem modFace_faceSet (f : Nat) (g : FaceDesc → FaceDesc) (j : Nat) : (s.modFace f g).faceSet j = s.faceSet j := rfl
@[simp] theorem modFace_rampFace (f : Nat) (g : FaceDesc → FaceDesc) (j : Nat) : (s.modFace f g).rampFace j = s.rampFace j := rfl
@[simp] theorem modFace_auditFace (f : Nat) (g : FaceDesc → FaceDesc) (j : Nat) : (s.modFace f g).auditFace j = s.auditFace j := rfl
@[simp] theorem modFace_elem (f : Nat) (g : FaceDesc → FaceDesc) (j : Nat) : (s.modFace f g).elem j = s.elem j := rfl

/-! ## modBlock -/

@[simp] theorem modBlock_now (f b : Nat) (g : BlockDesc → BlockDesc) : (s.modBlock f b g).now = s.now := rfl
@[simp] theorem modBlock_pins (f b : Nat) (g : BlockDesc → BlockDesc) : (s.modBlock f b g).pins = s.pins := rfl
@[simp] theorem modBlock_dir_faces (f b : Nat) (g : BlockDesc → BlockDesc) : (s.modBlock f b g).dir.faces = s.dir.faces := rfl
@[simp] theorem modBlock_dir_entries (f b : Nat) (g : BlockDesc → BlockDesc) : (s.modBlock f b g).dir.entries = s.dir.entries := rfl
@[simp] theorem modBlock_table (f b : Nat) (g : BlockDesc → BlockDesc) : (s.modBlock f b g).table = s.table := rfl
@[simp] theorem modBlock_stray (f b : Nat) (g : BlockDesc → BlockDesc) : (s.modBlock f b g).stray = s.stray := rfl
@[simp] theorem modBlock_ramp (f b : Nat) (g : BlockDesc → BlockDesc) : (s.modBlock f b g).ramp = s.ramp := rfl
@[simp] theorem modBlock_audit (f b : Nat) (g : BlockDesc → BlockDesc) : (s.modBlock f b g).audit = s.audit := rfl
@[simp] theorem modBlock_bus (f b : Nat) (g : BlockDesc → BlockDesc) : (s.modBlock f b g).bus = s.bus := rfl
@[simp] theorem modBlock_ports (f b : Nat) (g : BlockDesc → BlockDesc) : (s.modBlock f b g).ports = s.ports := rfl
@[simp] theorem modBlock_switch (f b : Nat) (g : BlockDesc → BlockDesc) : (s.modBlock f b g).switch = s.switch := rfl
@[simp] theorem modBlock_resp (f b : Nat) (g : BlockDesc → BlockDesc) : (s.modBlock f b g).resp = s.resp := rfl
@[simp] theorem modBlock_work (f b : Nat) (g : BlockDesc → BlockDesc) : (s.modBlock f b g).work = s.work := rfl
@[simp] theorem modBlock_told (f b : Nat) (g : BlockDesc → BlockDesc) : (s.modBlock f b g).told = s.told := rfl
@[simp] theorem modBlock_pending (f b : Nat) (g : BlockDesc → BlockDesc) : (s.modBlock f b g).pending = s.pending := rfl
@[simp] theorem modBlock_ctx (f b : Nat) (g : BlockDesc → BlockDesc) (j : Nat) : (s.modBlock f b g).ctx j = s.ctx j := rfl
@[simp] theorem modBlock_port (f b : Nat) (g : BlockDesc → BlockDesc) (j : Nat) : (s.modBlock f b g).port j = s.port j := rfl
@[simp] theorem modBlock_face (f b : Nat) (g : BlockDesc → BlockDesc) (j : Nat) : (s.modBlock f b g).face j = s.face j := rfl
@[simp] theorem modBlock_entry (f b : Nat) (g : BlockDesc → BlockDesc) (j k : Nat) : (s.modBlock f b g).entry j k = s.entry j k := rfl
@[simp] theorem modBlock_profile (f b : Nat) (g : BlockDesc → BlockDesc) (j : Nat) : (s.modBlock f b g).profile j = s.profile j := rfl
@[simp] theorem modBlock_faceSet (f b : Nat) (g : BlockDesc → BlockDesc) (j : Nat) : (s.modBlock f b g).faceSet j = s.faceSet j := rfl
@[simp] theorem modBlock_rampFace (f b : Nat) (g : BlockDesc → BlockDesc) (j : Nat) : (s.modBlock f b g).rampFace j = s.rampFace j := rfl
@[simp] theorem modBlock_auditFace (f b : Nat) (g : BlockDesc → BlockDesc) (j : Nat) : (s.modBlock f b g).auditFace j = s.auditFace j := rfl
@[simp] theorem modBlock_elem (f b : Nat) (g : BlockDesc → BlockDesc) (j : Nat) : (s.modBlock f b g).elem j = s.elem j := rfl

/-! ## modEntry -/

@[simp] theorem modEntry_now (key : Nat) (g : SlotEntry → SlotEntry) : (s.modEntry key g).now = s.now := rfl
@[simp] theorem modEntry_pins (key : Nat) (g : SlotEntry → SlotEntry) : (s.modEntry key g).pins = s.pins := rfl
@[simp] theorem modEntry_dir_faces (key : Nat) (g : SlotEntry → SlotEntry) : (s.modEntry key g).dir.faces = s.dir.faces := rfl
@[simp] theorem modEntry_dir_blocks (key : Nat) (g : SlotEntry → SlotEntry) : (s.modEntry key g).dir.blocks = s.dir.blocks := rfl
@[simp] theorem modEntry_table (key : Nat) (g : SlotEntry → SlotEntry) : (s.modEntry key g).table = s.table := rfl
@[simp] theorem modEntry_stray (key : Nat) (g : SlotEntry → SlotEntry) : (s.modEntry key g).stray = s.stray := rfl
@[simp] theorem modEntry_ramp (key : Nat) (g : SlotEntry → SlotEntry) : (s.modEntry key g).ramp = s.ramp := rfl
@[simp] theorem modEntry_audit (key : Nat) (g : SlotEntry → SlotEntry) : (s.modEntry key g).audit = s.audit := rfl
@[simp] theorem modEntry_bus (key : Nat) (g : SlotEntry → SlotEntry) : (s.modEntry key g).bus = s.bus := rfl
@[simp] theorem modEntry_ports (key : Nat) (g : SlotEntry → SlotEntry) : (s.modEntry key g).ports = s.ports := rfl
@[simp] theorem modEntry_switch (key : Nat) (g : SlotEntry → SlotEntry) : (s.modEntry key g).switch = s.switch := rfl
@[simp] theorem modEntry_resp (key : Nat) (g : SlotEntry → SlotEntry) : (s.modEntry key g).resp = s.resp := rfl
@[simp] theorem modEntry_work (key : Nat) (g : SlotEntry → SlotEntry) : (s.modEntry key g).work = s.work := rfl
@[simp] theorem modEntry_told (key : Nat) (g : SlotEntry → SlotEntry) : (s.modEntry key g).told = s.told := rfl
@[simp] theorem modEntry_pending (key : Nat) (g : SlotEntry → SlotEntry) : (s.modEntry key g).pending = s.pending := rfl
@[simp] theorem modEntry_ctx (key : Nat) (g : SlotEntry → SlotEntry) (j : Nat) : (s.modEntry key g).ctx j = s.ctx j := rfl
@[simp] theorem modEntry_port (key : Nat) (g : SlotEntry → SlotEntry) (j : Nat) : (s.modEntry key g).port j = s.port j := rfl
@[simp] theorem modEntry_face (key : Nat) (g : SlotEntry → SlotEntry) (j : Nat) : (s.modEntry key g).face j = s.face j := rfl
@[simp] theorem modEntry_block (key : Nat) (g : SlotEntry → SlotEntry) (j k : Nat) : (s.modEntry key g).block j k = s.block j k := rfl
@[simp] theorem modEntry_profile (key : Nat) (g : SlotEntry → SlotEntry) (j : Nat) : (s.modEntry key g).profile j = s.profile j := rfl
@[simp] theorem modEntry_faceSet (key : Nat) (g : SlotEntry → SlotEntry) (j : Nat) : (s.modEntry key g).faceSet j = s.faceSet j := rfl
@[simp] theorem modEntry_rampFace (key : Nat) (g : SlotEntry → SlotEntry) (j : Nat) : (s.modEntry key g).rampFace j = s.rampFace j := rfl
@[simp] theorem modEntry_auditFace (key : Nat) (g : SlotEntry → SlotEntry) (j : Nat) : (s.modEntry key g).auditFace j = s.auditFace j := rfl
@[simp] theorem modEntry_elem (key : Nat) (g : SlotEntry → SlotEntry) (j : Nat) : (s.modEntry key g).elem j = s.elem j := rfl

/-! ## setProfile -/

@[simp] theorem setProfile_now (n : Nat) (p : Profile) : (s.setProfile n p).now = s.now := rfl
@[simp] theorem setProfile_pins (n : Nat) (p : Profile) : (s.setProfile n p).pins = s.pins := rfl
@[simp] theorem setProfile_dir (n : Nat) (p : Profile) : (s.setProfile n p).dir = s.dir := rfl
@[simp] theorem setProfile_table (n : Nat) (p : Profile) : (s.setProfile n p).table = s.table := rfl
@[simp] theorem setProfile_stray (n : Nat) (p : Profile) : (s.setProfile n p).stray = s.stray := rfl
@[simp] theorem setProfile_ramp_settings (n : Nat) (p : Profile) : (s.setProfile n p).ramp.settings = s.ramp.settings := rfl
@[simp] theorem setProfile_ramp_faces (n : Nat) (p : Profile) : (s.setProfile n p).ramp.faces = s.ramp.faces := rfl
@[simp] theorem setProfile_audit (n : Nat) (p : Profile) : (s.setProfile n p).audit = s.audit := rfl
@[simp] theorem setProfile_bus (n : Nat) (p : Profile) : (s.setProfile n p).bus = s.bus := rfl
@[simp] theorem setProfile_ports (n : Nat) (p : Profile) : (s.setProfile n p).ports = s.ports := rfl
@[simp] theorem setProfile_switch (n : Nat) (p : Profile) : (s.setProfile n p).switch = s.switch := rfl
@[simp] theorem setProfile_resp (n : Nat) (p : Profile) : (s.setProfile n p).resp = s.resp := rfl
@[simp] theorem setProfile_work (n : Nat) (p : Profile) : (s.setProfile n p).work = s.work := rfl
@[simp] theorem setProfile_told (n : Nat) (p : Profile) : (s.setProfile n p).told = s.told := rfl
@[simp] theorem setProfile_pending (n : Nat) (p : Profile) : (s.setProfile n p).pending = s.pending := rfl
@[simp] theorem setProfile_ctx (n : Nat) (p : Profile) (j : Nat) : (s.setProfile n p).ctx j = s.ctx j := rfl
@[simp] theorem setProfile_port (n : Nat) (p : Profile) (j : Nat) : (s.setProfile n p).port j = s.port j := rfl
@[simp] theorem setProfile_face (n : Nat) (p : Profile) (j : Nat) : (s.setProfile n p).face j = s.face j := rfl
@[simp] theorem setProfile_block (n : Nat) (p : Profile) (j k : Nat) : (s.setProfile n p).block j k = s.block j k := rfl
@[simp] theorem setProfile_entry (n : Nat) (p : Profile) (j k : Nat) : (s.setProfile n p).entry j k = s.entry j k := rfl
@[simp] theorem setProfile_faceSet (n : Nat) (p : Profile) (j : Nat) : (s.setProfile n p).faceSet j = s.faceSet j := rfl
@[simp] theorem setProfile_rampFace (n : Nat) (p : Profile) (j : Nat) : (s.setProfile n p).rampFace j = s.rampFace j := rfl
@[simp] theorem setProfile_auditFace (n : Nat) (p : Profile) (j : Nat) : (s.setProfile n p).auditFace j = s.auditFace j := rfl
@[simp] theorem setProfile_elem (n : Nat) (p : Profile) (j : Nat) : (s.setProfile n p).elem j = s.elem j := rfl

/-! ## setFaceSet -/

@[simp] theorem setFaceSet_now (f : Nat) (x : FaceSettings) : (s.setFaceSet f x).now = s.now := rfl
@[simp] theorem setFaceSet_pins (f : Nat) (x : FaceSettings) : (s.setFaceSet f x).pins = s.pins := rfl
@[simp] theorem setFaceSet_dir (f : Nat) (x : FaceSettings) : (s.setFaceSet f x).dir = s.dir := rfl
@[simp] theorem setFaceSet_table (f : Nat) (x : FaceSettings) : (s.setFaceSet f x).table = s.table := rfl
@[simp] theorem setFaceSet_stray (f : Nat) (x : FaceSettings) : (s.setFaceSet f x).stray = s.stray := rfl
@[simp] theorem setFaceSet_ramp_profiles (f : Nat) (x : FaceSettings) : (s.setFaceSet f x).ramp.profiles = s.ramp.profiles := rfl
@[simp] theorem setFaceSet_ramp_faces (f : Nat) (x : FaceSettings) : (s.setFaceSet f x).ramp.faces = s.ramp.faces := rfl
@[simp] theorem setFaceSet_audit (f : Nat) (x : FaceSettings) : (s.setFaceSet f x).audit = s.audit := rfl
@[simp] theorem setFaceSet_bus (f : Nat) (x : FaceSettings) : (s.setFaceSet f x).bus = s.bus := rfl
@[simp] theorem setFaceSet_ports (f : Nat) (x : FaceSettings) : (s.setFaceSet f x).ports = s.ports := rfl
@[simp] theorem setFaceSet_switch (f : Nat) (x : FaceSettings) : (s.setFaceSet f x).switch = s.switch := rfl
@[simp] theorem setFaceSet_resp (f : Nat) (x : FaceSettings) : (s.setFaceSet f x).resp = s.resp := rfl
@[simp] theorem setFaceSet_work (f : Nat) (x : FaceSettings) : (s.setFaceSet f x).work = s.work := rfl
@[simp] theorem setFaceSet_told (f : Nat) (x : FaceSettings) : (s.setFaceSet f x).told = s.told := rfl
@[simp] theorem setFaceSet_pending (f : Nat) (x : FaceSettings) : (s.setFaceSet f x).pending = s.pending := rfl
@[simp] theorem setFaceSet_ctx (f : Nat) (x : FaceSettings) (j : Nat) : (s.setFaceSet f x).ctx j = s.ctx j := rfl
@[simp] theorem setFaceSet_port (f : Nat) (x : FaceSettings) (j : Nat) : (s.setFaceSet f x).port j = s.port j := rfl
@[simp] theorem setFaceSet_face (f : Nat) (x : FaceSettings) (j : Nat) : (s.setFaceSet f x).face j = s.face j := rfl
@[simp] theorem setFaceSet_block (f : Nat) (x : FaceSettings) (j k : Nat) : (s.setFaceSet f x).block j k = s.block j k := rfl
@[simp] theorem setFaceSet_entry (f : Nat) (x : FaceSettings) (j k : Nat) : (s.setFaceSet f x).entry j k = s.entry j k := rfl
@[simp] theorem setFaceSet_profile (f : Nat) (x : FaceSettings) (j : Nat) : (s.setFaceSet f x).profile j = s.profile j := rfl
@[simp] theorem setFaceSet_rampFace (f : Nat) (x : FaceSettings) (j : Nat) : (s.setFaceSet f x).rampFace j = s.rampFace j := rfl
@[simp] theorem setFaceSet_auditFace (f : Nat) (x : FaceSettings) (j : Nat) : (s.setFaceSet f x).auditFace j = s.auditFace j := rfl
@[simp] theorem setFaceSet_elem (f : Nat) (x : FaceSettings) (j : Nat) : (s.setFaceSet f x).elem j = s.elem j := rfl

/-! ## modRamp -/

@[simp] theorem modRamp_now (f : Nat) (g : RampFace → RampFace) : (s.modRamp f g).now = s.now := rfl
@[simp] theorem modRamp_pins (f : Nat) (g : RampFace → RampFace) : (s.modRamp f g).pins = s.pins := rfl
@[simp] theorem modRamp_dir (f : Nat) (g : RampFace → RampFace) : (s.modRamp f g).dir = s.dir := rfl
@[simp] theorem modRamp_table (f : Nat) (g : RampFace → RampFace) : (s.modRamp f g).table = s.table := rfl
@[simp] theorem modRamp_stray (f : Nat) (g : RampFace → RampFace) : (s.modRamp f g).stray = s.stray := rfl
@[simp] theorem modRamp_ramp_profiles (f : Nat) (g : RampFace → RampFace) : (s.modRamp f g).ramp.profiles = s.ramp.profiles := rfl
@[simp] theorem modRamp_ramp_settings (f : Nat) (g : RampFace → RampFace) : (s.modRamp f g).ramp.settings = s.ramp.settings := rfl
@[simp] theorem modRamp_audit (f : Nat) (g : RampFace → RampFace) : (s.modRamp f g).audit = s.audit := rfl
@[simp] theorem modRamp_bus (f : Nat) (g : RampFace → RampFace) : (s.modRamp f g).bus = s.bus := rfl
@[simp] theorem modRamp_ports (f : Nat) (g : RampFace → RampFace) : (s.modRamp f g).ports = s.ports := rfl
@[simp] theorem modRamp_switch (f : Nat) (g : RampFace → RampFace) : (s.modRamp f g).switch = s.switch := rfl
@[simp] theorem modRamp_resp (f : Nat) (g : RampFace → RampFace) : (s.modRamp f g).resp = s.resp := rfl
@[simp] theorem modRamp_work (f : Nat) (g : RampFace → RampFace) : (s.modRamp f g).work = s.work := rfl
@[simp] theorem modRamp_told (f : Nat) (g : RampFace → RampFace) : (s.modRamp f g).told = s.told := rfl
@[simp] theorem modRamp_pending (f : Nat) (g : RampFace → RampFace) : (s.modRamp f g).pending = s.pending := rfl
@[simp] theorem modRamp_ctx (f : Nat) (g : RampFace → RampFace) (j : Nat) : (s.modRamp f g).ctx j = s.ctx j := rfl
@[simp] theorem modRamp_port (f : Nat) (g : RampFace → RampFace) (j : Nat) : (s.modRamp f g).port j = s.port j := rfl
@[simp] theorem modRamp_face (f : Nat) (g : RampFace → RampFace) (j : Nat) : (s.modRamp f g).face j = s.face j := rfl
@[simp] theorem modRamp_block (f : Nat) (g : RampFace → RampFace) (j k : Nat) : (s.modRamp f g).block j k = s.block j k := rfl
@[simp] theorem modRamp_entry (f : Nat) (g : RampFace → RampFace) (j k : Nat) : (s.modRamp f g).entry j k = s.entry j k := rfl
@[simp] theorem modRamp_profile (f : Nat) (g : RampFace → RampFace) (j : Nat) : (s.modRamp f g).profile j = s.profile j := rfl
@[simp] theorem modRamp_faceSet (f : Nat) (g : RampFace → RampFace) (j : Nat) : (s.modRamp f g).faceSet j = s.faceSet j := rfl
@[simp] theorem modRamp_auditFace (f : Nat) (g : RampFace → RampFace) (j : Nat) : (s.modRamp f g).auditFace j = s.auditFace j := rfl
@[simp] theorem modRamp_elem (f : Nat) (g : RampFace → RampFace) (j : Nat) : (s.modRamp f g).elem j = s.elem j := rfl

/-! ## modAudit -/

@[simp] theorem modAudit_now (f : Nat) (g : AuditFace → AuditFace) : (s.modAudit f g).now = s.now := rfl
@[simp] theorem modAudit_pins (f : Nat) (g : AuditFace → AuditFace) : (s.modAudit f g).pins = s.pins := rfl
@[simp] theorem modAudit_dir (f : Nat) (g : AuditFace → AuditFace) : (s.modAudit f g).dir = s.dir := rfl
@[simp] theorem modAudit_table (f : Nat) (g : AuditFace → AuditFace) : (s.modAudit f g).table = s.table := rfl
@[simp] theorem modAudit_stray (f : Nat) (g : AuditFace → AuditFace) : (s.modAudit f g).stray = s.stray := rfl
@[simp] theorem modAudit_ramp (f : Nat) (g : AuditFace → AuditFace) : (s.modAudit f g).ramp = s.ramp := rfl
@[simp] theorem modAudit_bus (f : Nat) (g : AuditFace → AuditFace) : (s.modAudit f g).bus = s.bus := rfl
@[simp] theorem modAudit_ports (f : Nat) (g : AuditFace → AuditFace) : (s.modAudit f g).ports = s.ports := rfl
@[simp] theorem modAudit_switch (f : Nat) (g : AuditFace → AuditFace) : (s.modAudit f g).switch = s.switch := rfl
@[simp] theorem modAudit_resp (f : Nat) (g : AuditFace → AuditFace) : (s.modAudit f g).resp = s.resp := rfl
@[simp] theorem modAudit_work (f : Nat) (g : AuditFace → AuditFace) : (s.modAudit f g).work = s.work := rfl
@[simp] theorem modAudit_told (f : Nat) (g : AuditFace → AuditFace) : (s.modAudit f g).told = s.told := rfl
@[simp] theorem modAudit_pending (f : Nat) (g : AuditFace → AuditFace) : (s.modAudit f g).pending = s.pending := rfl
@[simp] theorem modAudit_ctx (f : Nat) (g : AuditFace → AuditFace) (j : Nat) : (s.modAudit f g).ctx j = s.ctx j := rfl
@[simp] theorem modAudit_port (f : Nat) (g : AuditFace → AuditFace) (j : Nat) : (s.modAudit f g).port j = s.port j := rfl
@[simp] theorem modAudit_face (f : Nat) (g : AuditFace → AuditFace) (j : Nat) : (s.modAudit f g).face j = s.face j := rfl
@[simp] theorem modAudit_block (f : Nat) (g : AuditFace → AuditFace) (j k : Nat) : (s.modAudit f g).block j k = s.block j k := rfl
@[simp] theorem modAudit_entry (f : Nat) (g : AuditFace → AuditFace) (j k : Nat) : (s.modAudit f g).entry j k = s.entry j k := rfl
@[simp] theorem modAudit_profile (f : Nat) (g : AuditFace → AuditFace) (j : Nat) : (s.modAudit f g).profile j = s.profile j := rfl
@[simp] theorem modAudit_faceSet (f : Nat) (g : AuditFace → AuditFace) (j : Nat) : (s.modAudit f g).faceSet j = s.faceSet j := rfl
@[simp] theorem modAudit_rampFace (f : Nat) (g : AuditFace → AuditFace) (j : Nat) : (s.modAudit f g).rampFace j = s.rampFace j := rfl
@[simp] theorem modAudit_elem (f : Nat) (g : AuditFace → AuditFace) (j : Nat) : (s.modAudit f g).elem j = s.elem j := rfl

/-! ## modElem -/

@[simp] theorem modElem_now (e : Nat) (g : Element → Element) : (s.modElem e g).now = s.now := rfl
@[simp] theorem modElem_pins (e : Nat) (g : Element → Element) : (s.modElem e g).pins = s.pins := rfl
@[simp] theorem modElem_dir (e : Nat) (g : Element → Element) : (s.modElem e g).dir = s.dir := rfl
@[simp] theorem modElem_table (e : Nat) (g : Element → Element) : (s.modElem e g).table = s.table := rfl
@[simp] theorem modElem_stray (e : Nat) (g : Element → Element) : (s.modElem e g).stray = s.stray := rfl
@[simp] theorem modElem_ramp (e : Nat) (g : Element → Element) : (s.modElem e g).ramp = s.ramp := rfl
@[simp] theorem modElem_audit (e : Nat) (g : Element → Element) : (s.modElem e g).audit = s.audit := rfl
@[simp] theorem modElem_bus_safetyQ (e : Nat) (g : Element → Element) : (s.modElem e g).bus.safetyQ = s.bus.safetyQ := rfl
@[simp] theorem modElem_bus_rampQ (e : Nat) (g : Element → Element) : (s.modElem e g).bus.rampQ = s.bus.rampQ := rfl
@[simp] theorem modElem_bus_auditQ (e : Nat) (g : Element → Element) : (s.modElem e g).bus.auditQ = s.bus.auditQ := rfl
@[simp] theorem modElem_bus_mgmtQ (e : Nat) (g : Element → Element) : (s.modElem e g).bus.mgmtQ = s.bus.mgmtQ := rfl
@[simp] theorem modElem_bus_rr (e : Nat) (g : Element → Element) : (s.modElem e g).bus.rr = s.bus.rr := rfl
@[simp] theorem modElem_bus_seq (e : Nat) (g : Element → Element) : (s.modElem e g).bus.seq = s.bus.seq := rfl
@[simp] theorem modElem_bus_onBus (e : Nat) (g : Element → Element) : (s.modElem e g).bus.onBus = s.bus.onBus := rfl
@[simp] theorem modElem_bus_last (e : Nat) (g : Element → Element) : (s.modElem e g).bus.last = s.bus.last := rfl
@[simp] theorem modElem_bus_serial (e : Nat) (g : Element → Element) : (s.modElem e g).bus.serial = s.bus.serial := rfl
@[simp] theorem modElem_ports (e : Nat) (g : Element → Element) : (s.modElem e g).ports = s.ports := rfl
@[simp] theorem modElem_switch (e : Nat) (g : Element → Element) : (s.modElem e g).switch = s.switch := rfl
@[simp] theorem modElem_resp (e : Nat) (g : Element → Element) : (s.modElem e g).resp = s.resp := rfl
@[simp] theorem modElem_work (e : Nat) (g : Element → Element) : (s.modElem e g).work = s.work := rfl
@[simp] theorem modElem_told (e : Nat) (g : Element → Element) : (s.modElem e g).told = s.told := rfl
@[simp] theorem modElem_pending (e : Nat) (g : Element → Element) : (s.modElem e g).pending = s.pending := rfl
@[simp] theorem modElem_ctx (e : Nat) (g : Element → Element) (j : Nat) : (s.modElem e g).ctx j = s.ctx j := rfl
@[simp] theorem modElem_port (e : Nat) (g : Element → Element) (j : Nat) : (s.modElem e g).port j = s.port j := rfl
@[simp] theorem modElem_face (e : Nat) (g : Element → Element) (j : Nat) : (s.modElem e g).face j = s.face j := rfl
@[simp] theorem modElem_block (e : Nat) (g : Element → Element) (j k : Nat) : (s.modElem e g).block j k = s.block j k := rfl
@[simp] theorem modElem_entry (e : Nat) (g : Element → Element) (j k : Nat) : (s.modElem e g).entry j k = s.entry j k := rfl
@[simp] theorem modElem_profile (e : Nat) (g : Element → Element) (j : Nat) : (s.modElem e g).profile j = s.profile j := rfl
@[simp] theorem modElem_faceSet (e : Nat) (g : Element → Element) (j : Nat) : (s.modElem e g).faceSet j = s.faceSet j := rfl
@[simp] theorem modElem_rampFace (e : Nat) (g : Element → Element) (j : Nat) : (s.modElem e g).rampFace j = s.rampFace j := rfl
@[simp] theorem modElem_auditFace (e : Nat) (g : Element → Element) (j : Nat) : (s.modElem e g).auditFace j = s.auditFace j := rfl

/-! ## modCounts -/

@[simp] theorem modCounts_now (g : NodeCounters → NodeCounters) : (s.modCounts g).now = s.now := rfl
@[simp] theorem modCounts_pins (g : NodeCounters → NodeCounters) : (s.modCounts g).pins = s.pins := rfl
@[simp] theorem modCounts_dir (g : NodeCounters → NodeCounters) : (s.modCounts g).dir = s.dir := rfl
@[simp] theorem modCounts_table (g : NodeCounters → NodeCounters) : (s.modCounts g).table = s.table := rfl
@[simp] theorem modCounts_stray (g : NodeCounters → NodeCounters) : (s.modCounts g).stray = s.stray := rfl
@[simp] theorem modCounts_ramp (g : NodeCounters → NodeCounters) : (s.modCounts g).ramp = s.ramp := rfl
@[simp] theorem modCounts_audit (g : NodeCounters → NodeCounters) : (s.modCounts g).audit = s.audit := rfl
@[simp] theorem modCounts_bus (g : NodeCounters → NodeCounters) : (s.modCounts g).bus = s.bus := rfl
@[simp] theorem modCounts_ports (g : NodeCounters → NodeCounters) : (s.modCounts g).ports = s.ports := rfl
@[simp] theorem modCounts_switch (g : NodeCounters → NodeCounters) : (s.modCounts g).switch = s.switch := rfl
@[simp] theorem modCounts_resp_overlay (g : NodeCounters → NodeCounters) : (s.modCounts g).resp.overlay = s.resp.overlay := rfl
@[simp] theorem modCounts_resp_frozen (g : NodeCounters → NodeCounters) : (s.modCounts g).resp.frozen = s.resp.frozen := rfl
@[simp] theorem modCounts_work (g : NodeCounters → NodeCounters) : (s.modCounts g).work = s.work := rfl
@[simp] theorem modCounts_told (g : NodeCounters → NodeCounters) : (s.modCounts g).told = s.told := rfl
@[simp] theorem modCounts_pending (g : NodeCounters → NodeCounters) : (s.modCounts g).pending = s.pending := rfl
@[simp] theorem modCounts_ctx (g : NodeCounters → NodeCounters) (j : Nat) : (s.modCounts g).ctx j = s.ctx j := rfl
@[simp] theorem modCounts_port (g : NodeCounters → NodeCounters) (j : Nat) : (s.modCounts g).port j = s.port j := rfl
@[simp] theorem modCounts_face (g : NodeCounters → NodeCounters) (j : Nat) : (s.modCounts g).face j = s.face j := rfl
@[simp] theorem modCounts_block (g : NodeCounters → NodeCounters) (j k : Nat) : (s.modCounts g).block j k = s.block j k := rfl
@[simp] theorem modCounts_entry (g : NodeCounters → NodeCounters) (j k : Nat) : (s.modCounts g).entry j k = s.entry j k := rfl
@[simp] theorem modCounts_profile (g : NodeCounters → NodeCounters) (j : Nat) : (s.modCounts g).profile j = s.profile j := rfl
@[simp] theorem modCounts_faceSet (g : NodeCounters → NodeCounters) (j : Nat) : (s.modCounts g).faceSet j = s.faceSet j := rfl
@[simp] theorem modCounts_rampFace (g : NodeCounters → NodeCounters) (j : Nat) : (s.modCounts g).rampFace j = s.rampFace j := rfl
@[simp] theorem modCounts_auditFace (g : NodeCounters → NodeCounters) (j : Nat) : (s.modCounts g).auditFace j = s.auditFace j := rfl
@[simp] theorem modCounts_elem (g : NodeCounters → NodeCounters) (j : Nat) : (s.modCounts g).elem j = s.elem j := rfl

/-! ## push -/

@[simp] theorem push_now (ws : List Work) : (s.push ws).now = s.now := rfl
@[simp] theorem push_pins (ws : List Work) : (s.push ws).pins = s.pins := rfl
@[simp] theorem push_dir (ws : List Work) : (s.push ws).dir = s.dir := rfl
@[simp] theorem push_table (ws : List Work) : (s.push ws).table = s.table := rfl
@[simp] theorem push_stray (ws : List Work) : (s.push ws).stray = s.stray := rfl
@[simp] theorem push_ramp (ws : List Work) : (s.push ws).ramp = s.ramp := rfl
@[simp] theorem push_audit (ws : List Work) : (s.push ws).audit = s.audit := rfl
@[simp] theorem push_bus (ws : List Work) : (s.push ws).bus = s.bus := rfl
@[simp] theorem push_ports (ws : List Work) : (s.push ws).ports = s.ports := rfl
@[simp] theorem push_switch (ws : List Work) : (s.push ws).switch = s.switch := rfl
@[simp] theorem push_resp (ws : List Work) : (s.push ws).resp = s.resp := rfl
@[simp] theorem push_pending (ws : List Work) : (s.push ws).pending = s.pending := rfl
@[simp] theorem push_told (ws : List Work) : (s.push ws).told = s.told := rfl
@[simp] theorem push_ctx (ws : List Work) (j : Nat) : (s.push ws).ctx j = s.ctx j := rfl
@[simp] theorem push_port (ws : List Work) (j : Nat) : (s.push ws).port j = s.port j := rfl
@[simp] theorem push_face (ws : List Work) (j : Nat) : (s.push ws).face j = s.face j := rfl
@[simp] theorem push_block (ws : List Work) (j k : Nat) : (s.push ws).block j k = s.block j k := rfl
@[simp] theorem push_entry (ws : List Work) (j k : Nat) : (s.push ws).entry j k = s.entry j k := rfl
@[simp] theorem push_profile (ws : List Work) (j : Nat) : (s.push ws).profile j = s.profile j := rfl
@[simp] theorem push_faceSet (ws : List Work) (j : Nat) : (s.push ws).faceSet j = s.faceSet j := rfl
@[simp] theorem push_rampFace (ws : List Work) (j : Nat) : (s.push ws).rampFace j = s.rampFace j := rfl
@[simp] theorem push_auditFace (ws : List Work) (j : Nat) : (s.push ws).auditFace j = s.auditFace j := rfl
@[simp] theorem push_elem (ws : List Work) (j : Nat) : (s.push ws).elem j = s.elem j := rfl

/-! ## tellEvent -/

@[simp] theorem tellEvent_now (h : Nat) (b : List Byte) : (tellEvent h b s).now = s.now := rfl
@[simp] theorem tellEvent_pins (h : Nat) (b : List Byte) : (tellEvent h b s).pins = s.pins := rfl
@[simp] theorem tellEvent_dir (h : Nat) (b : List Byte) : (tellEvent h b s).dir = s.dir := rfl
@[simp] theorem tellEvent_table (h : Nat) (b : List Byte) : (tellEvent h b s).table = s.table := rfl
@[simp] theorem tellEvent_stray (h : Nat) (b : List Byte) : (tellEvent h b s).stray = s.stray := rfl
@[simp] theorem tellEvent_ramp (h : Nat) (b : List Byte) : (tellEvent h b s).ramp = s.ramp := rfl
@[simp] theorem tellEvent_audit (h : Nat) (b : List Byte) : (tellEvent h b s).audit = s.audit := rfl
@[simp] theorem tellEvent_bus (h : Nat) (b : List Byte) : (tellEvent h b s).bus = s.bus := rfl
@[simp] theorem tellEvent_ports (h : Nat) (b : List Byte) : (tellEvent h b s).ports = s.ports := rfl
@[simp] theorem tellEvent_switch (h : Nat) (b : List Byte) : (tellEvent h b s).switch = s.switch := rfl
@[simp] theorem tellEvent_resp (h : Nat) (b : List Byte) : (tellEvent h b s).resp = s.resp := rfl
@[simp] theorem tellEvent_work (h : Nat) (b : List Byte) : (tellEvent h b s).work = s.work := rfl
@[simp] theorem tellEvent_pending (h : Nat) (b : List Byte) : (tellEvent h b s).pending = s.pending := rfl
@[simp] theorem tellEvent_ctx (h : Nat) (b : List Byte) (j : Nat) : (tellEvent h b s).ctx j = s.ctx j := rfl
@[simp] theorem tellEvent_port (h : Nat) (b : List Byte) (j : Nat) : (tellEvent h b s).port j = s.port j := rfl
@[simp] theorem tellEvent_face (h : Nat) (b : List Byte) (j : Nat) : (tellEvent h b s).face j = s.face j := rfl
@[simp] theorem tellEvent_profile (h : Nat) (b : List Byte) (j : Nat) : (tellEvent h b s).profile j = s.profile j := rfl
@[simp] theorem tellEvent_faceSet (h : Nat) (b : List Byte) (j : Nat) : (tellEvent h b s).faceSet j = s.faceSet j := rfl
@[simp] theorem tellEvent_rampFace (h : Nat) (b : List Byte) (j : Nat) : (tellEvent h b s).rampFace j = s.rampFace j := rfl
@[simp] theorem tellEvent_auditFace (h : Nat) (b : List Byte) (j : Nat) : (tellEvent h b s).auditFace j = s.auditFace j := rfl
@[simp] theorem tellEvent_elem (h : Nat) (b : List Byte) (j : Nat) : (tellEvent h b s).elem j = s.elem j := rfl
@[simp] theorem tellEvent_block (h : Nat) (b : List Byte) (j k : Nat) : (tellEvent h b s).block j k = s.block j k := rfl
@[simp] theorem tellEvent_entry (h : Nat) (b : List Byte) (j k : Nat) : (tellEvent h b s).entry j k = s.entry j k := rfl
@[simp] theorem tellEvent_told (h : Nat) (b : List Byte) : (tellEvent h b s).told = joinTold s.told ⟨h, b⟩ := rfl

/-! ## What each update reads back -/

@[simp] theorem setCtx_ctx (h : Nat) (c : Option Context) (j : Nat) :
    (s.setCtx h c).ctx j = if j = h then c else s.ctx j := by simp [setCtx, ctx]

@[simp] theorem modCtx_ctx (h : Nat) (g : Context → Context) (j : Nat) :
    (s.modCtx h g).ctx j = if j = h then (s.ctx h).map g else s.ctx j := by simp [modCtx]

@[simp] theorem modPort_port (p : Nat) (g : Port → Port) (j : Nat) :
    (s.modPort p g).port j = if j = p then g (s.port p) else s.port j := by simp [modPort, port]

@[simp] theorem modFace_face (f : Nat) (g : FaceDesc → FaceDesc) (j : Nat) :
    (s.modFace f g).face j = if j = f then g (s.face f) else s.face j := by simp [modFace, face]

@[simp] theorem modBlock_block (f b : Nat) (g : BlockDesc → BlockDesc) (j k : Nat) :
    (s.modBlock f b g).block j k = if 24 * j + k = 24 * f + b then g (s.block f b) else s.block j k := by
  simp [modBlock, block]

@[simp] theorem modEntry_entry (e : Nat) (g : SlotEntry → SlotEntry) (j k : Nat) :
    (s.modEntry e g).entry j k = if 16 * j + k = e then g (s.dir.entries.get e) else s.entry j k := by
  simp [modEntry, entry]

@[simp] theorem modEntry_entries (e : Nat) (g : SlotEntry → SlotEntry) (j : Nat) :
    (s.modEntry e g).dir.entries.get j = if j = e then g (s.dir.entries.get e) else s.dir.entries.get j := by
  simp [modEntry]

@[simp] theorem setProfile_profile (n : Nat) (p : Profile) (j : Nat) :
    (s.setProfile n p).profile j = if j = n then p else s.profile j := by simp [setProfile, profile]

@[simp] theorem setFaceSet_faceSet (f : Nat) (x : FaceSettings) (j : Nat) :
    (s.setFaceSet f x).faceSet j = if j = f then x else s.faceSet j := by simp [setFaceSet, faceSet]

@[simp] theorem modRamp_rampFace (f : Nat) (g : RampFace → RampFace) (j : Nat) :
    (s.modRamp f g).rampFace j = if j = f then g (s.rampFace f) else s.rampFace j := by simp [modRamp, rampFace]

@[simp] theorem modAudit_auditFace (f : Nat) (g : AuditFace → AuditFace) (j : Nat) :
    (s.modAudit f g).auditFace j = if j = f then g (s.auditFace f) else s.auditFace j := by
  simp [modAudit, auditFace]

@[simp] theorem modElem_elem (e : Nat) (g : Element → Element) (j : Nat) :
    (s.modElem e g).elem j = if j = e then g (s.elem e) else s.elem j := by simp [modElem, elem]

@[simp] theorem modCounts_counters (g : NodeCounters → NodeCounters) :
    (s.modCounts g).resp.counters = g s.resp.counters := rfl

@[simp] theorem push_work (ws : List Work) : (s.push ws).work = ws ++ s.work := rfl

@[simp] theorem setCtx_setCtx (h : Nat) (c d : Option Context) : (s.setCtx h c).setCtx h d = s.setCtx h d := by
  simp [setCtx]

@[simp] theorem modCtx_setCtx (h : Nat) (c : Option Context) (g : Context → Context) :
    (s.setCtx h c).modCtx h g = s.setCtx h (c.map g) := by simp [modCtx]

/-- A change of a record that stands at the handle is a write of the changed record. -/
theorem modCtx_of_some {h : Nat} {c : Context} (hc : s.ctx h = some c) (g : Context → Context) :
    s.modCtx h g = s.setCtx h (some (g c)) := by simp [modCtx, hc]

@[simp] theorem modPort_modPort (p : Nat) (f g : Port → Port) :
    (s.modPort p f).modPort p g = s.modPort p (fun x => g (f x)) := by simp [modPort]

@[simp] theorem modRamp_modRamp (p : Nat) (f g : RampFace → RampFace) :
    (s.modRamp p f).modRamp p g = s.modRamp p (fun x => g (f x)) := by simp [modRamp]

@[simp] theorem modAudit_modAudit (p : Nat) (f g : AuditFace → AuditFace) :
    (s.modAudit p f).modAudit p g = s.modAudit p (fun x => g (f x)) := by simp [modAudit]

@[simp] theorem modElem_modElem (p : Nat) (f g : Element → Element) :
    (s.modElem p f).modElem p g = s.modElem p (fun x => g (f x)) := by simp [modElem]

@[simp] theorem push_nil : s.push [] = s := rfl

end Sys2Proof.Machine.State
end

