-- ==== Sys2Proof/Laws/Directory.lean ====
section
/-! SUPPORT. What the Directory's operations leave as it was, and what they do to one entry. -/

namespace Sys2Proof.Machine

/-- Only the Directory may differ. -/
def DirOnly (s t : State) : Prop := t = { s with dir := t.dir }

theorem DirOnly.refl (s : State) : DirOnly s s := rfl

theorem DirOnly.trans {s t u : State} (h : DirOnly s t) (k : DirOnly t u) : DirOnly s u := by
  unfold DirOnly at *; rw [k, h]

/-- A fold of steps that each change the Directory alone changes the Directory alone. -/
theorem DirOnly.foldl {α : Type} {g : State → α → State} (hg : ∀ s a, DirOnly s (g s a)) (l : List α) (s : State) :
    DirOnly s (l.foldl g s) := by
  induction l generalizing s with
  | nil => exact DirOnly.refl s
  | cons a l ih => exact (hg s a).trans (ih _)

theorem setMarks_dirOnly (m : Marks) (s : State) : DirOnly s (setMarks m s) := by
  unfold setMarks
  refine ((DirOnly.foldl ?_ _ _).trans (DirOnly.foldl ?_ _ _)).trans (DirOnly.foldl ?_ _ _) <;> exact fun _ _ => rfl

theorem setKind_dirOnly (f n : Nat) (k : EntryKind) (s : State) : DirOnly s (setKind f n k s) := by
  unfold setKind; split <;> rfl

theorem reserveSpan_dirOnly (h ing eg first count : Nat) (s : State) :
    DirOnly s (reserveSpan h ing eg first count s) :=
  DirOnly.foldl (fun _ _ => (setKind_dirOnly _ _ _ _).trans (setKind_dirOnly _ _ _ _)) _ _

theorem freeSlot_dirOnly (f n : Nat) (k : EntryKind) (s : State) : DirOnly s (freeSlot f n k s) := by
  unfold freeSlot
  split
  · split <;> rfl
  · rfl

theorem freeSpan_dirOnly (h ing eg first count : Nat) (s : State) : DirOnly s (freeSpan h ing eg first count s) :=
  DirOnly.foldl (fun _ _ => (freeSlot_dirOnly _ _ _ _).trans (freeSlot_dirOnly _ _ _ _)) _ _

theorem markModified_dirOnly (h eg first count : Nat) (s : State) : DirOnly s (markModified h eg first count s) := by
  refine DirOnly.foldl (fun s n => ?_) _ _
  split
  · rfl
  · split <;> rfl

theorem liveChange_dirOnly (f n : Nat) (a b : Bool) (s : State) : DirOnly s (liveChange f n a b s) := by
  unfold liveChange
  split
  · rfl
  · split <;> rfl

theorem stepWalk_dirOnly (f first count : Nat) (s : State) : DirOnly s (stepWalk f first count s).2 :=
  setMarks_dirOnly _ _

theorem judgeSpan_dirOnly (ing eg first count : Nat) (c : OriginClass) (s : State) :
    DirOnly s (judgeSpan ing eg first count c s).2 :=
  setMarks_dirOnly _ _

theorem clearPage_dirOnly (p : Nat) (s : State) : DirOnly s (clearPage p s) := by
  refine DirOnly.foldl ?_ _ _
  exact fun _ _ => rfl

theorem clearPageFlags_dirOnly (p : Nat) (s : State) : DirOnly s (clearPageFlags p s) := by
  refine DirOnly.foldl ?_ _ _
  exact fun _ _ => rfl

theorem clearBlockFlags_dirOnly (f b : Nat) (s : State) : DirOnly s (clearBlockFlags f b s) := by
  unfold clearBlockFlags
  split
  · exact DirOnly.trans (t := s.modBlock f b fun x => { x with used := false }) rfl (clearPageFlags_dirOnly _ _)
  · rfl

/-! ## The rest of the state, field by field -/

section
variable {s t : State} (h : DirOnly s t)
include h
theorem DirOnly.now : t.now = s.now := by rw [h]
theorem DirOnly.table : t.table = s.table := by rw [h]
theorem DirOnly.ramp : t.ramp = s.ramp := by rw [h]
theorem DirOnly.audit : t.audit = s.audit := by rw [h]
theorem DirOnly.bus : t.bus = s.bus := by rw [h]
theorem DirOnly.ports : t.ports = s.ports := by rw [h]
theorem DirOnly.switch : t.switch = s.switch := by rw [h]
theorem DirOnly.resp : t.resp = s.resp := by rw [h]
theorem DirOnly.work : t.work = s.work := by rw [h]
theorem DirOnly.pending : t.pending = s.pending := by rw [h]
theorem DirOnly.ctx (n : Nat) : t.ctx n = s.ctx n := by rw [h]; rfl
end

@[simp] theorem setMarks_now (m : Marks) (s : State) : (setMarks m s).now = s.now := (setMarks_dirOnly m s).now
@[simp] theorem setMarks_table (m : Marks) (s : State) : (setMarks m s).table = s.table := (setMarks_dirOnly m s).table
@[simp] theorem setMarks_ramp (m : Marks) (s : State) : (setMarks m s).ramp = s.ramp := (setMarks_dirOnly m s).ramp
@[simp] theorem setMarks_audit (m : Marks) (s : State) : (setMarks m s).audit = s.audit := (setMarks_dirOnly m s).audit
@[simp] theorem setMarks_bus (m : Marks) (s : State) : (setMarks m s).bus = s.bus := (setMarks_dirOnly m s).bus
@[simp] theorem setMarks_ports (m : Marks) (s : State) : (setMarks m s).ports = s.ports := (setMarks_dirOnly m s).ports
@[simp] theorem setMarks_switch (m : Marks) (s : State) : (setMarks m s).switch = s.switch := (setMarks_dirOnly m s).switch
@[simp] theorem setMarks_resp (m : Marks) (s : State) : (setMarks m s).resp = s.resp := (setMarks_dirOnly m s).resp
@[simp] theorem setMarks_work (m : Marks) (s : State) : (setMarks m s).work = s.work := (setMarks_dirOnly m s).work

/-! ## One entry -/

@[simp] theorem setKind_blocks (f n : Nat) (k : EntryKind) (s : State) : (setKind f n k s).dir.blocks = s.dir.blocks := by
  unfold setKind; split <;> rfl

@[simp] theorem setKind_faces (f n : Nat) (k : EntryKind) (s : State) : (setKind f n k s).dir.faces = s.dir.faces := by
  unfold setKind; split <;> rfl

/-- Where a present block governs the slot, the kind of its entry is set and no other entry changes. -/
theorem setKind_entries {f n : Nat} {s : State} (hp : (s.block f (n / 16)).present = true) (k : EntryKind) (j : Nat) :
    (setKind f n k s).dir.entries.get j =
      if j = 16 * (s.block f (n / 16)).page + n % 16 then { s.dir.entries.get j with kind := k }
      else s.dir.entries.get j := by
  have : entryKey s f n = some (16 * (s.block f (n / 16)).page + n % 16) := by
    replace hp : (s.dir.blocks.get (24 * f + n / 16)).present = true := hp
    simp [entryKey, blockKey, hp, State.block]
  simp only [setKind, this, State.modEntry_entries]
  split
  · rename_i h; rw [h]
  · rfl

@[simp] theorem freeSlot_blocks (f n : Nat) (k : EntryKind) (s : State) : (freeSlot f n k s).dir.blocks = s.dir.blocks := by
  unfold freeSlot
  split
  · split <;> rfl
  · rfl

@[simp] theorem freeSlot_faces (f n : Nat) (k : EntryKind) (s : State) : (freeSlot f n k s).dir.faces = s.dir.faces := by
  unfold freeSlot
  split
  · split <;> rfl
  · rfl

/-- Where face and block are present, an entry of the expected kind becomes FREE; every other entry stays. -/
theorem freeSlot_entries {f n : Nat} {s : State} (hf : (s.face f).present = true)
    (hp : (s.block f (n / 16)).present = true) (k : EntryKind) (j : Nat) :
    (freeSlot f n k s).dir.entries.get j =
      if j = 16 * (s.block f (n / 16)).page + n % 16 ∧ (s.dir.entries.get j).kind = k then
        { s.dir.entries.get j with kind := .free }
      else s.dir.entries.get j := by
  have : readSlot s f n = .found (blockKey f n) (16 * (s.block f (n / 16)).page + n % 16) := by
    replace hp : (s.dir.blocks.get (24 * f + n / 16)).present = true := hp
    simp [readSlot, hf, entryKey, blockKey, hp, State.block]
  simp only [freeSlot, this]
  by_cases hj : j = 16 * (s.block f (n / 16)).page + n % 16
  · subst hj
    by_cases hk : (s.dir.entries.get (16 * (s.block f (n / 16)).page + n % 16)).kind = k <;> simp [hk]
  · by_cases hk : (s.dir.entries.get (16 * (s.block f (n / 16)).page + n % 16)).kind = k <;> simp [hk, hj]

end Sys2Proof.Machine
end

