-- ==== Sys2Proof/Laws/Contexts.lean ====
section
/-! SUPPORT. The Context Table's operations: change of state, giving up a ramp place, freeing, hand-over. -/

namespace Sys2Proof.Machine

@[simp] theorem liveChange_false_false (f n : Nat) (s : State) : liveChange f n false false s = s := rfl
@[simp] theorem liveChange_true_true (f n : Nat) (s : State) : liveChange f n true true s = s := rfl
@[simp] theorem liveChange_false_true (f n : Nat) (s : State) : liveChange f n false true s = raiseLive f n s := rfl
@[simp] theorem liveChange_true_false (f n : Nat) (s : State) : liveChange f n true false s = lowerLive f n s := rfl

@[simp] theorem counted_reserved : CtxState.counted .reserved = false := rfl
@[simp] theorem counted_probing : CtxState.counted .probing = false := rfl
@[simp] theorem counted_armed : CtxState.counted .armed = false := rfl
@[simp] theorem counted_ramping : CtxState.counted .ramping = false := rfl
@[simp] theorem counted_settled : CtxState.counted .settled = true := rfl
@[simp] theorem counted_inService : CtxState.counted .inService = true := rfl
@[simp] theorem counted_withdrawing : CtxState.counted .withdrawing = false := rfl
@[simp] theorem counted_faulted : CtxState.counted .faulted = false := rfl

/-- R35: a change of state of the record just written. -/
theorem changeState_setCtx (h : Nat) (c d : Context) (st : CtxState) (s : State) :
    changeState h c st (s.setCtx h (some d)) =
      liveChange c.egress c.count c.st.counted st.counted
        (s.setCtx h (some (d.enter (s.profile d.profile) s.now st))) := by
  simp [changeState]

/-- R35: a change of state of the record that stands at the handle. -/
theorem changeState_of_some {h : Nat} {d : Context} {s : State} (hd : s.ctx h = some d) (c : Context) (st : CtxState) :
    changeState h c st s =
      liveChange c.egress c.count c.st.counted st.counted
        (s.setCtx h (some (d.enter (s.profile d.profile) s.now st))) := by
  simp [changeState, State.modCtx, hd]

/-- R137: with no pass pending, or with a step in progress, no audit begins. -/
theorem judgeAudit_of_idle {f : Nat} {s : State} (h : (s.auditFace f).pending = false ∨ (s.rampFace f).inStep = true) :
    judgeAudit f s = s := by
  unfold judgeAudit
  rcases h with h | h <;> simp [h]

/-- R137: a pending audit with no step in progress takes its list and has its first entry measured in the take. -/
theorem judgeAudit_of_pending {f : Nat} {s : State} (hp : (s.auditFace f).pending = true)
    (hs : (s.rampFace f).inStep = false) :
    judgeAudit f s =
      (s.modAudit f fun a => { a with pending := false, running := true, list := auditList s f, pos := 0 }).push
        [.measure f] := by
  simp [judgeAudit, hp, hs]

/-- The judgement of a pending audit changes audit state and adds to the take's work alone. -/
theorem judgeAudit_frame (f : Nat) (s : State) :
    judgeAudit f s = { s with audit := (judgeAudit f s).audit, work := (judgeAudit f s).work } := by
  unfold judgeAudit
  split <;> rfl

/-- R99: with no step in progress there is nothing to clear. -/
theorem clearStep_of_clear {f : Nat} {s : State} (h : (s.rampFace f).inStep = false) : clearStep f s = s := by
  simp [clearStep, h]

/-- The clearing of a step changes ramp and audit state and adds to the take's work alone. -/
theorem clearStep_frame (f : Nat) (s : State) :
    clearStep f s =
      { s with ramp := (clearStep f s).ramp, audit := (clearStep f s).audit, work := (clearStep f s).work } := by
  unfold clearStep
  split
  · rw [judgeAudit_frame]; rfl
  · rfl

/-- R97: a context with neither turn nor queue place leaves nothing. -/
theorem leaveRamp_of_offRamp {n : Nat} {c : Context} {s : State} (h : OffRamp n c s) : leaveRamp n c s = s := by
  obtain ⟨h1, h2⟩ := h
  unfold leaveRamp
  simp only [h1, if_false]
  rw [if_neg]
  simp only [List.any_eq_true, not_exists, not_and, decide_eq_true_eq, Bool.and_eq_true]
  exact fun e he hh hi => h2 e he ⟨hh, hi⟩

/-- R25: the freeing of a context with neither turn nor queue place. -/
theorem freeRecord_of_offRamp {n : Nat} {c : Context} {s : State} (h : OffRamp n c s) :
    freeRecord n c s =
      (liveChange c.egress c.count c.st.counted false
        (freeSpan n c.ingress c.egress c.first c.count s)).setCtx n none := by
  simp only [freeRecord, leaveRamp_of_offRamp h]

/-- R148: a request that can be placed is placed. -/
theorem handOver_of_placeable {cl : BusClass} {field : Option Nat} {e : Nat} {s : State} (h : Placeable cl field e s)
    (t : Txn) (d : Bool) (f c : Nat) (tag : Tag) : handOver cl field t d f c tag s = place cl e t d f c tag s := by
  obtain ⟨rfl, hf, hl⟩ := h
  have : failsAtOnce cl (some e) s = false := by
    simp only [failsAtOnce, Bool.or_eq_false_iff, decide_eq_false_iff_not, beq_eq_false_iff_ne]
    exact ⟨hf, by omega⟩
  simp [handOver, this]

/-- R23: the lowest FREE handle. -/
theorem lowestFree_eq {s : State} {n : Nat} (hn : n < 256) (h0 : s.ctx n = none)
    (hm : ∀ m, m < n → (s.ctx m).isSome = true) : lowestFree s = some n := by
  unfold lowestFree
  rw [List.find?_eq_some_iff_append]
  refine ⟨by simp [h0], List.range n, (List.range (256 - n - 1)).map (n + 1 + ·), ?_, ?_⟩
  · conv_lhs => rw [show (256 : Nat) = n + (1 + (256 - n - 1)) by omega, List.range_add]
    congr 1
    rw [List.range_add]; simp
  · intro a ha
    have := hm a (List.mem_range.mp ha)
    cases hc : s.ctx a <;> simp_all

end Sys2Proof.Machine
end

