-- ==== Sys2Proof/Laws/Take.lean ====
section
/-! SUPPORT. How a take begins and ends: reception of a frame that passes, requests, the end of a take that leaves
nothing to do, and what the sending operations leave as it was. -/

namespace Sys2Proof.Machine

/-! ## The end of a take -/

/-- A take that left nothing to do ends where it stands. -/
theorem settleWork_of_nil {s : State} (h : s.work = []) : settleWork s = s := by
  cases s; simp only at h; subst h; rfl

/-- A take in which no context told an event hands none over. -/
theorem sendTold_of_nil {s : State} (h : s.told = []) : sendTold s = s := by
  unfold sendTold; rw [h]; cases s; simp only at h; subst h; rfl

/-- R179: the one event of a take is handed over as it was told. -/
theorem sendTold_tellEvent {s : State} (h : s.told = []) (n : Nat) (b : List Byte) :
    sendTold (tellEvent n b s) = event b s := by
  cases s; simp only at h; subst h; rfl

/-- R179: an event stands behind those of its own and of lower handles, ahead of those of higher ones. -/
theorem joinTold_append {ahead behind : List Told} {x : Told} (ha : ∀ y ∈ ahead, y.handle ≤ x.handle)
    (hb : ∀ y ∈ behind, x.handle < y.handle) : joinTold (ahead ++ behind) x = ahead ++ x :: behind := by
  induction ahead with
  | nil =>
    cases behind with
    | nil => rfl
    | cons y l => simp [joinTold, hb y (List.mem_cons_self ..)]
  | cons y l ih =>
    have h1 : y.handle ≤ x.handle := ha y (List.mem_cons_self ..)
    have h2 := ih fun z hz => ha z (List.mem_cons_of_mem _ hz)
    simp only [joinTold, List.cons_append, List.takeWhile_cons, List.dropWhile_cons, h1, decide_true, if_true] at h2 ⊢
    exact congrArg (y :: ·) h2

/-- At rest, the end of a take does nothing (R152). -/
theorem endTake_of_atRest {s : State} (h : AtRest s) : endTake s = s := by
  obtain ⟨hw, ht, hb⟩ := h
  rw [endTake, settleWork_of_nil hw, sendTold_of_nil ht, arbitrate]
  split
  · rename_i h1 h2; rcases hb with hb | hb <;> simp_all
  · rfl

/-- With nothing left to do or to tell, a take ends with the arbiter's choice. -/
theorem endTake_of_nil {s : State} (h : s.work = []) (ht : s.told = []) : endTake s = arbitrate s := by
  rw [endTake, settleWork_of_nil h, sendTold_of_nil ht]

/-- With nothing left to do but the one event told, it is handed over and the arbiter judges. -/
theorem endTake_tellEvent {s : State} (h : s.work = []) (ht : s.told = []) (n : Nat) (b : List Byte) :
    endTake (tellEvent n b s) = arbitrate (event b s) := by
  rw [endTake, settleWork_of_nil (s := tellEvent n b s) h, sendTold_tellEvent ht]

/-- A state that shares bus, work and told events with one at rest is at rest. -/
theorem AtRest.of_eq {s t : State} (h : AtRest s) (hw : t.work = s.work) (ht : t.told = s.told) (hb : t.bus = s.bus) :
    AtRest t := by
  unfold AtRest at *; rw [hw, ht, hb]; exact h

theorem endTake_of_eq {s t : State} (h : AtRest s) (hw : t.work = s.work) (ht : t.told = s.told) (hb : t.bus = s.bus) :
    endTake t = t := endTake_of_atRest (h.of_eq hw ht hb)

/-! ## Reception -/

/-- R165, check 3: on a port that is UP. -/
theorem receive_up {p : Nat} {s : State} (h : (s.port p).link = .up) (b : Bool) (k : State → State) :
    receive p b k s = k (countRx p s) := by
  simp [receive, countRx, h]

theorem receive_hello (p : Nat) (s : State) (k : State → State) : receive p true k s = k (countRx p s) := by
  simp [receive]

/-- R165, check 3: on a port that is not UP. -/
theorem receive_notUp {p : Nat} {s : State} (h : (s.port p).link ≠ .up) (k : State → State) :
    receive p false k s = countNotUp p (countRx p s) := by
  simp [receive, countRx, h]

/-- A commissioning frame that came over a link, its body judged. -/
theorem commissioning_onLink {h : Hdr} {s t : State} (hl : OnLink h s) {α : Type} (x : α) (k : α → State → State) :
    commissioning h (some x) k t = k x t := by
  have h1 : ¬(h.port.val = 8 ∨ h.dst.toNat ≠ Config.adjacent) := by
    rintro (h8 | hd)
    · exact hl.1 h8
    · exact hd hl.2.1
  simp only [commissioning, h1, if_false]

/-- A commissioning frame on an UP link with a body that passes is taken by its rule. -/
theorem receive_commissioning {h : Hdr} {s : State} (hl : OnLink h s) {α : Type} (x : α) (k : α → State → State) :
    receive h.port false (commissioning h (some x) k) s = k x (countRx h.port s) := by
  rw [receive_up hl.2.2, commissioning_onLink hl]

/-- A management frame for this node, named or ADJACENT (R165, R166). -/
theorem onMgmt_forNode {h : Hdr} {s : State} (hf : ForNode h s) (k : FrameKind) (body : List Byte) (f : State → State) :
    onMgmt h k body f f s = f (countRx h.port s) := by
  simp only [onMgmt, receive_up hf.1]
  have h1 : (countRx h.port s).switch.nodeId = s.switch.nodeId := rfl
  rw [h1]
  by_cases hd : h.dst.toNat = s.switch.nodeId
  · rw [if_pos hd]
  · rw [if_neg hd, if_pos (hf.2.resolve_left hd)]

/-- A well-formed request for this node is carried out. -/
theorem onRequest_forNode {h : Hdr} {s : State} (hf : ForNode h s) (code : Nat) (params : List Byte) {α : Type} (x : α)
    (k : α → State → State) : onRequest h code params (some x) k s = k x (countRx h.port s) := by
  simp only [onRequest, onMgmt_forNode hf]

/-- A request for this node that is not well formed is answered BAD_REQUEST (R172). -/
theorem onRequest_malformed {h : Hdr} {s : State} (hf : ForNode h s) (code : Nat) (params : List Byte) {α : Type}
    (k : α → State → State) :
    onRequest h code params none k s = respond h code .badRequest [] (countRx h.port s) := by
  simp only [onRequest, onMgmt_forNode hf]

theorem onTableWrite_forNode {h : Hdr} {s : State} (hf : ForNode h s) (t : Nat) (params : List Byte) {α : Type} (x : α)
    (k : α → State → State) : onTableWrite h t params (some x) k s = k x (countRx h.port s) := by
  simp only [onTableWrite, onRequest_forNode hf]

/-! ## What sending leaves -/

/-- An event changes ports and node counters alone. -/
theorem event_frame (b : List Byte) (s : State) :
    event b s = { s with ports := (event b s).ports, resp := { s.resp with counters := (event b s).resp.counters } } := by
  unfold event routeFrame
  simp only
  split
  · rfl
  · split
    · rfl
    · split <;> rfl

/-- Events handed over one after another change ports and node counters alone. -/
theorem events_frame (l : List Told) (s : State) :
    ∃ p r, l.foldl (fun t x => event x.body t) s =
      { s with ports := p, resp := { s.resp with counters := r } } := by
  induction l generalizing s with
  | nil => exact ⟨s.ports, s.resp.counters, rfl⟩
  | cons x l ih =>
    obtain ⟨p, r, h⟩ := ih (event x.body s)
    refine ⟨p, r, ?_⟩
    rw [List.foldl_cons, h, event_frame]

/-- R179: handing over the contexts' events empties their list and changes ports and node counters beside it. -/
theorem sendTold_frame (s : State) :
    ∃ p r, sendTold s = { s with told := [], ports := p, resp := { s.resp with counters := r } } := by
  obtain ⟨p, r, h⟩ := events_frame s.told { s with told := [] }
  exact ⟨p, r, h⟩

/-- A frame sent on an absent or present port changes ports alone. -/
theorem sendOn_frame (p : Option Nat) (k : FrameKind) (b : List Byte) (s : State) :
    sendOn p k b s = { s with ports := (sendOn p k b s).ports } := by
  cases p <;> rfl

/-- A relayed frame changes ports alone. -/
theorem relay_frame (p : Option Nat) (k : FrameKind) (h : Hdr) (b : List Byte) (s : State) :
    relay p k h b s = { s with ports := (relay p k h b s).ports } := by
  cases p <;> rfl

/-- A record written after a frame was sent might as well be written before. -/
theorem setCtx_handFrame (p : Nat) (f : Frame) (s : State) (n : Nat) (c : Option Context) :
    (handFrame p f s).setCtx n c = handFrame p f (s.setCtx n c) := rfl

theorem setCtx_sendAdjacent (p : Nat) (k : FrameKind) (b : List Byte) (s : State) (n : Nat) (c : Option Context) :
    (sendAdjacent p k b s).setCtx n c = sendAdjacent p k b (s.setCtx n c) := rfl

theorem setCtx_sendOn (p : Option Nat) (k : FrameKind) (b : List Byte) (s : State) (n : Nat) (c : Option Context) :
    (sendOn p k b s).setCtx n c = sendOn p k b (s.setCtx n c) := by cases p <;> rfl

theorem setCtx_place (cl : BusClass) (e : Nat) (t : Txn) (d : Bool) (f k : Nat) (tag : Tag) (s : State) (n : Nat)
    (c : Option Context) :
    (place cl e t d f k tag s).setCtx n c = place cl e t d f k tag (s.setCtx n c) := rfl

/-- A response changes ports alone. -/
theorem respond_frame (h : Hdr) (code : Nat) (st : Status) (r : List Byte) (s : State) :
    respond h code st r s = { s with ports := (respond h code st r s).ports } := rfl

/-- Forwarding changes ports and node counters alone. -/
theorem forwardFrame_frame (p : Nat) (f : Frame) (s : State) :
    forwardFrame p f s =
      { s with ports := (forwardFrame p f s).ports,
               resp := { s.resp with counters := (forwardFrame p f s).resp.counters } } := by
  unfold forwardFrame routeFrame
  split
  · rfl
  · split <;> rfl

end Sys2Proof.Machine
end

