-- ==== Sys2Proof/Laws/Wire.lean ====
section
/-! SUPPORT. Reading back what was written: numbers, hop entries, hop reports, codes. -/

namespace Sys2Proof.Machine

theorem toNat_ofNat8 (n : Nat) : (BitVec.ofNat 8 n).toNat = n % 256 := by simp

@[simp] theorem length_e8 (n : Nat) : (e8 n).length = 1 := rfl
@[simp] theorem length_e16 (n : Nat) : (e16 n).length = 2 := rfl
@[simp] theorem length_e32 (n : Nat) : (e32 n).length = 4 := rfl
@[simp] theorem length_s16 (i : Int) : (s16 i).length = 2 := rfl
@[simp] theorem length_eBool (b : Bool) : (eBool b).length = 1 := rfl

/-- A one-byte field reads back. -/
theorem d8_e8 {n : Nat} (h : n < 256) (l : List Byte) : d8 (e8 n ++ l) = some (n, l) := by
  simp [d8, e8, Nat.mod_eq_of_lt h]

/-- A two-byte field reads back. -/
theorem d16_e16 {n : Nat} (h : n < 65536) (l : List Byte) : d16 (e16 n ++ l) = some (n, l) := by
  simp only [d16, e16, List.cons_append, List.nil_append, toNat_ofNat8, Option.some.injEq, Prod.mk.injEq, and_true]
  omega

/-- A four-byte field reads back. -/
theorem d32_e32 {n : Nat} (h : n < 4294967296) (l : List Byte) : d32 (e32 n ++ l) = some (n, l) := by
  simp only [d32, e32, e16, List.cons_append, List.nil_append, toNat_ofNat8, Option.some.injEq, Prod.mk.injEq,
    and_true]
  omega

/-- A signed two-byte field reads back. -/
theorem ds16_s16 {i : Int} (h : -32768 ≤ i) (h' : i ≤ 32767) (l : List Byte) : ds16 (s16 i ++ l) = some (i, l) := by
  have hn : (i % 65536).toNat < 65536 := by omega
  simp only [ds16, s16, d16_e16 hn, Option.map_some, Option.some.injEq, Prod.mk.injEq, and_true]
  split <;> omega

/-- A flag byte reads back. -/
theorem dBool_eBool (b : Bool) (l : List Byte) : dBool (eBool b ++ l) = some (b, l) := by cases b <;> rfl

theorem OriginClass.ofCode_code (c : OriginClass) : OriginClass.ofCode c.code = some c := by cases c <;> rfl
theorem Role.ofCode_code (c : Role) : Role.ofCode c.code = some c := by cases c <;> rfl
theorem Cause.ofCode_code (c : Cause) : Cause.ofCode c.code = some c := by cases c <;> rfl
theorem Reason.ofCode_code (c : Reason) : Reason.ofCode c.code = some c := by cases c <;> rfl
theorem FrameKind.ofCode_code (c : FrameKind) : FrameKind.ofCode c.code = some c := by cases c <;> rfl
theorem ElemRole.ofCode_code (c : ElemRole) : ElemRole.ofCode c.code = some c := by cases c <;> rfl
theorem OriginClass.code_lt (c : OriginClass) : c.code < 256 := by cases c <;> decide
theorem Cause.code_lt (c : Cause) : c.code < 256 := by cases c <;> decide
theorem Reason.code_lt (c : Reason) : c.code < 256 := by cases c <;> decide
theorem FrameKind.code_lt (c : FrameKind) : c.code < 256 := by cases c <;> decide

/-- Hop entries with node IDs and faces in the range of their fields read back. -/
theorem dHops_encodeHops (hops : List Hop) (h : ∀ e ∈ hops, e.node < 65536 ∧ e.ingress < 256 ∧ e.egress < 256)
    (l : List Byte) : dHops hops.length (encodeHops hops ++ l) = some (hops, l) := by
  induction hops with
  | nil => rfl
  | cons e r ih =>
    have he := h e List.mem_cons_self
    have ih' := ih fun x hx => h x (List.mem_cons_of_mem _ hx)
    simp only [encodeHops] at ih'
    simp only [encodeHops, Hop.encode, List.flatMap_cons, e16, e8, List.length_cons, List.cons_append,
      List.nil_append, dHops, toNat_ofNat8, ih', Option.map_some, Option.some.injEq, Prod.mk.injEq,
      List.cons.injEq, and_true]
    obtain ⟨node, ing, eg⟩ := e
    simp only [Hop.mk.injEq] at he ⊢
    omega

/-- An attenuation of the machine reads back. -/
theorem Atten.ofCode_code {a : Atten} (h : a = .blocked ∨ ∃ n, n ≤ 2500 ∧ a = .db n) : Atten.ofCode a.code = a := by
  rcases h with rfl | ⟨n, hn, rfl⟩
  · rfl
  · have hc : ¬n = 65535 := by omega
    simp [Atten.ofCode, Atten.code, hc]

theorem Atten.code_lt {a : Atten} (h : a = .blocked ∨ ∃ n, n ≤ 2500 ∧ a = .db n) : a.code < 65536 := by
  rcases h with rfl | ⟨n, hn, rfl⟩ <;> simp only [Atten.code] <;> omega

/-- Hop reports with every field in range read back. -/
theorem dReports_encodeReports (r : List HopReport)
    (h : ∀ x ∈ r, x.node < 65536 ∧ (x.atten = .blocked ∨ ∃ n, n ≤ 2500 ∧ x.atten = .db n) ∧ -32768 ≤ x.reading ∧
      x.reading ≤ 32767 ∧ x.used < 256) (l : List Byte) :
    dReports r.length (encodeReports r ++ l) = some (r, l) := by
  induction r with
  | nil => rfl
  | cons x r ih =>
    obtain ⟨h1, h2, h3, h4, h5⟩ := h x List.mem_cons_self
    have ih' := ih fun y hy => h y (List.mem_cons_of_mem _ hy)
    have he : encodeReports (x :: r) ++ l = e16 x.node ++ (e16 x.atten.code ++ (s16 x.reading ++ (e8 x.used ++
        (eBool x.guardHeld ++ (encodeReports r ++ l))))) := by
      simp [encodeReports, HopReport.encode, List.append_assoc]
    simp only [List.length_cons, dReports, he, d16_e16 h1, d16_e16 (Atten.code_lt h2), ds16_s16 h3 h4, d8_e8 h5,
      dBool_eBool, ih', Atten.ofCode_code h2, Option.bind_eq_bind, Option.bind_some, Option.pure_def]

/-! The optional parts of a context record. -/

@[simp] theorem partBytes_none {α : Type} (f : α → List Byte) : partBytes none f = [] := rfl
@[simp] theorem partBytes_some {α : Type} (x : α) (f : α → List Byte) : partBytes (some x) f = f x := rfl
@[simp] theorem remainingMs_none (now : Nat) : remainingMs none now = 4294967295 := rfl
@[simp] theorem remainingMs_some (t now : Nat) : remainingMs (some t) now = t - now := rfl

end Sys2Proof.Machine
end

