-- ==== Sys2Proof/WellFormed.lean ====
section
/-! DEFINITION. Which commands the outside world can send: the bounds of R184 on bodies, the range of an instance
number (R21), and what the rows FORWARDING, RESPONSE_EVENT_DELIVERY and UNKNOWN_REQUEST_CODE are for. -/

namespace Sys2Proof

/-- R184: a body of 0 to 1010 bytes. -/
def bodyFits (body : List Byte) : Bool := body.length ≤ 1010

/-- What follows a request code of 1 byte in a body. -/
def paramsFit (params : List Byte) : Bool := params.length ≤ 1009

/-- What follows request code and table code in a body. -/
def writeFits (params : List Byte) : Bool := params.length ≤ 1008

/-- R21: an instance number lies in 1 to 4,294,967,295. -/
def instFits (n : Nat) : Bool := 1 ≤ n && n ≤ 4294967295

/-- Whether a command is one the outside world can send. -/
def Instr.wf : Instr → Bool
  | .powerOnReset _ => true
  | .signalPresent _ => true
  | .signalLost _ => true
  | .carrierPresent => true
  | .carrierLost => true
  | .burstReport _ _ => true
  | .rxFrameRejected _ _ => true
  | .hello _ body => bodyFits body
  | .setup _ body => bodyFits body
  | .setupAck _ body => bodyFits body
  | .setupReject _ body => bodyFits body
  | .probe _ body => bodyFits body
  | .probeAck _ body => bodyFits body
  | .probeNak _ body => bodyFits body
  | .advance _ body => bodyFits body
  | .ready _ body => bodyFits body
  | .fault _ body => bodyFits body
  | .teardown _ body => bodyFits body
  | .forwarding h _ body => bodyFits body && h.dst != 0#16 && h.dst != 65535#16
  | .responseEventDelivery h _ body => bodyFits body && h.dst != 0#16 && h.dst != 65535#16
  | .unknownRequestCode _ body => bodyFits body && !Machine.namesRequest body
  | .tableRead _ params => paramsFit params
  | .faceDescriptorWrite _ params => writeFits params
  | .blockDescriptorWrite _ params => writeFits params
  | .slotEntryWrite _ params => writeFits params
  | .faceSettingsWrite _ params => writeFits params
  | .profileWrite _ params => writeFits params
  | .elementWrite _ params => writeFits params
  | .routeWrite _ params => writeFits params
  | .nodeSettingsWrite _ params => writeFits params
  | .flagsClear _ params => paramsFit params
  | .commission _ params => paramsFit params
  | .withdraw _ params => paramsFit params
  | .adopt _ params => paramsFit params
  | .contextRead _ params => paramsFit params
  | .contextList _ params => paramsFit params
  | .contextDiscard _ params => paramsFit params
  | .elementRead _ params => paramsFit params
  | .elementRevive _ params => paramsFit params
  | .capabilityIdentify _ params => paramsFit params
  | .capabilitySet _ params => paramsFit params
  | .capabilityRestore _ params => paramsFit params
  | .capabilityFreeze _ params => paramsFit params
  | .countersRead _ params => paramsFit params
  | .nodeReset _ params => paramsFit params
  | .helloTimerExpiry _ => true
  | .deadTimerExpiry _ => true
  | .deadlineExpiry _ inst => instFits inst
  | .probeDwellExpiry _ inst => instFits inst
  | .probeWindowExpiry _ inst => instFits inst
  | .stepDwellExpiry _ inst => instFits inst
  | .auditTimerExpiry _ => true
  | .settlePeriodEnd _ => true
  | .turnaroundEnd => true
  | .elementAnswer _ _ => true
  | .responseTimeout => true
  | .transmissionEnd _ => true

end Sys2Proof
end

