-- ==== Sys2Proof/Tests/Slice0.lean ====
section
/-! SUPPORT. Tests: the well-formedness check refuses what it should, single steps against values worked out from
the spec, and, for every statement with hypotheses, concrete states and operands that meet them. -/

namespace Sys2Proof.Tests

-- The tests are checked one after another, so that their kernel checks do not run on many threads at once.
set_option Elab.async false

open Sys2Proof Sys2Proof.Machine

/-! ## A small node and what it receives -/

def w (l : List Nat) : List Byte := l.map (BitVec.ofNat 8)

/-- A commissioning frame's header on port `p`. -/
def link (p : Fin 9) : Hdr := ⟨p, 65535#16, 101#16, 1#8, 9#8⟩

/-- A management frame's header on port 8, for `dst`. -/
def mgmt (dst : BitVec 16) : Hdr := ⟨8, dst, 900#16, 5#8, 9#8⟩

def toNode : Hdr := mgmt 205#16

def upPort : Port := { Port.initial with link := .up, neighbour := some (101, 1), deadTimer := some 100200 }

def eqFace : FaceDesc := ⟨true, false, ⟨true, true, true⟩, false, 0⟩

def settings (interval : Nat) : FaceSettings :=
  { FaceSettings.initial with wss := some 3, monitor := some 4, auditInterval := interval }

/-- Node 205 at 100 s: ports 0, 1 and 8 UP; faces 0, 1 and 8 equipped with their first block each and with switch 3
and monitor 4. -/
def node : State :=
  { State.resetWith 205 with
      now := 100000, pins := ⟨⟨[(0, true), (1, true)]⟩, true⟩,
      dir := ⟨⟨[(0, eqFace), (1, eqFace), (8, eqFace)]⟩,
        ⟨[(0, ⟨true, false, 0, false⟩), (24, ⟨true, false, 1, false⟩), (192, ⟨true, false, 2, false⟩)]⟩, ⟨[]⟩⟩,
      ramp := ⟨⟨[]⟩, ⟨[(0, settings 0), (1, settings 0), (8, settings 0)]⟩, ⟨[]⟩⟩,
      bus := { ElementBus.reset with
        elems := ⟨[(3, ⟨.wss, 20, 0, .ok, 0, none⟩), (4, ⟨.monitor, 20, 0, .ok, 0, none⟩)]⟩ },
      ports := ⟨[(0, upPort), (1, upPort), (8, { Port.initial with link := .up })]⟩ }

/-- A record of lightpath 900, instance 7, with the faces of its role. -/
def record (role : Role) (st : CtxState) : Context :=
  { inst := 7, lpId := 900, role := role,
    ingress := match role with | .head => 8 | _ => 0, egress := match role with | .tail => 8 | _ => 1,
    upPort := match role with | .head => none | _ => some 0,
    downPort := match role with | .tail => none | _ => some 1,
    first := 2, count := 4, cls := .planned, profile := 0, trim := 0, pilot := 5,
    hopIndex := match role with | .head => 0 | .transit => 1 | .tail => 2, hopCount := 3, st := st,
    target := -398, atten := .db 1000, lastReading := none, readingsUsed := 0, settledRun := 0, probeLevel := 0,
    adopted := false, guardHeld := false, pilotValidated := false, setupAcked := true, deadline := some 90000,
    hopList := match role with | .head => some [⟨205, 8, 1⟩, ⟨206, 2, 3⟩, ⟨207, 4, 9⟩] | _ => none,
    hopReports := none, watch := none, faultRec := none, drift := none, probeTimer := none, work := ProbeWork.none,
    carried := none, rampHeld := false, rampDwell := none }

/-- The node with the record at handle 7. -/
def holding (c : Context) : State := { node with table := ⟨⟨[(7, some c)]⟩, 8, []⟩ }

/-- The node with the record's face in a ramp condition. -/
def ramping (c : Context) (r : RampFace) : State :=
  { holding c with ramp := { node.ramp with faces := ⟨[(c.egress, r)]⟩ } }

/-- The turn of a face held by the record. -/
def turnHeld : RampFace := ⟨[], some (7, 7), false, false⟩

/-- The node with a transaction on the bus. -/
def busy (t : Txn) (phase : BusPhase) : State :=
  { node with bus := { node.bus with
      onBus := some ⟨⟨.ramp, 0, 3, t, false, 2, 4, .ctx 7 7 (.rampSet 900)⟩, t, 6, 20, phase, false⟩ } }

/-- A frame of a kind with an empty body. -/
def frame (k : FrameKind) : Frame := ⟨k, 65535, 101, 1, 9#8, []⟩

/-- The state an outcome goes on with. -/
def nextOf (o : Host.Outcome State Fault Refusal) : State :=
  match o with
  | .next t => t
  | .fault _ => State.reset
  | .refused _ => State.reset

/-! ## Well-formedness: each check refuses an ill-formed term -/

theorem test_wf_long_body : (Instr.hello (link 0) (List.replicate 1011 0#8)).wf = false := by decide +kernel
theorem test_wf_full_body : (Instr.hello (link 0) (List.replicate 1010 0#8)).wf = true := by decide +kernel
theorem test_wf_long_params : (Instr.commission toNode (List.replicate 1010 0#8)).wf = false := by decide +kernel
theorem test_wf_long_write : (Instr.profileWrite toNode (List.replicate 1009 0#8)).wf = false := by decide +kernel
theorem test_wf_instance_zero : (Instr.deadlineExpiry 0 0).wf = false := by decide
theorem test_wf_instance_above : (Instr.stepDwellExpiry 0 4294967296).wf = false := by decide
theorem test_wf_instance_most : (Instr.probeDwellExpiry 0 4294967295).wf = true := by decide
theorem test_wf_forwarding_zero : (Instr.forwarding (mgmt 0#16) .event []).wf = false := by decide
theorem test_wf_forwarding_adjacent : (Instr.forwarding (mgmt 65535#16) .event []).wf = false := by decide
theorem test_wf_delivery_zero : (Instr.responseEventDelivery (mgmt 0#16) .event []).wf = false := by decide
theorem test_wf_delivery_adjacent : (Instr.responseEventDelivery (mgmt 65535#16) .event []).wf = false := by decide
theorem test_wf_unknown_names_request : (Instr.unknownRequestCode toNode (w [0x40, 0])).wf = false := by decide
theorem test_wf_unknown_names_table : (Instr.unknownRequestCode toNode (w [0x02, 8])).wf = false := by decide
theorem test_wf_unknown_code : (Instr.unknownRequestCode toNode (w [0x02, 9])).wf = true := by decide

/-! ## Values worked out from the spec -/

/-- The check value of the generator of R185 over the nine characters 1 to 9 of ASCII. -/
theorem test_crc_check_value : crc32 (w [49, 50, 51, 52, 53, 54, 55, 56, 57]) = 0xCBF43926#32 := by decide +kernel

/-- Section 5.5, first worked case: the target is −1000 + 778 − 50. -/
theorem test_target_worked : targetOf (-1000) 6 (-50) = -272 := by decide

/-- Section 5.5: the limit is the transient ceiling 150; 350·6/8 rounds up to 263 and 50·6/8 to 38. -/
theorem test_step_worked_limited : stepAtten 350 1750 (stepChange 350 6 (stepLimit 200 300 4 150)) = 1600 := by decide
theorem test_step_worked_rounded : stepAtten 50 1450 (stepChange 50 6 (stepLimit 200 300 4 150)) = 1412 := by decide
theorem test_step_dark_face : stepChange 350 6 (stepLimit 200 300 0 150) = 200 := by decide

/-- Section 5.5: readings 5 and 6 of the worked case lie in the deadband and settle at the second. -/
theorem test_settle_worked :
    judgeReading { Profile.initial with sMax := 200 } 1000 (-272) 1 5 1412 (-284) = .dwell ∧
    judgeReading { Profile.initial with sMax := 200 } 1000 (-272) 2 6 1412 (-284) = .settle := by decide

/-- R105: at attenuation 0 with light still missing the reading is SHORTFALL. -/
theorem test_shortfall : judgeReading Profile.initial 1000 (-1000) 0 5 0 (-1100) = .fault .shortfall := by decide

/-- Section 5.6: the withdrawal's eleventh setting is cut to 2500. -/
theorem test_withdraw_step_cut :
    (nextOf (exec (.stepDwellExpiry 7 7) (ramping { record .head .withdrawing with
      atten := .db 2412, rampDwell := some 90000 } turnHeld))).bus.onBus.map (·.txn) =
      some (.setAtten 2500) := by decide +kernel

/-- R159, R184: a HELLO of node 205 on port 2, byte by byte, length 17. -/
theorem test_hello_bytes :
    ((Frame.encode ⟨.hello, 65535, 205, 1, 0#8, helloBody 205 2⟩).take 13) =
      w [1, 0x01, 0, 17, 255, 255, 0, 205, 1, 0, 0, 205, 2] := by decide +kernel

/-- Section 11.4: the context record byte by byte, the parts mask of no part last. -/
theorem test_context_record_bytes :
    (record .tail .settled).encode 7 89000 =
      w [7, 0, 0, 0, 7, 0, 0, 3, 132, 3, 5, 0, 8, 0, 255, 0, 2, 4, 1, 0, 0, 0, 0, 5, 2, 3, 254, 114, 3, 232, 128, 0, 0,
        0, 0, 0, 0, 3, 232, 8, 0] := by decide +kernel

/-- R184: BLOCKED is sent as 0xFFFF, an absent reading as 0x8000. -/
theorem test_absent_values : e16 Atten.blocked.code ++ s16 (-32768) = w [255, 255, 128, 0] := by decide

/-- R7: NOT_EQUIPPED ranks before SPECTRUM_BUSY and GUARDED, whichever slot is read first. -/
theorem test_reason_order :
    judgeWalks .planned [.found .barred true ⟨true, true, true⟩, .blockAbsent] = some .notEquipped := by decide

/-- R95: a RESTORE context stands behind the RESTORE entries and ahead of the others. -/
theorem test_restore_ahead :
    joinQueue [⟨1, 1, .restore⟩, ⟨2, 2, .planned⟩] ⟨3, 3, .restore⟩ =
      [⟨1, 1, .restore⟩, ⟨3, 3, .restore⟩, ⟨2, 2, .planned⟩] := by decide

/-- R162: the third counted HELLO takes the port UP with the sender as neighbour. -/
theorem test_third_hello :
    ((nextOf (exec (.hello (link 2) (helloBody 317 5))
      { node with ports := ⟨[(2, { Port.initial with link := .acquire, acq := some ⟨317, 2, 99700⟩ })]⟩ })).port 2).neighbour =
      some (317, 5) := by decide +kernel

/-- R161: three intervals and 1 ms later the count starts again at 1. -/
theorem test_hello_too_late :
    ((nextOf (exec (.hello (link 2) (helloBody 317 5))
      { node with ports := ⟨[(2, { Port.initial with link := .acquire, acq := some ⟨317, 2, 99699⟩ })]⟩ })).port 2).acq =
      some ⟨317, 1, 100000⟩ := by decide +kernel

/-- R176: a span limit of 0 is brought up to 1 and a concurrency limit of 20 down to 16; the answer is CLAMPED. -/
theorem test_capability_clamped :
    (nextOf (exec (.capabilitySet toNode (w [20, 0, 1, 1, 44, 0])) node)).resp.overlay =
      ⟨16, 1, ⟨true, false, false⟩, 300, false⟩ := by decide +kernel

/-- R18: a FREE slot made FOREIGN raises the face's live count by 1. -/
theorem test_foreign_counts :
    ((nextOf (exec (.slotEntryWrite toNode (w [1, 0, 5, 3, 0, 0, 0, 0])) node)).face 1).live = 1 := by decide +kernel

/-- R2, R16: a block may not take a page that another present block names; the answer is IN_USE and page 1 stays. -/
theorem test_page_taken :
    ((nextOf (exec (.blockDescriptorWrite toNode (w [1, 0, 0, 1, 0, 0, 0, 0])) node)).block 1 0).page = 1 := by
  decide +kernel

/-- R167: a frame with hop limit 1 for another node is dropped and counted. -/
theorem test_hop_limit :
    ((nextOf (exec (.forwarding ⟨0, 317#16, 900#16, 1#8, 9#8⟩ .event []) node)).port 0).counters.hopLimit = 1 := by
  decide +kernel

/-- R147: an ACK frees the bus and clears a SUSPECT element. -/
theorem test_ack_ends :
    let s := busy .setBlock (.waiting 100005)
    let t := nextOf (exec (.elementAnswer 6 .ack) (s.modElem 3 fun x => { x with health := .suspect }))
    t.bus.onBus = none ∧ (t.elem 3).health = .ok := by decide +kernel

/-- R155: a second failure in a row makes the element FAILED. -/
theorem test_second_nak :
    let s := busy .setBlock (.waiting 100005)
    ((nextOf (exec (.elementAnswer 6 .nak) (s.modElem 3 fun x => { x with health := .suspect }))).elem 3).health =
      .failed := by decide +kernel

/-! ## States and operands that meet the hypotheses of each statement

Each theorem below is named after its statement; its clauses follow the statement's, at a boundary value where a
clause has a range. -/

theorem node_atRest : AtRest node := by unfold AtRest; decide +kernel
theorem holding_atRest (c : Context) : AtRest (holding c) := node_atRest
theorem link_onLink : OnLink (link 0) node ∧ OnLink (link 1) node := by unfold OnLink; decide +kernel
theorem toNode_forNode : ForNode toNode node := by unfold ForNode; decide +kernel

/-- A held record of lightpath 900 is found, and holds no place in a ramp queue. -/
theorem holding_found (c : Context) (h : c.lpId = 900) :
    (holding c).ctx 7 = some c ∧ findLp (holding c) 900 = some (7, c) ∧ OffRamp 7 c (holding c) := by
  refine ⟨rfl, by simp [findLp, holding, h], fun x => ?_, fun e he => ?_⟩
  · exact absurd x (by simp [holding, node, State.rampFace, Tab.get, Tab.lookup, RampFace.initial])
  · exact absurd he (by simp [holding, node, State.rampFace, Tab.get, Tab.lookup, RampFace.initial])

/-- The requests of a record's egress face are placeable at the switch and the monitor. -/
theorem holding_placeable (c : Context) (h : c.egress = 1 ∨ c.egress = 8) :
    Placeable .ramp ((holding c).faceSet c.egress).wss 3 (holding c) ∧
    Placeable .safety ((holding c).faceSet c.egress).wss 3 (holding c) ∧
    Placeable .audit ((holding c).faceSet c.egress).wss 3 (holding c) ∧
    Placeable .ramp ((holding c).faceSet c.egress).monitor 4 (holding c) ∧
    Placeable .audit ((holding c).faceSet c.egress).monitor 4 (holding c) := by
  have k : ∀ f, f = 1 ∨ f = 8 →
      Placeable .ramp (node.faceSet f).wss 3 node ∧ Placeable .safety (node.faceSet f).wss 3 node ∧
      Placeable .audit (node.faceSet f).wss 3 node ∧ Placeable .ramp (node.faceSet f).monitor 4 node ∧
      Placeable .audit (node.faceSet f).monitor 4 node := by
    rintro f (rfl | rfl) <;> (unfold Placeable; decide +kernel)
  exact k c.egress h

theorem witness_SignalAndCarrierTaken :
    (State.reset.port 0).link = .down ∧ nodeIdValid State.reset = true ∧
    ((nextOf (exec (.signalPresent 7) State.reset)).port 7).link = .acquire ∧
    (node.port 8).link = .up ∧ (State.reset.port 8).link ≠ .up := by decide +kernel

theorem witness_LeavingUpFaultsNamedContexts :
    (node.port 0).link = .up ∧ node.work = [] ∧ node.told = [] ∧
    (link 0).port.val = 0 ∧ parseHello (helloBody 317 5) = some (317, 5) ∧ 317 ≠ node.switch.nodeId ∧
    (node.port 0).neighbour.map (·.1) ≠ some 317 ∧ (record .transit .reserved).st.faultable = true ∧
    (record .transit .reserved).downPort = some 1 ∧
    due ({ node with now := 100200 }.port 1).deadTimer 100200 = true ∧ ({ node with now := 100200 }.port 1).link = .up ∧
    (holding (record .transit .reserved)).ctx 7 = some (record .transit .reserved) ∧
    (record .transit .reserved).upPort = some 0 ∧
    (holding (record .transit .inService)).ctx 7 = some (record .transit .inService) ∧
    (record .transit .inService).st = .inService := by decide +kernel

/-- A node whose port 0 acquires candidate 317, counted twice, the last time exactly three intervals ago. -/
def acquiring (count time : Nat) : State :=
  { node with ports := ⟨[(0, { Port.initial with link := .acquire, acq := some ⟨317, count, time⟩ })]⟩ }

theorem witness_HelloMovesLinkMachine :
    AtRest node ∧ parseHello (w [1, 2]) = none ∧ parseHello (helloBody 205 3) = some (205, 3) ∧
    (mgmt 65535#16).port.val = 8 ∧ (link 0).port.val < 8 ∧ parseHello (helloBody 317 3) = some (317, 3) ∧
    (317 ≠ node.switch.nodeId) ∧ (node.port 2).link = .down ∧
    ((acquiring 1 99700).port 0).link = .acquire ∧ ((acquiring 1 99700).port 0).acq = some ⟨317, 1, 99700⟩ ∧
    (acquiring 1 99700).now ≤ 99700 + 3 * ((acquiring 1 99700).faceSet 0).helloInterval ∧ 1 + 1 < 3 ∧
    ((acquiring 2 99700).port 0).acq = some ⟨317, 2, 99700⟩ ∧ 3 ≤ 2 + 1 ∧
    99699 + 3 * ((acquiring 2 99699).faceSet 0).helloInterval < (acquiring 2 99699).now ∧
    (node.port 0).link = .up ∧ parseHello (helloBody 101 1) = some (101, 1) ∧
    (node.port 0).neighbour = some (101, 1) ∧ 101 ≠ 317 := by
  refine ⟨node_atRest, ?_⟩; decide +kernel

theorem witness_HelloTimerAndTransmissionEnd :
    ¬(due (node.port 0).deadTimer node.now = true ∧ (node.port 0).link = .up) ∧ (node.port 0).line = none ∧
    ({ node with ports := ⟨[(0, { upPort with line := some (frame .hello) })]⟩ }.port 0).line = some (frame .hello) := by
  decide +kernel

theorem witness_FrameHandOver :
    let full : Port := { upPort with urgent := List.replicate 16 (frame .setup), bulk := List.replicate 32 (frame .event),
                                     line := some (frame .event) }
    let last : Port := { upPort with urgent := List.replicate 15 (frame .setup), bulk := List.replicate 31 (frame .event),
                                     line := some (frame .event) }
    (Port.initial.link ≠ .up ∧ ¬(Port.initial.link = .acquire ∧ (frame .hello).kind = .hello)) ∧
    (full.link = .up ∧ 16 ≤ full.urgent.length ∧ 32 ≤ full.bulk.length ∧ (frame .setup).kind ≠ .event ∧
      (frame .setup).kind ≠ .mgmtRequest ∧ (frame .setup).kind ≠ .mgmtResponse ∧ (frame .event).kind = .event) ∧
    (last.link = .up ∧ last.urgent.length < 16 ∧ last.bulk.length < 32 ∧ last.line = some (frame .event)) ∧
    (upPort.link = .up ∧ upPort.line = none ∧ upPort.urgent = [] ∧ upPort.bulk = []) := by decide

theorem witness_RejectedFramesCounted :
    let sealed_ (l : List Byte) : List Byte := l ++ e32 (crc32 l).toNat
    let long := sealed_ (w [2, 0x30, 0, 15, 0, 0, 0, 0, 0, 0]);
    (w [1, 2, 3, 4]).length = 4 ∧
    (w [1, 2, 3, 4]).drop ((w [1, 2, 3, 4]).length - 4) ≠ e32 (crc32 ((w [1, 2, 3, 4]).take ((w [1, 2, 3, 4]).length - 4))).toNat ∧
    (sealed_ (w [1, 1, 1, 1, 1, 1, 1, 1, 1])).length = 13 ∧
    (sealed_ []).drop ((sealed_ []).length - 4) = e32 (crc32 ((sealed_ []).take ((sealed_ []).length - 4))).toNat ∧
    long.take (long.length - 4) = e8 2 ++ e8 0x30 ++ e16 15 ++ e16 0 ++ e16 0 ++ e8 0 ++ e8 0 ++ [] ∧
    long.length = 14 + 0 ∧ long.drop (long.length - 4) = e32 (crc32 (long.take (long.length - 4))).toNat ∧
    FrameKind.ofCode 0x30 = none ∧ 15 ≠ long.length := by decide +kernel

/-- A SETUP at every upper bound: 32 hops, count 255, trim 300, pilot 4095. -/
def widestSetup : SetupBody :=
  ⟨4294967295, 65535, 255, .maint, 255, 300, 4095, 31, List.replicate 32 ⟨65535, 11, 11⟩⟩

theorem witness_FramesAndBodiesRoundTrip :
    (frame .setup).dst < 65536 ∧ (List.replicate 1010 0#8).length ≤ 1010 ∧
    widestSetup.id < 4294967296 ∧ widestSetup.first < 65536 ∧ widestSetup.count < 256 ∧ widestSetup.profile < 256 ∧
    widestSetup.pilot < 65536 ∧ widestSetup.sound = true ∧ (∀ e ∈ widestSetup.hops, e.node < 65536) ∧
    (let r : HopReport := ⟨65535, .db 2500, -32768, 255, true⟩;
      1 ≤ [r].length ∧ r.node < 65536 ∧ (2500 ≤ 2500 ∧ r.atten = .db 2500) ∧ -32768 ≤ r.reading ∧ r.reading ≤ 32767 ∧
        r.used < 256) ∧
    (let b : TeardownBody := ⟨1, 1, [⟨0, 0, 0⟩, ⟨65535, 11, 11⟩]⟩;
      0 < b.id ∧ 2 ≤ b.hops.length ∧ b.hops.length ≤ 32 ∧ 1 ≤ b.cursor ∧ b.cursor + 1 ≤ b.hops.length ∧
        ∀ e ∈ b.hops, e.node < 65536 ∧ e.ingress ≤ 11 ∧ e.egress ≤ 11) ∧
    Direction.upstream ≠ .here := by decide +kernel

theorem witness_CommissioningFramesScreened :
    linkFrame (.probe (link 0) (probeBody 900 3)) = some (link 0, true) ∧
    linkFrame (.probe (link 0) (probeBody 900 4)) = some (link 0, false) ∧
    (node.port (link 2).port).link ≠ .up ∧ (node.port (link 0).port).link = .up ∧ (mgmt 65535#16).port.val = 8 ∧
    toNode.dst.toNat ≠ 65535 ∧ findLp node 900 = none ∧ parseId (idBody 900) = some 900 ∧
    parseReject (rejectBody 900 .badHop 3) = some (900, .badHop, 3) ∧ parseProbe (probeBody 900 3) = some (900, 3) ∧
    parseProbeAck (probeAckBody 900 3 true) = some (900, 3, true) ∧
    parseProbeNak (probeNakBody 900 0 7) = some (900, 0, 7) ∧
    parseReports (reportsBody 900 [⟨1, .blocked, 0, 1, false⟩]) = some (900, [⟨1, .blocked, 0, 1, false⟩]) ∧
    parseFault (faultBody 900 .element 5 .upstream) = some (900, .element, 5, .upstream) := by decide +kernel

theorem witness_RequestsScreened :
    (requestParts (.nodeReset toNode [1#8])).map (·.good) = some false ∧ (node.port toNode.port).link = .up ∧
    (node.port (link 2).port).link ≠ .up ∧ ForNode toNode node ∧ (mgmt 0#16).dst = 0#16 ∧ node.switch.nodeId ≠ 0 ∧
    (mgmt 317#16).dst ≠ 0#16 ∧ (mgmt 317#16).dst ≠ 65535#16 ∧ (mgmt 317#16).dst.toNat ≠ node.switch.nodeId := by
  unfold ForNode; decide +kernel

/-- The node with two routes that accept 317 and a default port. -/
def routed : State :=
  { node with switch := ⟨205, ⟨[(4, ⟨true, 316, 65534, 1⟩), (31, ⟨true, 0, 0, 0⟩)]⟩, ⟨some 8, 0, 32, 20⟩⟩ }

theorem witness_ManagementFramesSwitched :
    (routed.port (mgmt 317#16).port).link = .up ∧ (mgmt 317#16).dst ≠ 0#16 ∧ (mgmt 317#16).dst ≠ 65535#16 ∧
    (mgmt 317#16).dst.toNat ≠ routed.switch.nodeId ∧ (link 0).hop.toNat ≤ 1 ∧ 2 ≤ (mgmt 317#16).hop.toNat ∧
    (routed.switch.routes.get 4).valid = true ∧ 316 &&& 65534 = 317 &&& 65534 ∧
    (∀ j, j < 4 → (routed.switch.routes.get j).valid = true →
      (routed.switch.routes.get j).base &&& (routed.switch.routes.get j).mask ≠
        317 &&& (routed.switch.routes.get j).mask) ∧
    (∀ j, j < 32 → (node.switch.routes.get j).valid = true →
      (node.switch.routes.get j).base &&& (node.switch.routes.get j).mask ≠ 317 &&& (node.switch.routes.get j).mask) ∧
    toNode.dst.toNat = routed.switch.nodeId ∧ (mgmt 65535#16).dst = 65535#16 ∧ routed.switch.nodeId ≠ 65535 ∧
    ForNode toNode routed ∧ namesRequest (w [0x60, 1]) = false ∧ namesRequest [] = false := by
  unfold ForNode; decide +kernel

/-- The node with a span of four slots owned on face 1 and linked from face 0, as its record needs. -/
def spanned : State :=
  { node with dir := { node.dir with entries :=
      ⟨[(0, ⟨.indirect 1 0, false, false⟩), (1, ⟨.indirect 9 0, false, false⟩), (16, ⟨.owned 7, true, false⟩)]⟩ } }

theorem witness_WalkFollowsOneLink :
    (spanned.face 11).present = false ∧ (spanned.face 0).present = true ∧ (spanned.block 0 23).present = false ∧
    (spanned.block 0 0).present = true ∧ (spanned.entry 1 0).kind = .owned 7 ∧
    (spanned.entry 0 0).kind = .indirect 1 0 ∧ (spanned.face 1).present = true ∧ (spanned.block 1 0).present = true ∧
    (spanned.entry 0 1).kind = .indirect 9 0 ∧ (spanned.face 9).present = false ∧
    ({ spanned with dir := { spanned.dir with blocks := ⟨[(0, ⟨true, false, 0, false⟩)]⟩ } }.block 1 0).present = false ∧
    (WalkResult.found .free false ⟨false, true, true⟩ ∈ [WalkResult.found .free false ⟨false, true, true⟩] ∧
      (⟨false, true, true⟩ : ClassMask).allows .planned = false) ∧
    (∀ x ∈ [WalkResult.found .foreign true ClassMask.all], x ≠ .faceAbsent ∧ x ≠ .blockAbsent) ∧
    EntryKind.foreign ≠ .free := by
  decide +kernel

theorem node_blocks (f b : Nat) : f ≤ 11 → b ≤ 23 → (node.block f b).present = true →
    b = 0 ∧ ((f = 0 ∧ (node.block f b).page = 0) ∨ (f = 1 ∧ (node.block f b).page = 1) ∨
      (f = 8 ∧ (node.block f b).page = 2)) := by
  have h : ∀ f : Fin 12, ∀ b : Fin 24, (node.block f b).present = true →
      b.val = 0 ∧ ((f.val = 0 ∧ (node.block f b).page = 0) ∨ (f.val = 1 ∧ (node.block f b).page = 1) ∨
        (f.val = 8 ∧ (node.block f b).page = 2)) := by decide +kernel
  exact fun hf hb => h ⟨f, by omega⟩ ⟨b, by omega⟩

theorem node_law10 : Law10 node := by
  intro f b g c hf hb hg hc h1 h2 he
  have h3 := node_blocks f b hf hb h1
  have h4 := node_blocks g c hg hc h2
  omega

theorem witness_SpanReservedAndFreed :
    Law10 node ∧ 0 ≤ 11 ∧ 1 ≤ 11 ∧ 0 ≠ 1 ∧ 12 + 4 ≤ 384 ∧ (∀ n, n < 16 → 12 ≤ n →
      (node.block 0 (n / 16)).present = true ∧ (node.block 1 (n / 16)).present = true) ∧
    (node.face 0).present = true ∧ (node.face 1).present = true :=
  ⟨node_law10, by decide +kernel⟩

/-- Two records being set up, at handles 7 and 9, with IDs and pilot codes that differ. -/
def two : State :=
  { node with table := ⟨⟨[(7, some { record .transit .reserved with cls := .restore }),
      (9, some { record .head .reserved with lpId := 901, inst := 8, pilot := 6, setupAcked := false })]⟩, 9, []⟩ }

theorem two_cases {h : Nat} {c : Context} (hc : two.ctx h = some c) :
    (h = 7 ∧ c = { record .transit .reserved with cls := .restore }) ∨
    (h = 9 ∧ c = { record .head .reserved with lpId := 901, inst := 8, pilot := 6, setupAcked := false }) := by
  have hw : two.table.recs.wf := by decide +kernel
  have hm := (Tab.mem_cells hw h (some c)).2 ⟨hc, by simp⟩
  simpa [two] using hm

/-- The node with a transit in service: its slots 2 to 5 owned on face 1 and linked from face 0, and one FOREIGN slot. -/
def serving : State :=
  { holding (record .transit .inService) with dir :=
      ⟨⟨[(0, eqFace), (1, { eqFace with live := 5 }), (8, eqFace)]⟩, node.dir.blocks,
        ⟨(List.range 4).map (fun i => (2 + i, ⟨.indirect 1 (2 + i), false, false⟩)) ++
          (List.range 4).map (fun i => (18 + i, ⟨.owned 7, true, false⟩)) ++ [(31, ⟨.foreign, false, false⟩)]⟩⟩ }

theorem serving_record {h : Nat} {c : Context} (hc : serving.ctx h = some c) :
    h = 7 ∧ c = record .transit .inService := by
  have hm := (Tab.mem_cells (t := serving.table.recs) (by decide +kernel) h (some c)).2 ⟨hc, by simp⟩
  simpa [serving, holding] using hm

theorem serving_spectrum : SpectrumLaws serving := by
  have hk : ∀ f : Fin 12, ∀ n : Fin 384, (match slotKind serving f n with
      | some (.owned h) => h = 7 ∧ f.val = 1 ∧ 2 ≤ n.val ∧ n.val < 6
      | some (.indirect g m) => m = n.val ∧ g = 1 ∧ f.val = 0 ∧ 2 ≤ n.val ∧ n.val < 6
      | _ => True) := by
    have h : ∀ f : Fin 12, ∀ n : Fin 384, (match slotKind serving f n with
        | some (.owned h) => decide (h = 7 ∧ f.val = 1 ∧ 2 ≤ n.val ∧ n.val < 6)
        | some (.indirect g m) => decide (m = n.val ∧ g = 1 ∧ f.val = 0 ∧ 2 ≤ n.val ∧ n.val < 6)
        | _ => true) = true := by decide +kernel
    intro f n
    have := h f n
    split at this <;> simp_all
  have hs : ∀ n, 2 ≤ n → n < 6 →
      slotKind serving 1 n = some (.owned 7) ∧ slotKind serving 0 n = some (.indirect 1 n) := by
    intro n h1 h2
    obtain rfl | rfl | rfl | rfl : n = 2 ∨ n = 3 ∨ n = 4 ∨ n = 5 := by omega
    all_goals decide +kernel
  refine ⟨by decide +kernel, fun h c hc => ?_, ⟨fun h c n hc hn => ?_, fun f n h hf hn he => ?_⟩,
    ⟨fun h c n hc hn => ?_, fun f n g m hf hn he => ?_⟩, ?_, node_law10⟩
  · obtain ⟨rfl, rfl⟩ := serving_record hc; decide +kernel
  · obtain ⟨rfl, rfl⟩ := serving_record hc; exact (hs n hn.1 hn.2).1
  · have := hk ⟨f, by omega⟩ ⟨n, by omega⟩
    simp only [he] at this
    obtain ⟨rfl, rfl, h1, h2⟩ := this
    exact ⟨record .transit .inService, by decide +kernel, rfl, h1, h2⟩
  · obtain ⟨rfl, rfl⟩ := serving_record hc; exact (hs n hn.1 hn.2).2
  · have := hk ⟨f, by omega⟩ ⟨n, by omega⟩
    simp only [he] at this
    obtain ⟨rfl, rfl, rfl, h1, h2⟩ := this
    exact ⟨rfl, 7, record .transit .inService, by decide +kernel, rfl, rfl, h1, h2⟩
  · have h : ∀ f : Fin 12, (serving.face f).live = foreignSlots serving f + countedSlots serving f := by decide +kernel
    exact fun f hf => h ⟨f, by omega⟩

theorem witness_EveryStepKeepsPagesApart :
    Law10 node ∧ step node = .next (tick node) ∧ SpectrumLaws serving ∧ step serving = .next (tick serving) :=
  ⟨node_law10, rfl, serving_spectrum, rfl⟩

theorem witness_EveryStepKeepsActiveLimit : Law3 two ∧ activeCount two = 2 ∧ step two = .next (tick two) := by
  refine ⟨?_, by decide +kernel, rfl⟩
  unfold Law3; decide +kernel

theorem witness_EveryStepKeepsIdentifiersApart : Law8 two ∧ step two = .next (tick two) := by
  refine ⟨⟨by decide +kernel, fun h k c d hc hd hn => ?_⟩, rfl⟩
  rcases two_cases hc with ⟨rfl, rfl⟩ | ⟨rfl, rfl⟩ <;> rcases two_cases hd with ⟨rfl, rfl⟩ | ⟨rfl, rfl⟩ <;>
    first | exact absurd rfl hn | decide

theorem witness_RecordIdentityFixed :
    two.table.recs.wf ∧ (∀ h x, two.ctx h = some x → x.st = .reserved → x.probeLevel = 0) ∧
    ∃ t y, exec .carrierPresent two = .next t ∧ two.ctx 9 = some y ∧ t.ctx 9 = some y := by
  refine ⟨by decide +kernel, fun h x hx _ => ?_, _, _, rfl, rfl, rfl⟩
  rcases two_cases hx with ⟨-, rfl⟩ | ⟨-, rfl⟩ <;> rfl

/-- A SETUP at the second of three hops, or at the second of two. -/
def setupAt (last : Bool) : SetupBody :=
  ⟨901, 12, 4, .planned, 7, 300, 4095, 1,
    [⟨101, 8, 2⟩, ⟨205, 0, if last then 8 else 1⟩] ++ (if last then [] else [⟨300, 2, 9⟩])⟩

theorem witness_SetupJudged :
    OnLink (link 0) node ∧
    (∀ last, parseSetup (setupAt last).encode = some (setupAt last)) ∧
    (setupAt false).hops[(setupAt false).cursor]? = some ⟨205, 0, 1⟩ ∧
    (setupAt true).hops[(setupAt true).cursor]? = some ⟨205, 0, 8⟩ ∧ (link 1).port.val ≠ 0 ∧
    (205 = node.switch.nodeId) ∧ ¬(1 ≤ 0 ∧ 0 ≤ 16) ∧
    (∀ last, findLp node (setupAt last).id = none ∧ node.resp.overlay.classes.allows (setupAt last).cls = true ∧
      (setupAt last).count ≤ node.resp.overlay.span ∧ activeCount node < node.resp.overlay.concurrency ∧
      node.ctx 0 = none ∧ (setupAt last).profile ≤ 7 ∧ pilotInUse node (setupAt last).pilot = false ∧
      judgeWalks .planned ((admitWalks node 0 (if last then 8 else 1) 12 4).map (·.1)) = none ∧
      elementsReady node (if last then 8 else 1) = true) ∧
    (setupAt false).cursor + 1 < (setupAt false).hops.length ∧ (setupAt true).cursor + 1 = (setupAt true).hops.length ∧
    judgeWalks .planned ((admitWalks node 0 1 13 4).map (·.1)) = some .notEquipped ∧
    (findLp (holding (record .tail .armed)) 900).isSome = true := by
  refine ⟨link_onLink.1, ?_⟩; decide +kernel

theorem witness_SetupRepliesTaken :
    let t : Context := { record .transit .reserved with setupAcked := false }
    let h : Context := { record .head .reserved with setupAcked := false }
    (∀ c ∈ [t, h], AtRest (holding c) ∧ (holding c).ctx 7 = some c ∧ findLp (holding c) 900 = some (7, c) ∧
      OffRamp 7 c (holding c) ∧ Placeable .ramp ((holding c).faceSet c.egress).wss 3 (holding c)) ∧
    OnLink (link 1) node ∧ parseId (idBody 900) = some 900 ∧
    parseReject (rejectBody 900 .noElement 300) = some (900, .noElement, 300) ∧
    (∀ c ∈ [t, h], c.st = .reserved ∧ c.setupAcked = false ∧ c.downPort = some (link 1).port.val) ∧
    t.role = .transit ∧ t.upPort = some 0 ∧ h.role = .head ∧ h.work = ProbeWork.none ∧
    (record .transit .reserved).setupAcked ≠ false ∧ (record .tail .reserved).role = .tail := by
  intro t h
  refine ⟨fun c hc => ?_, link_onLink.2, by decide +kernel⟩
  have h1 : c.lpId = 900 := by fin_cases hc <;> rfl
  have h2 : c.egress = 1 ∨ c.egress = 8 := by fin_cases hc <;> exact .inl rfl
  exact ⟨holding_atRest c, (holding_found c h1).1, (holding_found c h1).2.1, (holding_found c h1).2.2,
    (holding_placeable c h2).1⟩

/-- A PROBING record with its watch; the spacing window is 15 to 25 ms. -/
def watched (role : Role) (x : Watch) : Context := { record role .probing with watch := some x }

theorem watched_found (role : Role) (x : Watch) :
    watchOf (holding (watched role x)) 5 = some (7, watched role x, x) ∧
    (holding (watched role x)).ctx 7 = some (watched role x) := by
  refine ⟨?_, rfl⟩
  have h : (record role .probing).pilot = 5 := by cases role <;> rfl
  have h' : (record role .probing).st = .probing := by cases role <;> rfl
  simp [watchOf, holding, watched, h, h']

theorem witness_BurstsJudgedAgainstWatches :
    watchOf node 5 = none ∧
    (∀ x : Watch, watchOf (holding (watched .transit x)) (5#12).toNat = some (7, watched .transit x, x)) ∧
    (watched .transit Watch.created).ingress = (0 : Fin 12).val ∧ (watched .transit Watch.created).ingress ≠ (1 : Fin 12).val ∧
    (0 < 1 ∧ 99985 + (node.faceSet 0).spacingMin ≤ node.now ∧ node.now ≤ 99985 + (node.faceSet 0).spacingMax ∧ 2 < 3) ∧
    (99975 + (node.faceSet 1).spacingMin ≤ node.now ∧ node.now ≤ 99975 + (node.faceSet 1).spacingMax ∧ 3 ≤ 3) ∧
    Watch.created.run = 0 ∧ Watch.created.misrun = 0 ∧ ¬(node.now ≤ 99974 + (node.faceSet 0).spacingMax) := by
  refine ⟨by decide +kernel, fun x => (watched_found _ x).1, by decide +kernel⟩

theorem witness_FourthBurstValidatesPilot :
    let x : Watch := ⟨3, some 99975, 0, none, none⟩
    (∀ role, AtRest (holding (watched role x)) ∧
      watchOf (holding (watched role x)) (5#12).toNat = some (7, watched role x, x)) ∧
    3 ≤ x.run ∧ x.lastRun = some 99975 ∧ 99975 + (node.faceSet 0).spacingMin ≤ node.now ∧
    node.now ≤ 99975 + (node.faceSet 0).spacingMax ∧ (watched .transit x).ingress = (0 : Fin 12).val ∧
    (watched .transit x).downPort = some 1 ∧ (watched .tail x).ingress = 0 ∧ (watched .tail x).cls ≠ .maint ∧
    (watched .tail x).st = .probing ∧ (watched .tail x).upPort = some 0 ∧
    watchOf (holding { watched .tail x with cls := .maint }) 5 = some (7, { watched .tail x with cls := .maint }, x) := by
  refine ⟨fun role => ⟨holding_atRest _, (watched_found role _).1⟩, by decide +kernel⟩

theorem witness_ProbeTaken :
    (∀ c, AtRest (holding c)) ∧ OnLink (link 0) node ∧ parseProbe (probeBody 900 3) = some (900, 3) ∧
    (∀ role st, findLp (holding (record role st)) 900 = some (7, record role st)) ∧
    (record .tail .reserved).role ≠ .head ∧ (record .tail .reserved).upPort = some (link 0).port.val ∧
    (record .tail .reserved).probeLevel ≤ 3 ∧ (record .tail .probing).pilotValidated = false ∧
    ({ record .transit .probing with pilotValidated := true }).upPort = some 0 ∧
    ({ record .tail .armed with probeLevel := 3 }).probeLevel = 3 ∧ (record .tail .armed).probeLevel < 3 ∧
    (record .head .probing).role = .head ∧ (record .tail .ramping).st ≠ .armed := by
  refine ⟨holding_atRest, link_onLink.1, by decide +kernel, fun r s => (holding_found _ rfl).2.1, by decide +kernel⟩

theorem witness_ProbeAckTaken :
    (∀ c, AtRest (holding c)) ∧ OnLink (link 1) node ∧
    parseProbeAck (probeAckBody 900 0 false) = some (900, 0, false) ∧
    parseProbeAck (probeAckBody 900 0 true) = some (900, 0, true) ∧
    (∀ role st, findLp (holding (record role st)) 900 = some (7, record role st)) ∧
    (∀ role ∈ [Role.head, .transit], (record role .probing).downPort = some (link 1).port.val) ∧
    (record .head .probing).probeLevel = 0 ∧ (false = true ↔ (record .head .probing).cls = .maint) ∧
    (true = true ↔ ({ record .head .probing with cls := .maint }).cls = .maint) ∧
    ({ record .transit .probing with pilotValidated := true }).pilotValidated = true ∧
    (record .transit .probing).pilotValidated = false ∧ (record .tail .probing).role = .tail := by
  refine ⟨holding_atRest, link_onLink.2, by decide +kernel, by decide +kernel, fun r s => (holding_found _ rfl).2.1,
    by decide +kernel⟩

theorem witness_ProbeNakAndProbeTimers :
    (∀ c, AtRest (holding c) ∧ (holding c).ctx 7 = some c) ∧ OnLink (link 1) node ∧
    parseProbeNak (probeNakBody 900 2 206) = some (900, 2, 206) ∧ parseProbeNak (probeNakBody 900 3 206) = some (900, 3, 206) ∧
    (∀ k, k < 4 → findLp (holding { record .head .probing with probeLevel := k }) 900 =
      some (7, { record .head .probing with probeLevel := k })) ∧
    (record .head .probing).downPort = some (link 1).port.val ∧ (record .transit .probing).downPort = some 1 ∧
    2 < 3 ∧ (record .head .armed).st ≠ .probing ∧
    ({ record .head .probing with probeTimer := some 100000 }).probeTimer = some 100000 ∧ 100000 ≤ node.now ∧
    ({ record .tail .probing with probeTimer := some 100000 }).pilotValidated = false ∧
    (record .tail .probing).upPort = some 0 ∧ (record .tail .probing).probeTimer = none := by
  refine ⟨fun c => ⟨holding_atRest c, rfl⟩, link_onLink.2, by decide +kernel, by decide +kernel,
    fun k _ => (holding_found _ rfl).2.1, by decide +kernel⟩

theorem witness_ProbeAndClosingWorkAsked :
    let c : Context := record .head .probing
    (holding c).ctx 7 = some c ∧ OffRamp 7 c (holding c) ∧
    Placeable .ramp ((holding c).faceSet c.egress).wss 3 (holding c) ∧ c.work.outstanding = false ∧
    c.work.level = none ∧ c.work.start = false ∧ c.work.stop = false ∧ c.work.dithering = false ∧ c.st = .probing ∧
    (∀ x ∈ (holding c).table.closings, ¬(x.handle = 7 ∧ x.inst = c.inst)) ∧
    (let d : Context := { c with work := ⟨some 3, false, some 3, true, true, true⟩ };
      (holding d).ctx 7 = some d ∧ d.work.level = some 3 ∧ d.work.start = true ∧ d.work.dithering = true) ∧
    ({ c with work := ⟨some 3, true, none, true, false, false⟩ }).work.outstanding = true := by
  intro c
  exact ⟨rfl, (holding_found _ rfl).2.2, (holding_placeable _ (.inl rfl)).1, by decide +kernel⟩

theorem witness_RampQueuePlacesKept :
    let ahead : List QEntry := [⟨1, 1, .restore⟩]
    let behind : List QEntry := [⟨2, 2, .planned⟩]
    (∀ x ∈ ahead, x.cls = .restore) ∧ (∀ x ∈ behind, x.cls ≠ .restore) ∧ (∃ x ∈ ahead ++ behind, x.handle = 2) ∧
    (∀ x ∈ ahead ++ behind, x.handle ≠ 3) ∧
    (ramping (record .head .ramping) turnHeld).ctx 7 = some (record .head .ramping) ∧
    ((ramping (record .head .ramping) turnHeld).rampFace 1).turn = some (7, (record .head .ramping).inst) ∧
    ((ramping (record .head .armed) ⟨[⟨2, 2, .planned⟩, ⟨7, 7, .planned⟩], none, false, false⟩).rampFace 1).queue =
      [⟨2, 2, .planned⟩] ++ ⟨7, (record .head .armed).inst, .planned⟩ :: [] ∧
    (∀ x ∈ [(⟨2, 2, .planned⟩ : QEntry)], x.handle ≠ 7) ∧
    OffRamp 7 (record .tail .inService) (holding (record .tail .inService)) ∧
    (let s : State := { ramping (record .head .ramping) { turnHeld with inStep := true } with
        audit := ⟨[(1, { AuditFace.initial with pending := true })]⟩ };
      (s.rampFace 1).turn = some (7, 7) ∧ (s.rampFace 1).inStep = true ∧ (s.auditFace 1).pending = true) ∧
    Law4 (ramping (record .head .ramping) turnHeld) ∧
    step (ramping (record .head .ramping) turnHeld) = .next (tick (ramping (record .head .ramping) turnHeld)) := by
  intro ahead behind
  have hl : Law4 (ramping (record .head .ramping) turnHeld) := by
    have hf : ∀ f, (ramping (record .head .ramping) turnHeld).rampFace f = if f = 1 then turnHeld else RampFace.initial := by
      intro f
      by_cases h : 1 = f
      · subst h; rfl
      · have h' : (record .head .ramping).egress = 1 := rfl
        simp [ramping, State.rampFace, Tab.get, Tab.lookup, h', h, Ne.symm h]
    refine ⟨by decide +kernel, fun f h i ht => ?_, fun f e he => ?_, fun f => ?_, fun h c hc hst => ?_⟩
    · rw [hf] at ht
      split at ht
      · rename_i h1; subst h1
        obtain ⟨rfl, rfl⟩ : 7 = h ∧ 7 = i := by simpa [turnHeld] using ht
        refine ⟨⟨_, rfl, rfl, rfl, .inl rfl⟩, fun e he => ?_⟩
        rw [hf] at he; exact absurd he (by simp [turnHeld])
      · simp [RampFace.initial] at ht
    · rw [hf] at he; split at he <;> simp [turnHeld, RampFace.initial] at he
    · rw [hf]; split <;> simp [turnHeld, RampFace.initial]
    · have hm := (Tab.mem_cells (t := (ramping (record .head .ramping) turnHeld).table.recs) (by decide +kernel) h
        (some c)).2 ⟨hc, by simp⟩
      obtain ⟨rfl, rfl⟩ : h = 7 ∧ c = record .head .ramping := by simpa [ramping, holding] using hm
      rfl
  have h : (∀ x ∈ ahead, x.cls = .restore) ∧ (∀ x ∈ behind, x.cls ≠ .restore) ∧
      (∃ x ∈ ahead ++ behind, x.handle = 2) ∧ ∀ x ∈ ahead ++ behind, x.handle ≠ 3 := by decide
  exact ⟨h.1, h.2.1, h.2.2.1, h.2.2.2, rfl, by decide +kernel, by decide +kernel, by decide, (holding_found _ rfl).2.2,
    by decide +kernel, hl, rfl⟩

theorem witness_TurnGrantedToQueueHead :
    let r : RampFace := ⟨[⟨7, 7, .planned⟩], none, false, false⟩
    (∀ st ∈ [CtxState.armed, .withdrawing], ((ramping (record .head st) r).rampFace 1).turn = none ∧
      ((ramping (record .head st) r).rampFace 1).queue = ⟨7, 7, .planned⟩ :: [] ∧
      (ramping (record .head st) r).ctx 7 = some (record .head st) ∧ (record .head st).inst = 7 ∧
      (record .head st).egress = 1 ∧ (record .head st).work = ProbeWork.none) ∧
    ((ramping (record .head .ramping) turnHeld).rampFace 1).turn ≠ none ∧ (node.rampFace 1).queue = [] ∧
    ({ record .head .armed with work := ⟨some 0, true, none, false, false, true⟩ }).work.outstanding = true := by
  intro r
  refine ⟨fun st hs => ?_, by decide +kernel⟩
  fin_cases hs <;> decide +kernel

theorem witness_RampDwellExpiryStepsRamp :
    let c (st : CtxState) (a : Atten) : Context := { record .head st with atten := a, rampDwell := some 100000 }
    (∀ st a, AtRest (ramping (c st a) turnHeld) ∧ (ramping (c st a) turnHeld).ctx 7 = some (c st a)) ∧
    ((c .ramping .blocked).inst = 7 ∧ (c .ramping .blocked).rampDwell = some 100000 ∧ 100000 ≤ node.now ∧
      ((ramping (c .ramping .blocked) turnHeld).rampFace 1).turn = some ((7 : Fin 256).val, 7) ∧
      ((ramping (c .ramping .blocked) turnHeld).rampFace 1).inStep = false ∧
      (node.auditFace 1).running = false) ∧
    (∀ x ∈ spanWalks node 1 2 4, x.1 = .found .free false ⟨true, true, true⟩) ∧
    (∃ x ∈ spanWalks node 1 14 4, x.1 = .blockAbsent) ∧
    (∃ x ∈ spanWalks { node with dir := { node.dir with faces := ⟨[(1, { eqFace with guard := true })]⟩ } } 1 2 4,
      x.1 = .found .free true ⟨true, true, true⟩) ∧
    ({ node with audit := ⟨[(1, ⟨none, false, true, [], 0, 0⟩)]⟩ }.auditFace 1).running = true ∧
    (c .withdrawing (.db 2500)).atten = .db 2500 ∧ (c .withdrawing (.db 2412)).atten = .db 2412 ∧ 2412 ≠ 2500 ∧
    (record .head .ramping).rampDwell = none := by
  intro c
  refine ⟨fun st a => ⟨node_atRest, rfl⟩, by decide +kernel, by decide +kernel, by decide +kernel, by decide +kernel,
    by decide +kernel, by decide +kernel⟩

/-- Readings at the edges: −378 and −418 just inside the deadband of 20 around −398, −377 and −419 outside it. -/
theorem witness_RampReadingJudged :
    let c : Context := record .head .ramping
    let pr := node.profile 0
    (holding c).ctx 7 = some c ∧ c.st = .ramping ∧ Placeable .ramp ((holding c).faceSet c.egress).wss 3 (holding c) ∧
    (node.faceSet 1).ceilingPower < 1001 ∧ (1000 : Int) ≤ (node.faceSet 1).ceilingPower ∧
    (c.target - (-418)).natAbs ≤ pr.deadband ∧ (c.target - (-378)).natAbs ≤ pr.deadband ∧
    ¬(c.target - (-419)).natAbs ≤ pr.deadband ∧ ¬(c.target - (-377)).natAbs ≤ pr.deadband ∧
    pr.settleCount ≤ 1 + 1 ∧ 0 + 1 < pr.settleCount ∧ pr.maxSteps ≤ 63 + 1 ∧ 62 + 1 < pr.maxSteps ∧
    0 < c.target - (-419) ∧ c.target - (-377) < 0 ∧ Atten.blocked.asNumber = 2500 ∧ (Atten.db 0).asNumber = 0 ∧
    max (-6000) (min (2001 : Int) 2000) = 2000 := by
  intro c pr
  exact ⟨rfl, rfl, (holding_placeable _ (.inl rfl)).1, by decide +kernel⟩

/-- A record with 63 of the 64 readings of its profile used and one in the band of two, its setting to 2500 on the bus. -/
def stepping : State :=
  { ramping { record .head .ramping with readingsUsed := 63, settledRun := 1, lastReading := some (-6000) } turnHeld with
    bus := { node.bus with onBus := some ⟨⟨.ramp, 0, 3, .setAtten 2500, false, 2, 4, .ctx 7 7 (.rampSet 2500)⟩,
      .setAtten 2500, 6, 20, .waiting 100020, false⟩ } }

theorem stepping_progress : ProgressLaws stepping := by
  have hc : ∀ h c, stepping.ctx h = some c →
      c = { record .head .ramping with readingsUsed := 63, settledRun := 1, lastReading := some (-6000) } := by
    intro h c hc
    have hm := (Tab.mem_cells (t := stepping.table.recs) (by decide +kernel) h (some c)).2 ⟨hc, by simp⟩
    simp only [stepping, ramping, holding, List.mem_singleton, Prod.mk.injEq, Option.some.injEq] at hm
    exact hm.2
  refine ⟨rfl, by decide +kernel, fun n => ?_, fun r hr => ?_, fun h c h1 => ?_, fun h c h1 _ _ => ?_, fun h c h1 => ?_⟩
  · exact (by simp [Profile.InRange, Profile.initial] : Profile.initial.InRange)
  · have hr : r = ⟨.ramp, 0, 3, .setAtten 2500, false, 2, 4, .ctx 7 7 (.rampSet 2500)⟩ := by
      rcases hr with hr | ⟨b, hb, rfl⟩
      · exact absurd hr (by simp [stepping, node, ElementBus.queued, ElementBus.reset])
      · cases hb; rfl
    subst hr
    refine ⟨fun a ha => ?_, fun h i p a ht hp => ?_⟩
    · cases ha; decide
    · cases ht; cases hp; decide
  · rw [hc h c h1]; refine ⟨fun a ha => ?_, by decide, fun p hp => ?_⟩
    · cases ha; decide
    · cases hp; decide
  · rw [hc h c h1]; decide +kernel
  · rw [hc h c h1]; decide +kernel

theorem witness_RampStepBoundedTowardsTarget :
    ((1 : Int) ≠ 0 ∧ 1 ≤ 1 ∧ 1 ≤ 1 ∧ 1 ≤ 10 ∧ 1 ≤ 10 ∧ 2500 ≤ 2500 ∧ ¬(0 < (1 : Int) ∧ 2500 = 0) ∧
      ¬((1 : Int) < 0 ∧ 2500 = 2500)) ∧
    ((-1 : Int) ≠ 0 ∧ 0 ≤ 2500 ∧ ¬(0 < (-1 : Int) ∧ 0 = 0) ∧ ¬((-1 : Int) < 0 ∧ 0 = 2500)) ∧
    ProgressLaws stepping ∧ step stepping = .next (tick stepping) :=
  ⟨by decide, by decide, stepping_progress, rfl⟩

def oneReport : List HopReport := [⟨101, .db 1412, -284, 6, false⟩]

theorem witness_ReportsCarriedToService :
    (∀ c, AtRest (holding c)) ∧ OnLink (link 0) node ∧ OnLink (link 1) node ∧
    parseReports (reportsBody 900 oneReport) = some (900, oneReport) ∧
    (∀ role st, findLp (holding (record role st)) 900 = some (7, record role st)) ∧
    ((record .transit .armed).role ≠ .head ∧ (record .transit .armed).upPort = some (link 0).port.val ∧
      (record .transit .armed).carried = none ∧ oneReport.length = (record .transit .armed).hopIndex) ∧
    (∀ role ∈ [Role.transit, .head], (record role .settled).downPort = some (link 1).port.val ∧
      (List.replicate 3 oneReport).flatten.length = (record role .settled).hopCount) ∧
    (record .tail .settled).role = .tail ∧ (record .head .ramping).cls ≠ .maint ∧
    (record .head .ramping).downPort = some 1 ∧
    ({ record .transit .ramping with carried := some oneReport }).carried = some oneReport ∧
    (record .tail .ramping).upPort = some 0 := by
  refine ⟨holding_atRest, link_onLink.1, link_onLink.2, by decide +kernel, fun r s => (holding_found _ rfl).2.1,
    by decide +kernel⟩

theorem witness_FaultEntryDarkensContext :
    let c : Context := { record .head .settled with work := ⟨some 0, false, none, false, false, true⟩ }
    (holding c).ctx 7 = some c ∧ c.st.faultable = true ∧
    Placeable .safety ((holding c).faceSet c.egress).wss 3 (holding c) ∧
    (let s : State := { holding c with ramp := ⟨⟨[]⟩, ⟨[]⟩, ⟨[(1, turnHeld)]⟩⟩ };
      s.ctx 7 = some c ∧ (s.rampFace c.egress).turn = some (7, c.inst) ∧
        ∀ e, ¬Placeable .safety (s.faceSet c.egress).wss e s) ∧
    (let s : State := { node with told := [⟨3, []⟩] ++ [⟨8, []⟩] };
      s.told = [⟨3, []⟩] ++ [⟨8, []⟩] ∧ (∀ x ∈ [(⟨3, []⟩ : Told)], x.handle ≤ 7) ∧ ∀ x ∈ [(⟨8, []⟩ : Told)], 7 < x.handle) := by
  intro c
  exact ⟨rfl, rfl, (holding_placeable _ (.inl rfl)).2.1, ⟨rfl, rfl, fun e he => nomatch he.1⟩, by decide⟩

theorem witness_FaultFrameTaken :
    (∀ c, AtRest (holding c)) ∧ OnLink (link 0) node ∧ OnLink (link 1) node ∧
    parseFault (faultBody 900 .shortfall 101 .downstream) = some (900, .shortfall, 101, .downstream) ∧
    parseFault (faultBody 900 .excess 206 .upstream) = some (900, .excess, 206, .upstream) ∧
    (∀ role st, findLp (holding (record role st)) 900 = some (7, record role st)) ∧
    (record .tail .settled).st.faultable = true ∧ (record .tail .settled).upPort = some (link 0).port.val ∧
    (record .head .reserved).st.faultable = true ∧ (record .head .reserved).downPort = some (link 1).port.val ∧
    (record .head .withdrawing).downPort = some (link 1).port.val ∧
    (record .tail .inService).st.faultable = false ∧ (record .tail .inService).st ≠ .withdrawing := by
  refine ⟨holding_atRest, link_onLink.1, link_onLink.2, by decide +kernel, by decide +kernel,
    fun r s => (holding_found _ rfl).2.1, by decide +kernel⟩

theorem witness_DeadlineExpiryByState :
    let c (st : CtxState) : Context := { record .transit st with deadline := some 100000 }
    (∀ st, AtRest (holding (c st)) ∧ (holding (c st)).ctx (7 : Fin 256) = some (c st) ∧ (c st).inst = 7 ∧
      (c st).deadline = some 100000 ∧ 100000 ≤ (holding (c st)).now ∧ OffRamp 7 (c st) (holding (c st))) ∧
    (c .armed).inst ≠ 8 := by
  intro c
  exact ⟨fun st => ⟨node_atRest, rfl, rfl, rfl, Nat.le_refl 100000, (holding_found _ rfl).2.2⟩, by decide⟩

theorem witness_TeardownTaken :
    let b (cursor : Nat) : TeardownBody := ⟨900, cursor, [⟨101, 8, 2⟩, ⟨205, 0, 1⟩, ⟨205, 0, 8⟩, ⟨205, 0, 8⟩]⟩
    (∀ c, AtRest (holding c)) ∧ OnLink (link 0) node ∧ TeardownBody.parse (b 1).encode = some (b 1) ∧
    TeardownBody.parse (b 2).encode = some (b 2) ∧ TeardownBody.parse (b 3).encode = some (b 3) ∧
    (b 1).hops[1]? = some ⟨205, 0, 1⟩ ∧ (b 3).hops[3]? = some ⟨205, 0, 8⟩ ∧ 205 = node.switch.nodeId ∧
    206 ≠ node.switch.nodeId ∧ findLp node 900 = none ∧
    (∀ role st, findLp (holding (record role st)) 900 = some (7, record role st) ∧
      OffRamp 7 (record role st) (holding (record role st))) ∧
    (∀ st, Placeable .safety ((holding (record .tail st)).faceSet 8).wss 3 (holding (record .tail st))) := by
  intro b
  exact ⟨holding_atRest, link_onLink.1, by decide +kernel, by decide +kernel, by decide +kernel, by decide +kernel,
    by decide +kernel, by decide +kernel, by decide +kernel, by decide +kernel,
    fun r s => (holding_found _ rfl).2, fun st => (holding_placeable (record .tail st) (.inr rfl)).2.1⟩

/-- Sixteen active contexts and the head in service. -/
def crowded : State :=
  { node with table := ⟨⟨(7, some (record .head .inService)) ::
      (List.range 16).map fun i => (8 + i, some { record .tail .armed with lpId := 901 + i, inst := 8 + i })⟩, 24, []⟩ }

theorem witness_WithdrawByState :
    (∀ c, AtRest (holding c)) ∧ ForNode toNode node ∧ parseWithdraw (idBody 900) = some 900 ∧ findLp node 900 = none ∧
    (∀ role st, findLp (holding (record role st)) 900 = some (7, record role st)) ∧
    findLp crowded 900 = some (7, record .head .inService) ∧ 16 ≤ activeCount crowded ∧
    activeCount (holding (record .head .inService)) < 16 ∧ (record .tail .armed).role ≠ .head := by
  refine ⟨holding_atRest, toNode_forNode, by decide +kernel, by decide +kernel, fun r s => (holding_found _ rfl).2.1,
    by decide +kernel⟩

/-- The node with face 1's audit timer and indications. -/
def auditing (c : Context) (a : AuditFace) (r : RampFace) : State :=
  { holding c with audit := ⟨[(1, a)]⟩, ramp := ⟨⟨[]⟩, ⟨[(1, settings 1)]⟩, ⟨[(1, r)]⟩⟩ }

theorem witness_AuditTimerAndReadingsJudged :
    let c : Context := record .head .inService
    let a : AuditFace := ⟨some 100000, false, false, [], 0, 0⟩
    let s : State := auditing c a ⟨[], none, false, false⟩
    AtRest s ∧ (s.auditFace (1 : Fin 12)).timer = some 100000 ∧ 100000 ≤ s.now ∧ (s.auditFace 1).pending = false ∧
    (s.auditFace 1).running = false ∧ (s.rampFace 1).inStep = false ∧ (s.rampFace 1).heldGet = false ∧
    auditList s 1 = [(7, 7)] ∧ s.ctx 7 = some c ∧ c.st = .inService ∧ c.egress = (1 : Fin 12).val ∧
    Placeable .audit (s.faceSet 1).monitor 4 s ∧ s.table.recs.wf ∧
    (node.auditFace 1).timer = none ∧
    ((auditing c { a with running := true } RampFace.initial).auditFace 1).running = true ∧
    ((auditing c a { turnHeld with inStep := true }).rampFace 1).inStep = true ∧
    auditList (auditing (record .head .armed) a RampFace.initial) 1 = [] ∧
    50 ≤ (s.faceSet 1).auditTol ∧ (s.faceSet 1).auditTol < ((-499 : Int) - c.target).natAbs ∧
    ¬((s.faceSet 1).auditTol < ((-498 : Int) - c.target).natAbs) ∧ c.atten = .db 1000 ∧ 1000 ≤ 2500 ∧
    (let y : State := { s with ramp := { s.ramp with settings := ⟨[(1, { settings 1 with autoTrim := true })]⟩ } };
      (y.faceSet 1).autoTrim = true ∧ y.resp.overlay.autoTrim = true ∧
      (∀ x ∈ spanWalks y 1 2 4, x.1 = .found .free false ⟨true, true, true⟩) ∧
      Placeable .audit (y.faceSet 1).wss 3 y) ∧
    (let m : State := auditing c { a with running := true, list := [(7, 7)] } RampFace.initial;
      (m.auditFace 1).list[(m.auditFace 1).pos]? = some (7, 7) ∧ Placeable .audit (m.faceSet 1).monitor 4 m) ∧
    (let m : State := auditing (record .head .ramping) { a with running := true } { turnHeld with heldGet := true };
      (m.auditFace 1).list.length ≤ (m.auditFace 1).pos ∧ (m.rampFace 1).heldGet = true ∧
      (m.rampFace 1).turn = some (7, (record .head .ramping).inst) ∧ m.ctx 7 = some (record .head .ramping) ∧
      Placeable .ramp (m.faceSet 1).monitor 4 m) ∧ (record .head .withdrawing).st ≠ .inService := by
  unfold AtRest Placeable; decide +kernel

theorem witness_EveryStepKeepsAuditAndStepApart :
    let s : State := auditing (record .head .ramping) AuditFace.initial { turnHeld with inStep := true }
    AuditStepApart s ∧ (s.rampFace 1).inStep = true ∧ step s = .next (tick s) := by
  refine ⟨fun f h => ?_, by decide +kernel, rfl⟩
  have h2 := h.2
  by_cases hf : 1 = f
  · subst hf; exact absurd h2 (by decide +kernel)
  · simp [auditing, State.auditFace, Tab.get, Tab.lookup, hf, AuditFace.initial] at h2

/-- The node with sixteen safety requests queued. -/
def safetyFull : State :=
  { node with bus := { node.bus with safetyQ := (List.range 16).map fun i => ⟨.safety, i, 3, .setBlock, false, 0, 1, .ctx i i .safety⟩ } }

theorem witness_RequestsQueuedAndChosen :
    let r : Request := ⟨.ramp, 4, 3, .setAtten 900, false, 2, 4, .ctx 7 7 (.rampSet 900)⟩
    let q : Request := ⟨.safety, 5, 3, .setBlock, true, 8, 4, .ctx 8 8 .safety⟩
    let s : State := { node with bus := { node.bus with rampQ := [r] } }
    let t : State := { node with bus := { node.bus with rampQ := [r], safetyQ := [q] } }
    16 ≤ (safetyFull.bus.queue .safety).length ∧ (node.elem 3).health ≠ .failed ∧ (node.bus.queue .safety).length < 16 ∧
    ({ node with bus := { node.bus with elems := ⟨[(3, ⟨.wss, 20, 0, .failed, 2, none⟩)]⟩ } }.elem 3).health = .failed ∧
    (busy .setBlock (.waiting 100005)).bus.onBus ≠ none ∧ node.bus.onBus = none ∧
    ((s.bus.queue .ramp).filter fun r => (s.bus.elems.get r.elem).settleUntil.isNone &&
      s.bus.queued.all fun q => !(q.stamp < r.stamp && q.elem == r.elem && spansMeet q.first q.count r.first r.count)) =
      r :: [] ∧ r.cls = .ramp ∧
    ((t.bus.queue .safety).filter fun r => (t.bus.elems.get r.elem).settleUntil.isNone &&
      t.bus.queued.all fun q => !(q.stamp < r.stamp && q.elem == r.elem && spansMeet q.first q.count r.first r.count)) =
      q :: [] ∧ q.cls = .safety ∧ s.bus.rr = .mgmt ∧ [BusClass.ramp, .audit, .mgmt] = [] ++ .ramp :: [.audit, .mgmt] := by
  decide +kernel

theorem witness_BusPeriodsAndTransactionsEnd :
    let settling (t : Nat) : State := node.modElem 3 fun x => { x with settleUntil := some t }
    ((settling 100000).elem (3 : Fin 32)).settleUntil = some 100000 ∧ 100000 ≤ (settling 100000).now ∧
    ((settling 100001).elem (3 : Fin 32)).settleUntil = some 100001 ∧ ¬(100001 ≤ (settling 100001).now) ∧
    (busy .setBlock (.turnaround 20)).bus.onBus.map (·.phase) = some (.turnaround 20) ∧
    (busy .setBlock (.waiting 100000)).bus.onBus.map (·.phase) = some (.waiting 100000) ∧
    (busy .setBlock (.waiting 100000)).bus.onBus.map (·.serial) = some 6 ∧ 6 ≠ 7 ∧
    (busy .setBlock (.waiting 100001)).now < 100001 ∧ node.bus.onBus = none := by decide +kernel

theorem witness_SettingResultsApplied :
    (∀ c, (holding c).ctx 7 = some c) ∧ (record .head .ramping).inst ≠ 8 ∧ (record .head .ramping).st = .ramping ∧
    (record .head .withdrawing).st = .withdrawing ∧ (record .head .armed).st ≠ .probing ∧
    ({ record .tail .faulted with faultRec := some ⟨.element, 205, .here, false⟩ }).faultRec =
      some ⟨.element, 205, .here, false⟩ ∧
    (record .tail .probing).work.level = none ∧ (record .tail .probing).work.start = false ∧
    (record .tail .probing).work.stop = false := by
  refine ⟨fun c => rfl, by decide +kernel⟩

theorem witness_EveryStepKeepsBusLaws :
    let s : State := busy .setBlock (.waiting 100005)
    AtRest s ∧ Law12 s ∧ s.bus.onBus ≠ none ∧ step s = .next (tick s) := by
  refine ⟨by unfold AtRest; decide +kernel, ⟨by decide +kernel, fun b hb => ?_⟩, by decide +kernel, rfl⟩
  have h : b.req.elem = 3 := by
    simp only [busy, Option.some.injEq] at hb
    rw [← hb]
  rw [h]; decide +kernel

theorem witness_EveryStepKeepsTablesCanonical : Canonical two ∧ step two = .next (tick two) := by
  refine ⟨?_, rfl⟩
  unfold Canonical; decide +kernel

theorem witness_EveryStepKeepsQueuesSound :
    let s : State := { node with ports := ⟨[(0, { upPort with line := some (frame .hello), urgent := List.replicate 16 (frame .setup) })]⟩ }
    QueuesSound s ∧ (s.port 0).urgent.length = 16 ∧ step s = .next (tick s) := by
  refine ⟨fun p => ?_, by decide +kernel, rfl⟩
  by_cases h : 0 = p
  · subst h; decide +kernel
  · simp [State.port, Tab.get, Tab.lookup, h, Port.initial]

theorem witness_TableReadReturnsRecord :
    ForNode toNode node ∧ parseTableRead (w [3, 11, 1, 127]) = some (3, 11, 383) ∧
    parseTableRead (w [1, 12, 0, 0]) = some (1, 12, 0) ∧ parseTableRead (w [8, 0, 0, 0]) = some (8, 0, 0) ∧
    parseTableRead (w [9, 0, 0, 0]) = some (9, 0, 0) ∧ parseTableRead (w [5, 7, 0, 1]) = some (5, 7, 1) ∧
    (node.block 1 0).present = true ∧ (node.block 11 23).present = false :=
  ⟨toNode_forNode, by decide +kernel⟩

theorem witness_DescriptorWritesJudged :
    let out : List Byte := w [1, 0, 0, 0, 0, 7, 0, 0, 0]
    ForNode toNode spanned ∧ FaceWrite.parse out = some ((1, 0), ⟨0, false, ⟨true, true, true⟩⟩) ∧
    (spanned.face 1).present = true ∧ (spanned.block 1 0).present = true ∧
    (spanned.entry (spanned.block 1 0).page 0).kind = .owned 7 ∧
    (∀ i, i < 16 → (spanned.entry (spanned.block 8 0).page i).kind = .free) ∧
    (∀ b, b < 24 → 0 < b → (spanned.block 8 b).present = false) ∧
    FaceWrite.parse (w [12, 0, 0, 1, 0, 7, 0, 0, 0]) = some ((12, 0), ⟨1, false, ⟨true, true, true⟩⟩) ∧
    FaceWrite.parse (w [11, 0, 0, 2, 0, 7, 0, 0, 0]) = some ((11, 0), ⟨2, false, ⟨true, true, true⟩⟩) ∧
    BlockWrite.parse (w [1, 0, 1, 1, 0, 0, 2, 0]) = some ((1, 1), ⟨1, false, 2⟩) ∧
    (spanned.block 1 1).present = false ∧ (spanned.block 8 0).page = 2 ∧
    BlockWrite.parse (w [11, 0, 23, 1, 0, 0, 255, 0]) = some ((11, 23), ⟨1, false, 255⟩) ∧
    (∀ g : Fin 12, ∀ c : Fin 24, (spanned.block g c).present = true → (spanned.block g c).page ≠ 255) ∧
    BlockWrite.parse (w [11, 0, 24, 1, 1, 0, 0, 0]) = some ((11, 24), ⟨1, true, 0⟩) ∧
    BlockWrite.parse (w [11, 0, 23, 1, 1, 1, 0, 0]) = some ((11, 23), ⟨1, true, 256⟩) ∧
    BlockWrite.parse (w [1, 0, 0, 1, 1, 0, 1, 0]) = some ((1, 0), ⟨1, true, 1⟩) := by
  unfold ForNode; decide +kernel

theorem witness_SlotAndFlagRequestsAnswered :
    ForNode toNode spanned ∧ parseSlotWrite (w [1, 0, 15, 3, 0, 0, 0, 0]) = some ((1, 15), 3) ∧
    parseSlotWrite (w [11, 1, 128, 0, 0, 0, 0, 3]) = some ((11, 384), 0) ∧
    parseSlotWrite (w [1, 0, 0, 1, 0, 0, 0, 0]) = some ((1, 0), 1) ∧
    parseSlotWrite (w [1, 0, 0, 4, 0, 0, 0, 0]) = some ((1, 0), 4) ∧
    parseSlotWrite (w [1, 0, 16, 0, 0, 0, 0, 0]) = some ((1, 16), 0) ∧ (spanned.block 1 (15 / 16)).present = true ∧
    (spanned.entry 1 0).kind = .owned 7 ∧ (spanned.entry 1 15).kind = .free ∧ (spanned.block 1 (16 / 16)).present = false ∧
    parseFlagsClear (w [1, 255]) = some (1, 255) ∧ parseFlagsClear (w [11, 23]) = some (11, 23) ∧
    parseFlagsClear (w [0, 24]) = some (0, 24) ∧ (spanned.block 1 0).page = 1 := by
  unfold ForNode; decide +kernel

def settingsBytes (wss mon trim : Nat) (smin : Nat) : List Byte :=
  e8 1 ++ e16 0 ++ e8 wss ++ e8 mon ++ s16 (-2001) ++ e16 300 ++ s16 1000 ++ e16 3600 ++ e16 49 ++ e8 trim ++ e16 smin ++
    e16 25 ++ e16 100

def profileBytes (l3 : Nat) : List Byte :=
  e8 7 ++ e16 0 ++ e16 300 ++ w [20, 2, 6] ++ e16 200 ++ e8 64 ++ e16 2200 ++ e16 1900 ++ e16 1600 ++ e16 l3 ++ e16 3000 ++
    e16 1500 ++ e16 60 ++ e16 1800 ++ e16 1800 ++ e16 0 ++ e16 100

theorem witness_RampTableWritesJudged :
    ForNode toNode node ∧
    SettingsWrite.parse (settingsBytes 3 255 1 25) =
      some ((1, 0), ⟨3, 255, -2001, 300, 1000, 3600, 49, 1, 25, 25, 100⟩) ∧
    (node.elem 3).role = .wss ∧ (SettingsWrite.parse (settingsBytes 4 255 2 26)).isSome = true ∧
    (node.elem 4).role ≠ .wss ∧ (node.faceSet 1).auditInterval ≠ 3600 ∧
    parseProfileWrite (profileBytes 1600) =
      some ((7, 0), { Profile.initial with sMax := 300, l3 := 1600, faultHold := 0 }) ∧
    (parseProfileWrite (profileBytes 1601)).map (·.2.l3) = some 1601 ∧
    (∀ x ∈ two.table.recs.cells, x.2.map (·.profile) = some 0) ∧
    (∃ x ∈ two.table.recs.cells, x.2.map (·.st) = some .reserved) := by
  unfold ForNode; decide +kernel

theorem witness_NodeTableWritesJudged :
    ForNode toNode node ∧ ElementWrite.parse (w [31, 0, 0, 1, 0, 255, 2]) = some ((31, 0), ⟨1, 0, 255⟩) ∧
    ElementWrite.parse (w [32, 0, 0, 1, 0, 255, 2]) = some ((32, 0), ⟨1, 0, 255⟩) ∧
    ElementWrite.parse (w [3, 0, 0, 2, 0, 255, 2]) = some ((3, 0), ⟨2, 0, 255⟩) ∧
    ElementWrite.parse (w [3, 0, 0, 3, 0, 255, 2]) = some ((3, 0), ⟨3, 0, 255⟩) ∧
    ElemRole.ofCode 1 = some .wss ∧ ElemRole.ofCode 2 = some .monitor ∧ (node.elem 3).role = .wss ∧
    (node.faceSet 1).wss = some 3 ∧ (∀ f, f < 12 → (node.faceSet f).wss ≠ some 31 ∧ (node.faceSet f).monitor ≠ some 31) ∧
    node.bus.queued = [] ∧ node.bus.onBus = none ∧
    parseRouteWrite (w [31, 0, 0, 1, 1, 0, 255, 0, 8]) = some ((31, 0), ⟨true, 256, 65280, 8⟩) ∧
    parseRouteWrite (w [31, 0, 0, 1, 1, 0, 255, 0, 9]) = some ((31, 0), ⟨true, 256, 65280, 9⟩) ∧
    NodeWrite.parse (w [0, 0, 0, 9, 9, 8, 255, 254, 64, 3, 233]) = some ((0, 0), ⟨8, 65534, 64, 1001⟩) ∧
    NodeWrite.parse (w [0, 0, 0, 9, 9, 9, 255, 255, 63, 3, 232]) = some ((0, 0), ⟨9, 65535, 63, 1000⟩) := by
  unfold ForNode; decide +kernel

/-- A COMMISSION of two hops from face 8 to face 1. -/
def commissionBytes (trim : Int) (node2 count : Nat) : List Byte :=
  e32 901 ++ e16 12 ++ e8 count ++ w [1, 7] ++ s16 trim ++ e16 4095 ++ e8 2 ++ encodeHops [⟨205, 8, 1⟩, ⟨node2, 2, 9⟩]

def commissioned (trim : Int) (node2 count : Nat) : SetupBody :=
  ⟨901, 12, count, .planned, 7, trim, 4095, 1, [⟨205, 8, 1⟩, ⟨node2, 2, 9⟩]⟩

theorem witness_CommissionJudged :
    ForNode toNode node ∧ parseCommission (commissionBytes 301 206 4) = some (commissioned 301 206 4) ∧
    parseCommission (commissionBytes (-300) 205 4) = some (commissioned (-300) 205 4) ∧
    ¬((commissioned (-300) 205 4).hops.map (·.node)).Nodup ∧
    parseCommission (commissionBytes 300 65534 17) = some (commissioned 300 65534 17) ∧
    parseCommission (commissionBytes 300 65534 4) = some (commissioned 300 65534 4) ∧
    (let b := commissioned 300 65534 4;
      b.id ≠ 0 ∧ b.pilot ≤ 4095 ∧ b.trim ≤ 300 ∧ b.hops = ⟨205, 8, 1⟩ :: [⟨65534, 2, 9⟩] ∧
      (∀ x ∈ b.hops, 1 ≤ x.node ∧ x.node ≤ 65534) ∧ 205 = node.switch.nodeId ∧ (b.hops.map (·.node)).Nodup ∧
      b.first ≤ 383 ∧ b.first + b.count ≤ 384 ∧ findLp node b.id = none ∧
      node.resp.overlay.classes.allows b.cls = true ∧ b.count ≤ node.resp.overlay.span ∧
      activeCount node < node.resp.overlay.concurrency ∧ node.ctx 0 = none ∧ b.profile ≤ 7 ∧
      pilotInUse node b.pilot = false ∧ judgeWalks b.cls ((admitWalks node 8 1 b.first b.count).map (·.1)) = none ∧
      elementsReady node 1 = true) ∧
    judgeWalks .planned ((admitWalks node 8 1 13 4).map (·.1)) = some .notEquipped ∧
    { node.resp.overlay with span := 3 }.span < 4 := by
  refine ⟨toNode_forNode, ?_⟩; decide +kernel

/-- An ADOPT as transit from face 0 to face 1, or as head from face 8 to face 1 with its two hops. -/
def adoptBytes (trim : Int) (hopIndex : Nat) : List Byte :=
  e32 901 ++ w [2, 0, 1] ++ e16 12 ++ w [4, 1, 7] ++ s16 trim ++ e16 65535 ++ e8 hopIndex ++ e8 32
def adoptHeadBytes (node2 : Nat) : List Byte :=
  e32 901 ++ w [1, 8, 1] ++ e16 12 ++ w [4, 1, 7] ++ s16 0 ++ e16 2500 ++ w [0, 2] ++ encodeHops [⟨205, 8, 1⟩, ⟨node2, 2, 9⟩]

theorem witness_AdoptJudged :
    ForNode toNode node ∧
    AdoptBody.parse (adoptBytes (-300) 30) = some ⟨901, .transit, 0, 1, 12, 4, .planned, 7, -300, 65535, 30, 32, []⟩ ∧
    AdoptBody.parse (adoptBytes 301 1) = some ⟨901, .transit, 0, 1, 12, 4, .planned, 7, 301, 65535, 1, 32, []⟩ ∧
    AdoptBody.parse (adoptBytes 0 31) = some ⟨901, .transit, 0, 1, 12, 4, .planned, 7, 0, 65535, 31, 32, []⟩ ∧
    AdoptBody.parse (adoptHeadBytes 206) =
      some ⟨901, .head, 8, 1, 12, 4, .planned, 7, 0, 2500, 0, 2, [⟨205, 8, 1⟩, ⟨206, 2, 9⟩]⟩ ∧
    (AdoptBody.parse (adoptHeadBytes 205)).map (fun b => decide (b.hops.map (·.node)).Nodup) = some false ∧
    findLp node 901 = none ∧ node.ctx 0 = none ∧ (findLp two 901).isSome = true ∧
    judgeWalks .planned ((admitWalks node 0 1 12 4).map (·.1)) = none ∧
    judgeWalks .planned ((admitWalks node 0 1 13 4).map (·.1)) = some .notEquipped := by
  refine ⟨toNode_forNode, ?_⟩; decide +kernel

theorem witness_ContextRequestsAnswered :
    ForNode toNode two ∧ AtRest two ∧ parseId (idBody 900) = some 900 ∧ findLp node 900 = none ∧
    (∀ role st, AtRest (holding (record role st)) ∧ findLp (holding (record role st)) 900 = some (7, record role st) ∧
      OffRamp 7 (record role st) (holding (record role st))) ∧
    d16 (e16 256) = some (256, []) ∧ d16 (e16 8) = some (8, []) ∧ 8 ≤ 255 ∧ two.table.recs.wf ∧
    (let l : List (Nat × Context) := [(9, { record .head .reserved with lpId := 901, inst := 8, pilot := 6, setupAcked := false })];
      l.Pairwise (fun a b => a.1 < b.1) ∧ ∀ n c, (n, c) ∈ l ↔ 8 ≤ n ∧ two.ctx n = some c) := by
  refine ⟨toNode_forNode, node_atRest, by decide +kernel, by decide +kernel, fun role st =>
    ⟨node_atRest, (holding_found _ rfl).2⟩, by decide, by decide, by decide, by decide +kernel, by simp, fun n c => ⟨fun h => ?_,
      fun h => ?_⟩⟩
  · simp only [List.mem_singleton, Prod.mk.injEq] at h
    obtain ⟨rfl, rfl⟩ := h
    exact ⟨by decide, rfl⟩
  · rcases two_cases h.2 with ⟨rfl, rfl⟩ | ⟨rfl, rfl⟩
    · exact absurd h.1 (by decide)
    · simp

theorem witness_ElementRequestsAnswered :
    ForNode toNode node ∧ AtRest node ∧ parseElementRead (w [4, 1, 112, 16]) = some (4, 368, 16) ∧
    parseElementRead (w [32, 0, 0, 1]) = some (32, 0, 1) ∧ parseElementRead (w [4, 1, 113, 16]) = some (4, 369, 16) ∧
    (node.elem 4).role = .monitor ∧ (node.elem 4).health ≠ .failed ∧ node.bus.mgmtQ.length < 4 ∧
    ({ node with bus := { node.bus with elems := ⟨[(4, ⟨.monitor, 20, 0, .failed, 2, none⟩)]⟩ } }.elem 4).health = .failed ∧
    4 ≤ { node.bus with mgmtQ := List.replicate 4 ⟨.mgmt, 0, 4, .getPower, false, 0, 1, .read 8 900 9#8⟩ }.mgmtQ.length ∧
    d8 (w [31]) = some (31, []) ∧ d8 (w [32]) = some (32, []) := by
  refine ⟨toNode_forNode, node_atRest, ?_⟩; decide +kernel

theorem witness_CapabilityRequestsAnswered :
    ForNode toNode node ∧ node.resp.frozen = false ∧ { node.resp with frozen := true }.frozen = true ∧
    parseOverlay (w [16, 16, 7, 1, 44, 1]) = some ⟨16, 16, ⟨true, true, true⟩, 300, true⟩ ∧
    parseOverlay (w [17, 0, 0, 0, 9, 0]) = some ⟨17, 0, ⟨false, false, false⟩, 9, false⟩ := by
  refine ⟨toNode_forNode, ?_⟩; decide +kernel

theorem witness_FrozenOverlayStays :
    let s : State := { node with resp := { node.resp with frozen := true } }
    s.resp.frozen = true ∧ (∀ straps, Instr.capabilityRestore toNode [] ≠ .powerOnReset straps) ∧
    ∃ t, exec (.capabilityRestore toNode []) s = .next t :=
  ⟨rfl, fun _ => by simp, _, rfl⟩

theorem witness_CountersReadAnswered :
    ForNode toNode node ∧ dBool (w [0]) = some (false, []) ∧ dBool (w [1]) = some (true, []) :=
  ⟨toNode_forNode, by decide⟩

theorem witness_NodeResetAbortsActive :
    ForNode toNode two ∧ two.table.recs.wf ∧ activeCount two = 2 ∧
    (nextOf (exec (.nodeReset toNode []) two)).ctx 7 = none ∧ (nextOf (exec (.nodeReset toNode []) two)).ctx 9 = none := by
  refine ⟨toNode_forNode, ?_⟩; decide +kernel

end Sys2Proof.Tests
end

section
/-! SUPPORT. What the Directory's operations do to its records: folds of updates, the key of a slot, the walks of a
span, reservation, freeing, marking. -/
namespace Sys2Proof.Machine

/-! ## Folds of updates -/

/-- A fold in which no element of the list acts. -/
theorem foldl_of_idle {α β : Type} {f : α → β → α} {l : List β} (h : ∀ c ∈ l, ∀ a, f a c = a) (a : α) :
    l.foldl f a = a := by
  induction l generalizing a with
  | nil => rfl
  | cons c r ih => rw [List.foldl_cons, h c List.mem_cons_self, ih fun d hd => h d (List.mem_cons_of_mem _ hd)]

/-- A fold in which one element of the list acts, and acts once. -/
theorem foldl_of_nodup {α β : Type} {f : α → β → α} {l : List β} (hl : l.Nodup) {b : β} (hb : b ∈ l)
    (h : ∀ c ∈ l, c ≠ b → ∀ a, f a c = a) (a : α) : l.foldl f a = f a b := by
  induction l generalizing a with
  | nil => exact absurd hb List.not_mem_nil
  | cons c r ih =>
    obtain ⟨hc, hr⟩ := List.nodup_cons.1 hl
    rw [List.foldl_cons]
    rcases List.mem_cons.1 hb with rfl | hb'
    · exact foldl_of_idle (fun d hd => h d (List.mem_cons_of_mem _ hd) fun e => hc (e ▸ hd)) _
    · rw [h c List.mem_cons_self fun e => hc (e ▸ hb'), ih hr hb' fun d hd => h d (List.mem_cons_of_mem _ hd)]

/-- A fold of one repeated update, made for the elements that ask for it. -/
theorem foldl_of_idem {α β : Type} {g : α → α} (hg : ∀ a, g (g a) = g a) (p : β → Bool) (l : List β) (a : α) :
    l.foldl (fun a b => if p b then g a else a) a = if l.any p then g a else a := by
  induction l generalizing a with
  | nil => rfl
  | cons b r ih => cases hb : p b <;> cases hr : r.any p <;> simp [ih, hb, hr, hg]

/-- A record read after a fold of steps is the fold of what each step does to it; `P` holds of the states passed. -/
theorem get_foldl {α β : Type} {P : State → Prop} {g : State → β → State} {read : State → α} {φ : β → α → α}
    {l : List β} (hP : ∀ s, ∀ b ∈ l, P s → P (g s b))
    (hg : ∀ s, ∀ b ∈ l, P s → read (g s b) = φ b (read s)) {s : State} (hs : P s) :
    read (l.foldl g s) = l.foldl (fun a b => φ b a) (read s) := by
  induction l generalizing s with
  | nil => rfl
  | cons b r ih =>
    rw [List.foldl_cons, List.foldl_cons, ih (fun t c hc => hP t c (List.mem_cons_of_mem _ hc))
      (fun t c hc => hg t c (List.mem_cons_of_mem _ hc)) (hP s b List.mem_cons_self hs), hg s b List.mem_cons_self hs]

/-- What every step of a fold keeps, the fold keeps. -/
theorem foldl_keeps {α β : Type} {P : α → Prop} {g : α → β → α} {l : List β}
    (hP : ∀ a, ∀ b ∈ l, P a → P (g a b)) {a : α}
    (ha : P a) : P (l.foldl g a) := by
  induction l generalizing a with
  | nil => exact ha
  | cons b r ih => exact ih (fun a c hc => hP a c (List.mem_cons_of_mem _ hc)) (hP a b List.mem_cons_self ha)

/-! ## The slots of a span and their keys -/

theorem mem_spanSlots {first count n : Nat} : n ∈ spanSlots first count ↔ first ≤ n ∧ n < first + count := by
  simp only [spanSlots, List.mem_map, List.mem_range]
  exact ⟨fun ⟨i, hi, hn⟩ => by omega, fun ⟨h1, h2⟩ => ⟨n - first, by omega, by omega⟩⟩

theorem nodup_spanSlots (first count : Nat) : (spanSlots first count).Nodup :=
  List.Nodup.map (fun _ _ h => Nat.add_left_cancel h) List.nodup_range

/-- The key of the entry that the block descriptor of a slot names, be it present or not. -/
def slotKey (s : State) (f n : Nat) : Nat := 16 * (s.block f (n / 16)).page + n % 16

theorem entryKey_of_present {s : State} {f n : Nat} (h : (s.block f (n / 16)).present = true) :
    entryKey s f n = some (slotKey s f n) := by
  replace h : (s.dir.blocks.get (24 * f + n / 16)).present = true := h
  simp [entryKey, blockKey, slotKey, h, State.block]

theorem entryKey_of_absent {s : State} {f n : Nat} (h : (s.block f (n / 16)).present = false) :
    entryKey s f n = none := by
  replace h : (s.dir.blocks.get (24 * f + n / 16)).present = false := h
  simp [entryKey, blockKey, h]

theorem entry_eq_slotKey (s : State) (f n : Nat) :
    s.entry (s.block f (n / 16)).page (n % 16) = s.dir.entries.get (slotKey s f n) := rfl

theorem slotKind_eq (s : State) (f n : Nat) :
    slotKind s f n =
      if (s.block f (n / 16)).present = true then some (s.dir.entries.get (slotKey s f n)).kind else none := by
  unfold slotKind
  split
  · rename_i h; rw [entryKey_of_present h]; rfl
  · rename_i h; rw [entryKey_of_absent (Bool.eq_false_iff.2 h)]; rfl

/-- Law 10 makes the keys of the slots of the node's faces different. -/
theorem slotKey_inj {s : State} (hl : Law10 s) {f g n m : Nat} (hf : f ≤ 11) (hg : g ≤ 11) (hn : n ≤ 383) (hm : m ≤ 383)
    (hfp : (s.block f (n / 16)).present = true) (hgp : (s.block g (m / 16)).present = true)
    (h : slotKey s f n = slotKey s g m) : f = g ∧ n = m := by
  unfold slotKey at h
  obtain ⟨hfg, hb⟩ := hl f (n / 16) g (m / 16) hf (by omega) hg (by omega) hfp hgp (by omega)
  exact ⟨hfg, by omega⟩

/-! ## Reading a slot -/

theorem readSlot_of_faceAbsent {s : State} {f : Nat} (h : (s.face f).present = false) (n : Nat) :
    readSlot s f n = .faceAbsent := by simp [readSlot, h]

theorem readSlot_of_blockAbsent {s : State} {f n : Nat} (hf : (s.face f).present = true)
    (h : (s.block f (n / 16)).present = false) : readSlot s f n = .blockAbsent := by
  simp [readSlot, hf, entryKey_of_absent h]

theorem readSlot_of_present {s : State} {f n : Nat} (hf : (s.face f).present = true)
    (h : (s.block f (n / 16)).present = true) : readSlot s f n = .found (24 * f + n / 16) (slotKey s f n) := by
  simp [readSlot, hf, entryKey_of_present h, blockKey]

/-- R4: one pass, by the first absence it meets. -/
theorem passResult_eq (s : State) (f n : Nat) (g : Bool) (m : ClassMask) :
    passResult s f n g m =
      if (s.face f).present = false then .faceAbsent
      else if (s.block f (n / 16)).present = false then .blockAbsent
      else .found (s.dir.entries.get (slotKey s f n)).kind (g || (s.face f).guard || (s.block f (n / 16)).guard)
        (m.inter (s.face f).mask) := by
  unfold passResult
  split_ifs with hf hb
  · rw [readSlot_of_faceAbsent hf]
  · rw [readSlot_of_blockAbsent (Bool.not_eq_false _ ▸ hf) hb]
  · rw [readSlot_of_present (Bool.not_eq_false _ ▸ hf) (Bool.not_eq_false _ ▸ hb)]; rfl

/-- R6: what one pass marks, by the first absence it meets. -/
theorem readMarks_eq (s : State) (f n : Nat) :
    readMarks s f n =
      if (s.face f).present = false then Marks.none
      else if (s.block f (n / 16)).present = false then ⟨[f], [], []⟩
      else ⟨[f], [24 * f + n / 16], [slotKey s f n]⟩ := by
  unfold readMarks
  split_ifs with hf hb
  · rw [readSlot_of_faceAbsent hf]
  · rw [readSlot_of_blockAbsent (Bool.not_eq_false _ ▸ hf) hb]
  · rw [readSlot_of_present (Bool.not_eq_false _ ▸ hf) (Bool.not_eq_false _ ▸ hb)]

/-- R4: a walk that finds no link is one pass. -/
theorem walk_of_direct {s : State} {f n : Nat}
    (h : ∀ hf hs g m, passResult s f n false ClassMask.all ≠ .found (.indirect hf hs) g m) :
    walk s f n = (passResult s f n false ClassMask.all, readMarks s f n) := by
  unfold walk
  split
  · rename_i e; exact absurd e (h _ _ _ _)
  · rfl

/-- R4: a walk that finds a link passes over its home, once. -/
theorem walk_of_link {s : State} {f n hf hs : Nat} {g : Bool} {m : ClassMask}
    (h : passResult s f n false ClassMask.all = .found (.indirect hf hs) g m) :
    walk s f n = (passResult s hf hs g m, (readMarks s f n).append (readMarks s hf hs)) := by
  unfold walk
  rw [h]

end Sys2Proof.Machine
end

section
/-! SUPPORT. Walks -/
namespace Sys2Proof.Machine

/-! ## Marks and judgement of walks -/

theorem foldl_modFace (l : List Nat) (g : FaceDesc → FaceDesc) (s : State) :
    l.foldl (fun s f => s.modFace f g) s =
      { s with dir := { s.dir with faces := l.foldl (fun t f => t.mod f g) s.dir.faces } } := by
  induction l generalizing s with
  | nil => rfl
  | cons f r ih => exact ih _

theorem foldl_modBlocks (l : List Nat) (g : BlockDesc → BlockDesc) (s : State) :
    l.foldl (fun s k => { s with dir := { s.dir with blocks := s.dir.blocks.mod k g } }) s =
      { s with dir := { s.dir with blocks := l.foldl (fun t k => t.mod k g) s.dir.blocks } } := by
  induction l generalizing s with
  | nil => rfl
  | cons k r ih => exact ih _

theorem foldl_modEntry (l : List Nat) (g : SlotEntry → SlotEntry) (s : State) :
    l.foldl (fun s k => s.modEntry k g) s =
      { s with dir := { s.dir with entries := l.foldl (fun t k => t.mod k g) s.dir.entries } } := by
  induction l generalizing s with
  | nil => rfl
  | cons k r ih => exact ih _

/-- R6: the marks of a request change the used flags at their keys, table by table. -/
theorem setMarks_eq (m : Marks) (s : State) :
    setMarks m s = { s with dir :=
      { faces := m.faces.foldl (fun t k => t.mod k fun x => { x with used := true }) s.dir.faces,
        blocks := m.blocks.foldl (fun t k => t.mod k fun x => { x with used := true }) s.dir.blocks,
        entries := m.entries.foldl (fun t k => t.mod k fun x => { x with used := true }) s.dir.entries } } := by
  simp only [setMarks, foldl_modFace, foldl_modBlocks, foldl_modEntry]

/-- A table after one idempotent change at each key of a list. -/
theorem Tab.get_foldl_mod {α : Type} [DecidableEq α] {d : α} {g : α → α} (hg : ∀ a, g (g a) = g a) (l : List Nat)
    (t : Tab d) (k : Nat) :
    (l.foldl (fun t j => t.mod j g) t).get k = if l.contains k = true then g (t.get k) else t.get k := by
  induction l generalizing t with
  | nil => rfl
  | cons j r ih =>
    rw [List.foldl_cons, ih, Tab.get_mod]
    by_cases hk : k = j
    · subst hk; by_cases hr : k ∈ r <;> simp [hr, hg]
    · by_cases hr : k ∈ r <;> simp [hr, hk]

theorem setMarks_face (m : Marks) (s : State) (k : Nat) :
    (setMarks m s).dir.faces.get k =
      { s.dir.faces.get k with used := (s.dir.faces.get k).used || m.faces.contains k } := by
  simp only [setMarks_eq, Tab.get_foldl_mod, implies_true]
  cases m.faces.contains k <;> simp

theorem setMarks_block (m : Marks) (s : State) (k : Nat) :
    (setMarks m s).dir.blocks.get k =
      { s.dir.blocks.get k with used := (s.dir.blocks.get k).used || m.blocks.contains k } := by
  simp only [setMarks_eq, Tab.get_foldl_mod, implies_true]
  cases m.blocks.contains k <;> simp

theorem setMarks_entry (m : Marks) (s : State) (k : Nat) :
    (setMarks m s).dir.entries.get k =
      { s.dir.entries.get k with used := (s.dir.entries.get k).used || m.entries.contains k } := by
  simp only [setMarks_eq, Tab.get_foldl_mod, implies_true]
  cases m.entries.contains k <;> simp

/-- The marks of a list of walks are those of its members. -/
theorem contains_allMarks (l : List (WalkResult × Marks)) (k : Nat) :
    ((allMarks l).faces.contains k = l.any fun w => w.2.faces.contains k) ∧
    ((allMarks l).blocks.contains k = l.any fun w => w.2.blocks.contains k) ∧
    ((allMarks l).entries.contains k = l.any fun w => w.2.entries.contains k) := by
  induction l with
  | nil => exact ⟨rfl, rfl, rfl⟩
  | cons w r ih =>
    obtain ⟨hf, hb, he⟩ := ih
    refine ⟨?_, ?_, ?_⟩
    · rw [List.any_cons, ← hf, ← List.contains_append]; rfl
    · rw [List.any_cons, ← hb, ← List.contains_append]; rfl
    · rw [List.any_cons, ← he, ← List.contains_append]; rfl

theorem any_absent_iff (l : List WalkResult) :
    l.any WalkResult.absent = true ↔ ∃ w ∈ l, w = .faceAbsent ∨ w = .blockAbsent := by
  have h (w : WalkResult) : w.absent = true ↔ w = .faceAbsent ∨ w = .blockAbsent := by
    cases w <;> simp [WalkResult.absent]
  simp only [List.any_eq_true, h]

theorem any_bars_iff (c : OriginClass) (l : List WalkResult) :
    l.any (WalkResult.bars c) = true ↔ ∃ k g m, .found k g m ∈ l ∧ m.allows c = false := by
  rw [List.any_eq_true]
  constructor
  · rintro ⟨w, hw, hb⟩
    cases w with
    | found k g m => exact ⟨k, g, m, hw, by simpa [WalkResult.bars] using hb⟩
    | _ => cases hb
  · exact fun ⟨k, g, m, hw, hb⟩ => ⟨_, hw, by simp [WalkResult.bars, hb]⟩

theorem any_guarded_iff (l : List WalkResult) : l.any WalkResult.guarded = true ↔ ∃ k m, .found k true m ∈ l := by
  rw [List.any_eq_true]
  constructor
  · rintro ⟨w, hw, hb⟩
    cases w with
    | found k g m => cases (hb : g = true); exact ⟨k, m, hw⟩
    | _ => cases hb
  · exact fun ⟨k, m, hw⟩ => ⟨_, hw, rfl⟩

theorem any_busy_iff (l : List WalkResult) :
    l.any WalkResult.busy = true ↔ ∃ k g m, .found k g m ∈ l ∧ k ≠ .free := by
  have h (k : EntryKind) (g : Bool) (m : ClassMask) : (WalkResult.found k g m).busy = true ↔ k ≠ .free := by
    cases k <;> simp [WalkResult.busy]
  rw [List.any_eq_true]
  constructor
  · rintro ⟨w, hw, hb⟩
    cases w with
    | found k g m => exact ⟨k, g, m, hw, (h k g m).1 hb⟩
    | _ => cases hb
  · exact fun ⟨k, g, m, hw, hb⟩ => ⟨_, hw, (h k g m).2 hb⟩

/-- R7: the four reasons in their order. -/
theorem judgeWalks_order (c : OriginClass) (l : List WalkResult) :
    let absent : Prop := ∃ w ∈ l, w = .faceAbsent ∨ w = .blockAbsent
    let barred : Prop := ∃ k g m, .found k g m ∈ l ∧ m.allows c = false
    let guarded : Prop := ∃ k m, .found k true m ∈ l
    let busy : Prop := ∃ k g m, .found k g m ∈ l ∧ k ≠ .free
    (absent → judgeWalks c l = some .notEquipped) ∧
    (¬absent → barred → judgeWalks c l = some .classBarred) ∧
    (¬absent → ¬barred → guarded → judgeWalks c l = some .guarded) ∧
    (¬absent → ¬barred → ¬guarded → busy → judgeWalks c l = some .spectrumBusy) ∧
    (¬absent → ¬barred → ¬guarded → ¬busy → judgeWalks c l = none) := by
  simp only [← any_absent_iff, ← any_bars_iff, ← any_guarded_iff, ← any_busy_iff, judgeWalks]
  exact ⟨fun h1 => if_pos h1, fun h1 h2 => by rw [if_neg h1, if_pos h2],
    fun h1 h2 h3 => by rw [if_neg h1, if_neg h2, if_pos h3],
    fun h1 h2 h3 h4 => by rw [if_neg h1, if_neg h2, if_neg h3, if_pos h4],
    fun h1 h2 h3 h4 => by rw [if_neg h1, if_neg h2, if_neg h3, if_neg h4]⟩

/-- R4, R6: a walk by the first absence it meets, its link followed once. -/
theorem walk_result_and_marks (s : State) (f n : Nat) :
    let block := s.block f (n / 16)
    let entry := s.entry block.page (n % 16)
    let face := s.face f
    (face.present = false → walk s f n = (.faceAbsent, Marks.none)) ∧
    (face.present = true → block.present = false → walk s f n = (.blockAbsent, ⟨[f], [], []⟩)) ∧
    (face.present = true → block.present = true → (∀ g m, entry.kind ≠ .indirect g m) →
      walk s f n = (.found entry.kind (face.guard || block.guard) face.mask,
        ⟨[f], [24 * f + n / 16], [slotKey s f n]⟩)) ∧
    ∀ g m, face.present = true → block.present = true → entry.kind = .indirect g m →
      walk s f n = (passResult s g m (face.guard || block.guard) face.mask,
        (⟨[f], [24 * f + n / 16], [slotKey s f n]⟩ : Marks).append (readMarks s g m)) := by
  intro block entry face
  refine ⟨fun hf => ?_, fun hf hb => ?_, fun hf hb hk => ?_, fun g m hf hb hk => ?_⟩
  · have hp : passResult s f n false ClassMask.all = .faceAbsent := by rw [passResult_eq, if_pos hf]
    rw [walk_of_direct (by simp [hp]), hp, readMarks_eq, if_pos hf]
  · have hp : passResult s f n false ClassMask.all = .blockAbsent := by
      rw [passResult_eq, if_neg (by simp [face, hf]), if_pos hb]
    rw [walk_of_direct (by simp [hp]), hp, readMarks_eq, if_neg (by simp [face, hf]), if_pos hb]
  all_goals
    have hp : passResult s f n false ClassMask.all = .found entry.kind (face.guard || block.guard) face.mask := by
      rw [passResult_eq, if_neg (by simp [face, hf]), if_neg (by simp [block, hb])]; rfl
    have hm : readMarks s f n = ⟨[f], [24 * f + n / 16], [slotKey s f n]⟩ := by
      rw [readMarks_eq, if_neg (by simp [face, hf]), if_neg (by simp [block, hb])]
  · rw [walk_of_direct (by rw [hp]; intro g m _ _ e; exact hk g m (WalkResult.found.inj e).1), hp, hm]
  · rw [walk_of_link (hp.trans (by rw [hk])), hm]

/-- R4: what a walk of the node's Directory returns. -/
theorem walk_returns (s : State) (f n : Nat) :
    let block := s.block f (n / 16)
    let entry := s.entry block.page (n % 16)
    let face := s.face f
    (face.present = false → (walk s f n).1 = .faceAbsent) ∧
    (face.present = true → block.present = false → (walk s f n).1 = .blockAbsent) ∧
    (face.present = true → block.present = true → (∀ g m, entry.kind ≠ .indirect g m) →
      (walk s f n).1 = .found entry.kind (face.guard || block.guard) face.mask) ∧
    (∀ g m, face.present = true → block.present = true → entry.kind = .indirect g m →
      let home := s.block g (m / 16)
      ((s.face g).present = false → (walk s f n).1 = .faceAbsent) ∧
      ((s.face g).present = true → home.present = false → (walk s f n).1 = .blockAbsent) ∧
      ((s.face g).present = true → home.present = true →
        (walk s f n).1 = .found (s.entry home.page (m % 16)).kind
          (face.guard || block.guard || (s.face g).guard || home.guard) (face.mask.inter (s.face g).mask))) := by
  intro block entry face
  obtain ⟨hface, hblock, hdirect, hlink⟩ := walk_result_and_marks s f n
  refine ⟨fun hf => by rw [hface hf], fun hf hb => by rw [hblock hf hb], fun hf hb hk => by rw [hdirect hf hb hk],
    fun g m hf hb hk => ?_⟩
  intro home
  rw [hlink g m hf hb hk, passResult_eq]
  exact ⟨fun hg => if_pos hg, fun hg hh => by rw [if_neg (by simp [hg]), if_pos hh],
    fun hg hh => by rw [if_neg (by simp [hg]), if_neg (by simp [home, hh])]; rfl⟩

/-- R6: what a marking walk marks: the faces and blocks it found present, and the entries it read. -/
theorem walk_marks (s : State) (f n : Nat) :
    let block := s.block f (n / 16)
    let face := s.face f
    let marks := (walk s f n).2
    let linked (g m : Nat) : Prop :=
      face.present = true ∧ block.present = true ∧ (s.entry block.page (n % 16)).kind = .indirect g m ∧
        (s.face g).present = true
    (∀ k, k ∈ marks.faces ↔ (k = f ∧ face.present = true) ∨ ∃ m, linked k m) ∧
    (∀ k, k ∈ marks.blocks ↔ (k = 24 * f + n / 16 ∧ face.present = true ∧ block.present = true) ∨
      ∃ g m, linked g m ∧ (s.block g (m / 16)).present = true ∧ k = 24 * g + m / 16) ∧
    ∀ k, k ∈ marks.entries ↔
      (k = 16 * block.page + n % 16 ∧ face.present = true ∧ block.present = true) ∨
      ∃ g m, linked g m ∧ (s.block g (m / 16)).present = true ∧ k = 16 * (s.block g (m / 16)).page + m % 16 := by
  intro block face marks linked
  obtain ⟨hface, hblock, hdirect, hlink⟩ := walk_result_and_marks s f n
  cases hf : face.present
  · simp [marks, linked, hface hf, hf, Marks.none]
  cases hb : block.present
  · simp [marks, linked, hblock hf hb, hf, hb]
  by_cases hk : ∃ g m, (s.entry block.page (n % 16)).kind = .indirect g m
  · obtain ⟨g, m, hk⟩ := hk
    have hl (g' m' : Nat) : linked g' m' ↔ (g' = g ∧ m' = m) ∧ (s.face g).present = true := by
      refine ⟨fun ⟨_, _, he, hg⟩ => ?_, fun ⟨⟨eg, em⟩, hg⟩ => ⟨hf, hb, by rw [eg, em, hk], by rw [eg, hg]⟩⟩
      obtain ⟨rfl, rfl⟩ := EntryKind.indirect.inj (hk.symm.trans he)
      exact ⟨⟨rfl, rfl⟩, hg⟩
    simp only [marks, hlink g m hf hb hk, hl, readMarks_eq]
    split_ifs with hg hh
    · simp [Marks.append, Marks.none, hg, slotKey, block]
    all_goals simp [Marks.append, hg, hh, slotKey, block]
  · have hk' : ∀ g m, (s.entry block.page (n % 16)).kind ≠ .indirect g m := fun g m e => hk ⟨g, m, e⟩
    simp [marks, linked, hdirect hf hb hk', hf, hb, hk', slotKey, block]

/-- Settles O16: `walk_returns` and `walk_marks` say what a walk answers and marks, link by link; the marks set are
those of some walk, table by table; and a span fails with the first reason of R7's order that a walk of it meets. -/
theorem walkFollowsOneLink : Obligations.WalkFollowsOneLink := by
  refine ⟨fun s f n _ _ => ?_, fun l s => ?_, judgeWalks_order⟩
  · obtain ⟨h1, h2, h3, h4⟩ := walk_returns s f n
    exact ⟨h1, h2, h3, h4, walk_marks s f n⟩
  · refine ⟨setMarks_dirOnly _ _, fun k => ?_⟩
    obtain ⟨hf, hb, he⟩ := contains_allMarks l k
    exact ⟨hf ▸ setMarks_face _ _ _, hb ▸ setMarks_block _ _ _, he ▸ setMarks_entry _ _ _⟩

end Sys2Proof.Machine
end

section
/-! SUPPORT. Reservation, freeing and marking of a span, entry by entry. -/
namespace Sys2Proof.Machine

/-- Nothing but entries of the Directory may differ. -/
def EntriesOnly (s t : State) : Prop := t = { s with dir := { s.dir with entries := t.dir.entries } }

theorem EntriesOnly.refl (s : State) : EntriesOnly s s := rfl

theorem EntriesOnly.trans {s t u : State} (h : EntriesOnly s t) (k : EntriesOnly t u) : EntriesOnly s u := by
  unfold EntriesOnly at *; rw [k, h]

theorem EntriesOnly.modEntry (s : State) (k : Nat) (g : SlotEntry → SlotEntry) : EntriesOnly s (s.modEntry k g) := rfl

theorem EntriesOnly.foldl {α : Type} {g : State → α → State} (hg : ∀ s a, EntriesOnly s (g s a)) (l : List α)
    (s : State) :
    EntriesOnly s (l.foldl g s) :=
  foldl_keeps (P := EntriesOnly s) (fun _ _ _ ht => ht.trans (hg _ _)) (EntriesOnly.refl s)

section
variable {s t : State} (h : EntriesOnly s t)
include h
theorem EntriesOnly.faces : t.dir.faces = s.dir.faces := by rw [h]
theorem EntriesOnly.blocks : t.dir.blocks = s.dir.blocks := by rw [h]
theorem EntriesOnly.table : t.table = s.table := by rw [h]
theorem EntriesOnly.face (f : Nat) : t.face f = s.face f := by rw [h]; rfl
theorem EntriesOnly.block (f b : Nat) : t.block f b = s.block f b := by rw [h]; rfl
theorem EntriesOnly.ctx (n : Nat) : t.ctx n = s.ctx n := by rw [h]; rfl
theorem EntriesOnly.slotKey (f n : Nat) : Machine.slotKey t f n = Machine.slotKey s f n := by
  simp only [Machine.slotKey, h.block]
end

theorem setKind_entriesOnly (f n : Nat) (k : EntryKind) (s : State) : EntriesOnly s (setKind f n k s) := by
  unfold setKind; split <;> rfl

theorem freeSlot_entriesOnly (f n : Nat) (k : EntryKind) (s : State) : EntriesOnly s (freeSlot f n k s) := by
  unfold freeSlot
  split
  · split <;> rfl
  · rfl

theorem reserveSpan_entriesOnly (h ing eg first count : Nat) (s : State) :
    EntriesOnly s (reserveSpan h ing eg first count s) :=
  EntriesOnly.foldl (fun _ _ => (setKind_entriesOnly _ _ _ _).trans (setKind_entriesOnly _ _ _ _)) _ _

theorem freeSpan_entriesOnly (h ing eg first count : Nat) (s : State) :
    EntriesOnly s (freeSpan h ing eg first count s) :=
  EntriesOnly.foldl (fun _ _ => (freeSlot_entriesOnly _ _ _ _).trans (freeSlot_entriesOnly _ _ _ _)) _ _

theorem setKind_of_present {f n : Nat} {s : State} (h : (s.block f (n / 16)).present = true) (k : EntryKind) :
    setKind f n k s = s.modEntry (slotKey s f n) fun x => { x with kind := k } := by
  simp [setKind, entryKey_of_present h]

/-- R10: a freed slot changes at most the kind of its own entry, where that was the expected one. -/
theorem freeSlot_entry (f n : Nat) (k : EntryKind) (s : State) (j : Nat) :
    (freeSlot f n k s).dir.entries.get j =
      if (s.face f).present = true ∧ (s.block f (n / 16)).present = true ∧ j = slotKey s f n ∧
          (s.dir.entries.get j).kind = k then { s.dir.entries.get j with kind := .free }
      else s.dir.entries.get j := by
  by_cases hf : (s.face f).present = true
  · by_cases hb : (s.block f (n / 16)).present = true
    · rw [freeSlot_entries hf hb]; simp only [hf, hb, true_and]; rfl
    · simp [freeSlot, readSlot_of_blockAbsent hf (Bool.eq_false_iff.2 hb), hb]
  · simp [freeSlot, readSlot_of_faceAbsent (Bool.eq_false_iff.2 hf), hf]

/-- R9: what the reservation of slot `n` does to the entry with key `j`. -/
def reserveEntry (s : State) (handle ing eg : Nat) (j n : Nat) (x : SlotEntry) : SlotEntry :=
  if j = slotKey s ing n then { x with kind := .indirect eg n }
  else if j = slotKey s eg n then { x with kind := .owned handle } else x

/-- R10: what the freeing of slot `n` does to the entry with key `j`. -/
def freeEntry (s : State) (handle ing eg : Nat) (j n : Nat) (x : SlotEntry) : SlotEntry :=
  if (s.face eg).present = true ∧ (s.block eg (n / 16)).present = true ∧ j = slotKey s eg n ∧ x.kind = .owned handle
  then { x with kind := .free }
  else if (s.face ing).present = true ∧ (s.block ing (n / 16)).present = true ∧ j = slotKey s ing n ∧
    x.kind = .indirect eg n then { x with kind := .free } else x

/-- R9: a reservation is, entry by entry, the fold of what it does slot by slot. -/
theorem reserveSpan_entry {handle ing eg first count : Nat} {s : State}
    (hb : ∀ n ∈ spanSlots first count, (s.block ing (n / 16)).present = true ∧ (s.block eg (n / 16)).present = true)
    (j : Nat) :
    (reserveSpan handle ing eg first count s).dir.entries.get j =
      (spanSlots first count).foldl (fun x n => reserveEntry s handle ing eg j n x) (s.dir.entries.get j) := by
  refine get_foldl (P := EntriesOnly s) (read := fun t => t.dir.entries.get j) (fun t n _ ht => ?_)
    (fun t n hn ht => ?_) (EntriesOnly.refl s)
  · exact ht.trans ((setKind_entriesOnly _ _ _ _).trans (setKind_entriesOnly _ _ _ _))
  · have hi : (t.block ing (n / 16)).present = true := by rw [ht.block]; exact (hb n hn).1
    have he : (t.block eg (n / 16)).present = true := by rw [ht.block]; exact (hb n hn).2
    have hk := setKind_entriesOnly eg n (.owned handle) t
    rw [setKind_entries (by rw [hk.block]; exact hi), setKind_entries he, hk.block, ht.block, ht.block, reserveEntry]
    simp only [slotKey]
    split_ifs <;> simp_all

/-- R10: a freeing is, entry by entry, the fold of what it does slot by slot. -/
theorem freeSpan_entry (handle ing eg first count : Nat) (s : State) (j : Nat) :
    (freeSpan handle ing eg first count s).dir.entries.get j =
      (spanSlots first count).foldl (fun x n => freeEntry s handle ing eg j n x) (s.dir.entries.get j) := by
  refine get_foldl (P := EntriesOnly s) (read := fun t => t.dir.entries.get j) (fun t n _ ht => ?_)
    (fun t n hn ht => ?_) (EntriesOnly.refl s)
  · exact ht.trans ((freeSlot_entriesOnly _ _ _ _).trans (freeSlot_entriesOnly _ _ _ _))
  · have hk := freeSlot_entriesOnly eg n (.owned handle) t
    rw [freeSlot_entry, freeSlot_entry, hk.face, hk.block, hk.slotKey, ht.face, ht.face, ht.block, ht.block, ht.slotKey,
      ht.slotKey, freeEntry]
    split_ifs <;> simp_all

/-- A span of two of the node's faces whose blocks are all present. -/
structure SpanPresent (ing eg first count : Nat) (s : State) : Prop where
  apart   : Law10 s
  ing_le  : ing ≤ 11
  eg_le   : eg ≤ 11
  ne      : ing ≠ eg
  fits    : first + count ≤ 384
  present : ∀ n ∈ spanSlots first count, (s.block ing (n / 16)).present = true ∧ (s.block eg (n / 16)).present = true

section
variable {ing eg first count : Nat} {s : State} (hs : SpanPresent ing eg first count s)
include hs

/-- Under Law 10 the keys of a span on its two faces are all different. -/
theorem SpanPresent.key_eg {n m : Nat} (hn : n ∈ spanSlots first count) (hm : m ∈ spanSlots first count) :
    slotKey s eg n ≠ slotKey s ing m ∧ (slotKey s eg n = slotKey s eg m → n = m) := by
  obtain ⟨-, hn2⟩ := mem_spanSlots.1 hn
  obtain ⟨-, hm2⟩ := mem_spanSlots.1 hm
  have := hs.fits
  exact ⟨fun h => hs.ne (slotKey_inj hs.apart hs.eg_le hs.ing_le (by omega) (by omega) (hs.present n hn).2
      (hs.present m hm).1 h).1.symm,
    fun h => (slotKey_inj hs.apart hs.eg_le hs.eg_le (by omega) (by omega) (hs.present n hn).2 (hs.present m hm).2 h).2⟩

theorem SpanPresent.key_ing {n m : Nat} (hn : n ∈ spanSlots first count) (hm : m ∈ spanSlots first count)
    (h : slotKey s ing n = slotKey s ing m) : n = m := by
  obtain ⟨-, hn2⟩ := mem_spanSlots.1 hn
  obtain ⟨-, hm2⟩ := mem_spanSlots.1 hm
  have := hs.fits
  exact (slotKey_inj hs.apart hs.ing_le hs.ing_le (by omega) (by omega) (hs.present n hn).1 (hs.present m hm).1 h).2

/-- R9: the entry of a slot of the span on the egress face after a reservation. -/
theorem SpanPresent.reserved_eg {n : Nat} (handle : Nat) (hn : n ∈ spanSlots first count) :
    (reserveSpan handle ing eg first count s).dir.entries.get (slotKey s eg n) =
      { s.dir.entries.get (slotKey s eg n) with kind := .owned handle } := by
  rw [reserveSpan_entry hs.present, foldl_of_nodup (nodup_spanSlots _ _) hn]
  · rw [reserveEntry, if_neg (hs.key_eg hn hn).1, if_pos rfl]
  · intro m hm hne x
    rw [reserveEntry, if_neg (hs.key_eg hn hm).1, if_neg fun e => hne ((hs.key_eg hn hm).2 e).symm]

/-- R9: the entry of a slot of the span on the ingress face after a reservation. -/
theorem SpanPresent.reserved_ing {n : Nat} (handle : Nat) (hn : n ∈ spanSlots first count) :
    (reserveSpan handle ing eg first count s).dir.entries.get (slotKey s ing n) =
      { s.dir.entries.get (slotKey s ing n) with kind := .indirect eg n } := by
  rw [reserveSpan_entry hs.present, foldl_of_nodup (nodup_spanSlots _ _) hn]
  · rw [reserveEntry, if_pos rfl]
  · intro m hm hne x
    rw [reserveEntry, if_neg fun e => hne (hs.key_ing hn hm e).symm, if_neg fun e => (hs.key_eg hm hn).1 e.symm]

/-- R9: a reservation touches no entry that is not of the span. -/
theorem SpanPresent.reserved_other (handle : Nat) {k : Nat}
    (hk : ∀ n ∈ spanSlots first count, k ≠ slotKey s eg n ∧ k ≠ slotKey s ing n) :
    (reserveSpan handle ing eg first count s).dir.entries.get k = s.dir.entries.get k := by
  rw [reserveSpan_entry hs.present, foldl_of_idle]
  intro n hn x
  rw [reserveEntry, if_neg (hk n hn).2, if_neg (hk n hn).1]

/-- R10: the entry of a slot of the span on the egress face after a freeing. -/
theorem SpanPresent.freed_eg {n : Nat} (handle : Nat) (he : (s.face eg).present = true)
    (hn : n ∈ spanSlots first count) :
    (freeSpan handle ing eg first count s).dir.entries.get (slotKey s eg n) =
      if (s.dir.entries.get (slotKey s eg n)).kind = .owned handle then
        { s.dir.entries.get (slotKey s eg n) with kind := .free }
      else s.dir.entries.get (slotKey s eg n) := by
  rw [freeSpan_entry, foldl_of_nodup (nodup_spanSlots _ _) hn]
  · simp [freeEntry, he, (hs.present n hn).2, (hs.key_eg hn hn).1]
  · intro m hm hne x
    have h1 := (hs.key_eg hn hm).1
    have h2 : slotKey s eg n ≠ slotKey s eg m := fun e => hne ((hs.key_eg hn hm).2 e).symm
    simp [freeEntry, h1, h2]

/-- R10: the entry of a slot of the span on the ingress face after a freeing. -/
theorem SpanPresent.freed_ing {n : Nat} (handle : Nat) (hi : (s.face ing).present = true)
    (hn : n ∈ spanSlots first count) :
    (freeSpan handle ing eg first count s).dir.entries.get (slotKey s ing n) =
      if (s.dir.entries.get (slotKey s ing n)).kind = .indirect eg n then
        { s.dir.entries.get (slotKey s ing n) with kind := .free }
      else s.dir.entries.get (slotKey s ing n) := by
  rw [freeSpan_entry, foldl_of_nodup (nodup_spanSlots _ _) hn]
  · simp [freeEntry, hi, (hs.present n hn).1, (hs.key_eg hn hn).1.symm]
  · intro m hm hne x
    have h1 := (hs.key_eg hm hn).1.symm
    have h2 : slotKey s ing n ≠ slotKey s ing m := fun e => hne (hs.key_ing hn hm e).symm
    simp [freeEntry, h1, h2]
end

/-- R10: a freeing touches no entry that is not of the span. -/
theorem freeSpan_other (handle ing eg first count : Nat) {s : State} {k : Nat}
    (hk : ∀ n ∈ spanSlots first count, k ≠ slotKey s eg n ∧ k ≠ slotKey s ing n) :
    (freeSpan handle ing eg first count s).dir.entries.get k = s.dir.entries.get k := by
  rw [freeSpan_entry, foldl_of_idle]
  intro n hn x
  simp [freeEntry, hk n hn]

/-- Settles O17: under Law 10 the slots of a span have keys of their own, so the fold over the span acts on each entry
once, on the egress and on the ingress face. -/
theorem spanReservedAndFreed : Obligations.SpanReservedAndFreed := by
  intro handle ing eg first count s h10 hing heg hne hfit hpres inSpan key r t
  have hs : SpanPresent ing eg first count s :=
    ⟨h10, hing, heg, hne, hfit, fun n hn => hpres n (mem_spanSlots.1 hn).1 (mem_spanSlots.1 hn).2⟩
  have other {k : Nat} (hk : ∀ n, inSpan n → k ≠ key eg n ∧ k ≠ key ing n) :
      ∀ n ∈ spanSlots first count, k ≠ slotKey s eg n ∧ k ≠ slotKey s ing n := fun n hn => hk n (mem_spanSlots.1 hn)
  exact ⟨reserveSpan_entriesOnly .., fun n hn => ⟨hs.reserved_eg handle (mem_spanSlots.2 hn),
      hs.reserved_ing handle (mem_spanSlots.2 hn)⟩, fun k hk => hs.reserved_other handle (other hk),
    freeSpan_entriesOnly .., fun hi he n hn => ⟨hs.freed_eg handle he (mem_spanSlots.2 hn),
      hs.freed_ing handle hi (mem_spanSlots.2 hn)⟩, fun k hk => freeSpan_other handle ing eg first count (other hk)⟩

end Sys2Proof.Machine
end

section
/-! SUPPORT. Marking of a span's slots, and the results of settings. -/
namespace Sys2Proof.Machine

/-! ## Marking (R11) -/

/-- R11: the marking of one slot. -/
def markSlot (handle eg : Nat) (s : State) (n : Nat) : State :=
  match entryKey s eg n with
  | none => s
  | some e =>
    if (s.dir.entries.get e).kind = .owned handle then s.modEntry e fun x => { x with modified := true } else s

theorem markModified_eq (handle eg first count : Nat) (s : State) :
    markModified handle eg first count s = (spanSlots first count).foldl (markSlot handle eg) s := rfl

theorem markSlot_entriesOnly (handle eg n : Nat) (s : State) : EntriesOnly s (markSlot handle eg s n) := by
  unfold markSlot
  split
  · rfl
  · split <;> rfl

theorem markModified_entriesOnly (handle eg first count : Nat) (s : State) :
    EntriesOnly s (markModified handle eg first count s) :=
  EntriesOnly.foldl (fun _ _ => markSlot_entriesOnly _ _ _ _) _ _

/-- R11: one slot's marking sets the modified flag of its own entry, where a present block governs it and the handle
owns it. -/
theorem markSlot_entry (handle eg n : Nat) (s : State) (j : Nat) :
    (markSlot handle eg s n).dir.entries.get j =
      if ((s.block eg (n / 16)).present = true ∧ j = slotKey s eg n) ∧ (s.dir.entries.get j).kind = .owned handle then
        { s.dir.entries.get j with modified := true }
      else s.dir.entries.get j := by
  unfold markSlot
  by_cases hb : (s.block eg (n / 16)).present = true
  · rw [entryKey_of_present hb]
    by_cases hj : j = slotKey s eg n
    · subst hj
      by_cases hk : (s.dir.entries.get (slotKey s eg n)).kind = .owned handle <;> simp [hb, hk]
    · by_cases hk : (s.dir.entries.get (slotKey s eg n)).kind = .owned handle <;> simp [hk, hj]
  · simp [entryKey_of_absent (Bool.eq_false_iff.2 hb), hb]

/-- R11: what marking does to an entry of the span. -/
def markEntry (handle : Nat) (x : SlotEntry) : SlotEntry :=
  if x.kind = .owned handle then { x with modified := true } else x

theorem markEntry_markEntry (handle : Nat) (x : SlotEntry) :
    markEntry handle (markEntry handle x) = markEntry handle x := by
  unfold markEntry
  split_ifs <;> simp_all

/-- R11: the marking sets the modified flag of the entries that a present block governs for a slot of the span and that
the handle owns, and changes no other entry. -/
theorem markModified_entry (handle eg first count : Nat) (s : State) (j : Nat) :
    (markModified handle eg first count s).dir.entries.get j =
      if ∃ n ∈ spanSlots first count, (s.block eg (n / 16)).present = true ∧ j = slotKey s eg n then
        markEntry handle (s.dir.entries.get j)
      else s.dir.entries.get j := by
  have hfold := get_foldl (P := EntriesOnly s) (read := fun t => t.dir.entries.get j) (g := markSlot handle eg)
    (φ := fun n x =>
      if ((s.block eg (n / 16)).present && decide (j = slotKey s eg n)) = true then markEntry handle x else x)
    (l := spanSlots first count)
    (fun t n _ ht => ht.trans (markSlot_entriesOnly _ _ _ _))
    (fun t n _ ht => by
      rw [markSlot_entry, ht.block, ht.slotKey]
      simp only [markEntry, Bool.and_eq_true, decide_eq_true_eq]
      split_ifs <;> simp_all) (EntriesOnly.refl s)
  rw [markModified_eq, hfold, foldl_of_idem (markEntry_markEntry handle)]
  simp only [List.any_eq_true, Bool.and_eq_true, decide_eq_true_eq]

@[simp] theorem markModified_ctx (handle eg first count : Nat) (s : State) (n : Nat) :
    (markModified handle eg first count s).ctx n = s.ctx n := (markModified_entriesOnly ..).ctx n

/-! ## Results of settings (R22, R70, R106, R109, R111, R127) -/

theorem current_of_inst {s : State} {n : Nat} {c : Context} (hc : s.ctx n = some c) : current s n c.inst = some c := by
  simp [current, hc]

theorem current_of_other {s : State} {n i : Nat} {c : Context} (hc : s.ctx n = some c) (hi : i ≠ c.inst) :
    current s n i = none := by simp [current, hc, Ne.symm hi]

section
variable {s : State} {n : Nat} {c : Context} (hc : s.ctx n = some c)
include hc

/-- R22: a result tagged with another number than the record holds is discarded. -/
theorem result_of_other_inst {i : Nat} (hi : i ≠ c.inst) (a : Nat) (r : Result) :
    ∀ p ∈ [Purpose.rampSet a, .withdrawSet a, .withdrawBlock, .safety, .rampGet],
      doWork (.result (.ctx n i p) r) s = s := by
  simp [doWork, takeResult, takeRampResult, takeSafetyResult, current_of_other hc hi]

/-- R111: a result that a record in another state did not ask for is discarded. -/
theorem takeRampResult_discarded (a : Nat) (r : Result) :
    (c.st ≠ .ramping → takeRampResult n c.inst (.rampSet a) r s = s ∧ takeRampResult n c.inst .rampGet r s = s) ∧
    (c.st ≠ .withdrawing →
      takeRampResult n c.inst (.withdrawSet a) r s = s ∧ takeRampResult n c.inst .withdrawBlock r s = s) := by
  simp only [takeRampResult, current_of_inst hc]
  cases c.st <;> simp

/-- R106, R109: a setting that succeeded is recorded and its slots are marked; the dwell starts. -/
theorem takeSetting_eq (a : Nat) :
    takeSetting n c (.db a) s =
      startDwell n c (markModified n c.egress c.first c.count (s.setCtx n (some { c with atten := .db a }))) := by
  rw [takeSetting, State.modCtx_of_some _ hc]

theorem takeRampResult_ramping (hst : c.st = .ramping) (a : Nat) :
    takeRampResult n c.inst (.rampSet a) .done s =
      startDwell n c (markModified n c.egress c.first c.count (s.setCtx n (some { c with atten := .db a }))) ∧
    takeRampResult n c.inst (.rampSet a) .failed s = localFault n c .element s := by
  simp [takeRampResult, current_of_inst hc, hst, takeSetting_eq hc]

theorem takeRampResult_withdrawing (hst : c.st = .withdrawing) (a : Nat) :
    takeRampResult n c.inst (.withdrawSet a) .done s =
      startDwell n c (markModified n c.egress c.first c.count (s.setCtx n (some { c with atten := .db a }))) ∧
    takeRampResult n c.inst (.withdrawSet a) .failed s = localFault n c .element s ∧
    takeRampResult n c.inst .withdrawBlock .failed s = localFault n c .element s ∧
    takeRampResult n c.inst .withdrawBlock .done s =
      freeRecord n c (sendOn c.downPort .teardown (TeardownBody.encode ⟨c.lpId, 1, c.hopList.getD []⟩)
        (markModified n c.egress c.first c.count (s.setCtx n (some { c with atten := .blocked })))) := by
  simp [takeRampResult, current_of_inst hc, hst, takeSetting_eq hc, finishWithdrawal, State.modCtx_of_some _ hc,
    sendTeardown]

/-- R127: a safety block's result, by the record's state. -/
theorem takeSafetyResult_by_state :
    (c.st ≠ .faulted → ∀ r, takeSafetyResult n c.inst r s = s) ∧
    (c.st = .faulted → ∀ x, c.faultRec = some x →
      takeSafetyResult n c.inst .done s = s.setCtx n (some { c with atten := .blocked }) ∧
      takeSafetyResult n c.inst .failed s =
        s.setCtx n (some { c with faultRec := some { x with unconfirmed := true } })) := by
  simp only [takeSafetyResult, current_of_inst hc, State.modCtx_of_some _ hc]
  exact ⟨fun h r => if_pos h, fun h x hx => by simp [h, hx]⟩

theorem takeProbeResult_discarded (h1 : c.st ≠ .probing) (h2 : c.st ≠ .armed) (a : Option Nat) (r : Result) :
    takeProbeResult n c.inst a r s = s := by
  simp [takeProbeResult, current_of_inst hc, h1, h2]

theorem takeProbeResult_failed (hst : c.st = .probing ∨ c.st = .armed) (a : Option Nat) :
    takeProbeResult n c.inst a .failed s =
      localFault n c .element (s.setCtx n (some { c with work := { c.work with outstanding := false } })) := by
  simp [takeProbeResult, current_of_inst hc, hst, State.modCtx_of_some _ hc]

/-- R70: with nothing waiting, nothing more is asked. -/
theorem pumpProbe_of_idle (h : c.work.idle = true) : pumpProbe n s = s := by
  simp only [ProbeWork.idle, Bool.and_eq_true, Bool.not_eq_true', Option.isNone_iff_eq_none] at h
  simp [pumpProbe, hc, h]

/-- R70: a level setting that succeeded with no more work waiting: recorded, its slots marked, the grant judged. -/
theorem takeProbeResult_level (hst : c.st = .probing ∨ c.st = .armed) (a : Nat) (hl : c.work.level = none)
    (hs : c.work.start = false) (hp : c.work.stop = false) :
    takeProbeResult n c.inst (some a) .done s =
      (markModified n c.egress c.first c.count
        (s.setCtx n (some { c with work := { c.work with outstanding := false }, atten := .db a }))).push
        [.judgeGrant c.egress] := by
  let d : Context := { c with work := { c.work with outstanding := false }, atten := .db a }
  have hd : (markModified n c.egress c.first c.count (s.setCtx n (some d))).ctx n = some d := by simp
  have hi : d.work.idle = true := by simp [d, ProbeWork.idle, hl, hs, hp]
  simp only [takeProbeResult, current_of_inst hc, hst, if_true, reduceCtorEq, if_false, State.modCtx_of_some _ hc,
    State.modCtx_setCtx, Option.map_some]
  rw [pumpProbe_of_idle hd hi, hd]
  exact if_pos hi
end

/-- Settles O45: a result is judged by the record's number and state, purpose by purpose; the marking of the slots is an
update of one entry for each slot of the span, and takes it where the handle owns it. -/
theorem settingResultsApplied : Obligations.SettingResultsApplied := by
  refine ⟨fun n a c s hc => ?_, fun n f first count s => ?_⟩
  · intro result marked
    have probe (p : Purpose) (hp : p ∈ [Purpose.level a, .ditherStart, .ditherStop]) (r : Result) :
        ∃ b, result c.inst p r = takeProbeResult n c.inst b r s := by
      simp only [List.mem_cons, List.not_mem_nil, or_false] at hp
      rcases hp with rfl | rfl | rfl
      exacts [⟨some a, rfl⟩, ⟨none, rfl⟩, ⟨none, rfl⟩]
    refine ⟨fun p hp i r hi => result_of_other_inst hc hi a r p hp, ?_⟩
    simp only [result, doWork, takeResult]
    refine ⟨fun h r => (takeRampResult_discarded hc a r).1 h, fun h r => (takeRampResult_discarded hc a r).2 h,
      fun h1 h2 r => ⟨takeProbeResult_discarded hc h1 h2 (some a) r, takeProbeResult_discarded hc h1 h2 none r,
        takeProbeResult_discarded hc h1 h2 none r⟩,
      (takeSafetyResult_by_state hc).1, fun h => takeRampResult_ramping hc h a,
      fun h => takeRampResult_withdrawing hc h a, (takeSafetyResult_by_state hc).2, fun hst => ⟨fun p hp => ?_, ?_⟩⟩
    · obtain ⟨b, hb⟩ := probe p hp .failed
      exact hb.trans (takeProbeResult_failed hc hst b)
    · exact takeProbeResult_level hc hst a
  · intro t owned
    have ho (k : Nat) : owned k ↔
        (∃ i ∈ spanSlots first count, (s.block f (i / 16)).present = true ∧ k = slotKey s f i) ∧
        (s.dir.entries.get k).kind = .owned n := by
      simp only [owned, mem_spanSlots, and_assoc]; rfl
    refine ⟨markModified_entriesOnly .., fun k hk => ?_, fun k hk => ?_⟩
    · obtain ⟨hs, hown⟩ := (ho k).1 hk
      rw [markModified_entry, if_pos hs, markEntry, if_pos hown]
    · rw [markModified_entry]
      split_ifs with hs
      · rw [markEntry, if_neg fun hown => hk ((ho k).2 ⟨hs, hown⟩)]
      · rfl

end Sys2Proof.Machine
end

section
/-! SUPPORT. What Laws 1, 2, 9 and 10 read of a state, and the operations that leave all of it as it was. -/
namespace Sys2Proof.Machine

/-! ## Sums over a table -/

section
variable {α : Type} {d : α} (g : α → Nat)

theorem Tab.sum_erase {l : List (Nat × α)} (hl : l.Pairwise fun a b => a.1 < b.1) (hd : g d = 0) (k : Nat) :
    ((Tab.erase k l).map fun x => g x.2).sum + g ((Tab.lookup l k).getD d) = (l.map fun x => g x.2).sum := by
  induction l with
  | nil => simp [Tab.erase, Tab.lookup, hd]
  | cons c r ih =>
    obtain ⟨j, v⟩ := c
    obtain ⟨hlt, hr⟩ := List.pairwise_cons.1 hl
    have ih := ih hr
    by_cases hj : j = k
    · subst hj
      have he : Tab.erase j ((j, v) :: r) = r := by
        rw [Tab.erase, List.filter_cons_of_neg (by simp), List.filter_eq_self]
        exact fun x hx => decide_eq_true (hlt x hx).ne'
      rw [he]
      simp [Tab.lookup, Nat.add_comm]
    · simp only [Tab.erase] at ih
      simp [Tab.erase, Tab.lookup, hj, ← ih, Nat.add_assoc]

theorem Tab.sum_insert (k : Nat) (v : α) {l : List (Nat × α)} (hl : ∀ x ∈ l, x.1 ≠ k) :
    ((Tab.insert k v l).map fun x => g x.2).sum = (l.map fun x => g x.2).sum + g v := by
  induction l with
  | nil => simp [Tab.insert]
  | cons c r ih =>
    obtain ⟨j, w⟩ := c
    have hj : j ≠ k := hl (j, w) List.mem_cons_self
    have ih := ih fun x hx => hl x (List.mem_cons_of_mem _ hx)
    simp only [Tab.insert]
    split_ifs with h1 h2
    · simp only [List.map_cons, List.sum_cons]; omega
    · exact absurd h2.symm hj
    · simp only [List.map_cons, List.sum_cons, ih]; omega

/-- A sum over the records of a table in its canonical form, after a write. -/
theorem Tab.sum_set [DecidableEq α] {t : Tab d} (ht : t.wf) (hd : g d = 0) (k : Nat) (v : α) :
    ((t.set k v).cells.map fun x => g x.2).sum + g (t.get k) = (t.cells.map fun x => g x.2).sum + g v := by
  have he := Tab.sum_erase g ht.1 hd k
  unfold Tab.set Tab.get
  split_ifs with hv
  · rw [hv, hd, he, Nat.add_zero]
  · rw [Tab.sum_insert g k v fun x hx => by simpa using List.of_mem_filter hx]; omega
end

/-! ## The path of a record -/

/-- What Laws 1, 2 and 9 read of a record: ingress and egress face, span, and whether it is counted as live. -/
def Context.path (c : Context) : Nat × Nat × Nat × Nat × Bool := (c.ingress, c.egress, c.first, c.count, c.st.counted)

theorem Context.path_eq_iff {c d : Context} :
    c.path = d.path ↔ c.ingress = d.ingress ∧ c.egress = d.egress ∧ c.first = d.first ∧ c.count = d.count ∧
      c.st.counted = d.st.counted := by simp [Context.path]

/-- Ingress and egress face and span of a record. -/
def Context.layout (c : Context) : Nat × Nat × Nat × Nat := (c.ingress, c.egress, c.first, c.count)

theorem Context.layout_eq_iff {c d : Context} :
    c.layout = d.layout ↔ c.ingress = d.ingress ∧ c.egress = d.egress ∧ c.first = d.first ∧ c.count = d.count := by
  simp [Context.layout]

theorem Context.spans_of_layout {c d : Context} (h : c.layout = d.layout) (n : Nat) : c.spans n ↔ d.spans n := by
  obtain ⟨_, _, hf, hc⟩ := Context.layout_eq_iff.1 h
  simp [Context.spans, hf, hc]

/-- R12: the slots that a record adds to a face's live slot count. -/
def liveSlots (f : Nat) (x : Option Context) : Nat :=
  match x with
  | some c => if c.egress = f ∧ c.st.counted = true then c.count else 0
  | none => 0

theorem countedSlots_eq (s : State) (f : Nat) :
    countedSlots s f = (s.table.recs.cells.map fun x => liveSlots f x.2).sum := rfl

theorem liveSlots_of_path {x y : Option Context} (h : x.map Context.path = y.map Context.path) (f : Nat) :
    liveSlots f x = liveSlots f y := by
  cases x <;> cases y <;> simp_all [liveSlots, Context.path_eq_iff]

/-- R12: the counted slots of a face after a write of one record. -/
theorem countedSlots_setCtx {s : State} (hw : s.table.recs.wf) (f h : Nat) (c : Option Context) :
    countedSlots (s.setCtx h c) f + liveSlots f (s.ctx h) = countedSlots s f + liveSlots f c :=
  Tab.sum_set (liveSlots f) hw rfl h c

/-! ## States that agree in all that the laws read -/

/-- The states agree in what Laws 1, 2 and 10 read. -/
structure SameLayout (s t : State) : Prop where
  blocks  : ∀ k, (t.dir.blocks.get k).present = (s.dir.blocks.get k).present ∧
    (t.dir.blocks.get k).page = (s.dir.blocks.get k).page
  faces   : ∀ f, (t.face f).present = (s.face f).present
  kinds   : ∀ k, (t.dir.entries.get k).kind = (s.dir.entries.get k).kind
  layouts : ∀ h, (t.ctx h).map Context.layout = (s.ctx h).map Context.layout

/-- Laws 1, 2 and 10 over sound paths. -/
def LayoutLaws (s : State) : Prop := PathsSound s ∧ Law1 s ∧ Law2 s ∧ Law10 s

theorem spectrumLaws_iff (s : State) : SpectrumLaws s ↔ s.table.recs.wf ∧ LayoutLaws s ∧ Law9 s := by
  unfold SpectrumLaws LayoutLaws
  tauto

/-- The kinds of entry that Laws 1 and 2 speak of. -/
def EntryKind.held : EntryKind → Bool
  | .owned _ | .indirect _ _ => true
  | _ => false

/-- The record that stands at a handle in one of two states that agree in layouts, found in the other. -/
theorem ctx_of_layouts {x y : Option Context} (h : x.map Context.layout = y.map Context.layout) {c : Context}
    (hc : x = some c) : ∃ d, y = some d ∧ d.layout = c.layout := by
  rw [hc, Option.map_some] at h
  exact Option.map_eq_some_iff.1 h.symm

/-- Laws 1, 2 and 10 go over to a state that agrees in the records' layouts and in the OWNED and INDIRECT entries. -/
theorem LayoutLaws.transfer {s t : State} (hl : LayoutLaws s)
    (hctx : ∀ h, (t.ctx h).map Context.layout = (s.ctx h).map Context.layout)
    (hface : ∀ h c, s.ctx h = some c → (t.face c.ingress).present = true ∧ (t.face c.egress).present = true)
    (hk : ∀ f n k, f ≤ 11 → n ≤ 383 → k.held = true → (slotKind t f n = some k ↔ slotKind s f n = some k))
    (h10 : Law10 t) : LayoutLaws t := by
  obtain ⟨hp, ⟨h1, h1'⟩, ⟨h2, h2'⟩, -⟩ := hl
  have slots_le {h : Nat} {c : Context} (hc : s.ctx h = some c) {n : Nat} (hn : c.spans n) : n ≤ 383 := by
    obtain ⟨-, -, -, -, hfit, -⟩ := hp h c hc
    unfold Context.spans at hn
    omega
  refine ⟨fun n c hc => ?_, ⟨fun n c k hc hn => ?_, fun f k n hf hn ho => ?_⟩,
    ⟨fun n c k hc hn => ?_, fun f k g m hf hn ho => ?_⟩, h10⟩
  · obtain ⟨d, hd, he⟩ := ctx_of_layouts (hctx n) hc
    obtain ⟨e1, e2, e3, e4⟩ := Context.layout_eq_iff.1 he
    obtain ⟨hi, he, hne, hcount, hfit, -⟩ := hp n d hd
    rw [← e1, ← e2, ← e3, ← e4]
    exact ⟨hi, he, hne, hcount, hfit, hface n d hd⟩
  · obtain ⟨d, hd, he⟩ := ctx_of_layouts (hctx n) hc
    have hn := (Context.spans_of_layout he k).2 hn
    rw [← (Context.layout_eq_iff.1 he).2.1]
    exact (hk _ k _ (hp n d hd).2.1 (slots_le hd hn) rfl).2 (h1 n d k hd hn)
  · obtain ⟨c, hc, hcf, hck⟩ := h1' f k n hf hn ((hk f k _ hf hn rfl).1 ho)
    obtain ⟨d, hd, he⟩ := ctx_of_layouts (hctx n).symm hc
    exact ⟨d, hd, (Context.layout_eq_iff.1 he).2.1.trans hcf, (Context.spans_of_layout he k).2 hck⟩
  · obtain ⟨d, hd, he⟩ := ctx_of_layouts (hctx n) hc
    have hn := (Context.spans_of_layout he k).2 hn
    obtain ⟨e1, e2, -⟩ := Context.layout_eq_iff.1 he
    rw [← e1, ← e2]
    exact (hk _ k _ (hp n d hd).1 (slots_le hd hn) rfl).2 (h2 n d k hd hn)
  · obtain ⟨hm, n, c, hc, hci, hce, hck⟩ := h2' f k g m hf hn ((hk f k _ hf hn rfl).1 ho)
    obtain ⟨d, hd, he⟩ := ctx_of_layouts (hctx n).symm hc
    obtain ⟨e1, e2, -⟩ := Context.layout_eq_iff.1 he
    exact ⟨hm, n, d, hd, e1.trans hci, e2.trans hce, (Context.spans_of_layout he k).2 hck⟩

namespace SameLayout

variable {s t : State} (h : SameLayout s t)
include h

theorem block (f b : Nat) : (t.block f b).present = (s.block f b).present ∧ (t.block f b).page = (s.block f b).page :=
  h.blocks _

theorem slotKind (f n : Nat) : Machine.slotKind t f n = Machine.slotKind s f n := by
  simp only [slotKind_eq, slotKey, h.block, h.kinds]

theorem law10 (hl : Law10 s) : Law10 t := by
  intro f b g c hf hb hg hc
  rw [(h.block f b).1, (h.block f b).2, (h.block g c).1, (h.block g c).2]
  exact hl f b g c hf hb hg hc

theorem laws (hl : LayoutLaws s) : LayoutLaws t := by
  refine hl.transfer h.layouts (fun n c hc => ?_) (fun f n k _ _ _ => by rw [h.slotKind]) (h.law10 hl.2.2.2)
  obtain ⟨-, -, -, -, -, hi, he⟩ := hl.1 n c hc
  exact ⟨(h.faces _).trans hi, (h.faces _).trans he⟩

end SameLayout

/-- The states agree in what Laws 1, 2, 9 and 10 read. -/
structure SameSpectrum (s t : State) : Prop where
  blocks : ∀ k, (t.dir.blocks.get k).present = (s.dir.blocks.get k).present ∧
    (t.dir.blocks.get k).page = (s.dir.blocks.get k).page
  faces  : ∀ f, (t.face f).present = (s.face f).present ∧ (t.face f).live = (s.face f).live
  kinds  : ∀ k, (t.dir.entries.get k).kind = (s.dir.entries.get k).kind
  paths  : ∀ h, (t.ctx h).map Context.path = (s.ctx h).map Context.path
  table  : s.table.recs.wf → t.table.recs.wf ∧ ∀ f, countedSlots t f = countedSlots s f

theorem map_layout_of_path {x y : Option Context} (h : x.map Context.path = y.map Context.path) :
    x.map Context.layout = y.map Context.layout := by
  cases x <;> cases y <;> simp_all [Context.layout_eq_iff, Context.path_eq_iff]

theorem SameSpectrum.layout {s t : State} (h : SameSpectrum s t) : SameLayout s t :=
  ⟨h.blocks, fun f => (h.faces f).1, h.kinds, fun n => map_layout_of_path (h.paths n)⟩

theorem SameSpectrum.of_eq {s t : State} (hd : t.dir = s.dir) (hr : t.table.recs = s.table.recs) :
    SameSpectrum s t := by
  have hc (f : Nat) : countedSlots t f = countedSlots s f := by rw [countedSlots_eq, hr]; rfl
  exact ⟨fun k => by rw [hd]; exact ⟨rfl, rfl⟩, fun f => by simp [State.face, hd], fun k => by rw [hd],
    fun h => by simp [State.ctx, hr], fun hw => ⟨hr ▸ hw, hc⟩⟩

theorem SameSpectrum.refl (s : State) : SameSpectrum s s := .of_eq rfl rfl

theorem SameSpectrum.trans {s t u : State} (h : SameSpectrum s t) (k : SameSpectrum t u) : SameSpectrum s u where
  blocks j := ⟨(k.blocks j).1.trans (h.blocks j).1, (k.blocks j).2.trans (h.blocks j).2⟩
  faces f := ⟨(k.faces f).1.trans (h.faces f).1, (k.faces f).2.trans (h.faces f).2⟩
  kinds j := (k.kinds j).trans (h.kinds j)
  paths j := (k.paths j).trans (h.paths j)
  table hw := ⟨(k.table (h.table hw).1).1, fun f => ((k.table (h.table hw).1).2 f).trans ((h.table hw).2 f)⟩

theorem SameSpectrum.foldl {α : Type} {g : State → α → State} (hg : ∀ s a, SameSpectrum s (g s a)) (l : List α)
    (s : State) : SameSpectrum s (l.foldl g s) :=
  foldl_keeps (P := SameSpectrum s) (fun _ _ _ ht => ht.trans (hg _ _)) (SameSpectrum.refl s)

/-- Law 9 reads the kinds of entries under present blocks, the live slot counts and the counted slots. -/
theorem SameSpectrum.law9 {s t : State} (h : SameSpectrum s t) (hw : s.table.recs.wf) (h9 : Law9 s) : Law9 t := by
  intro f hf
  rw [(h.faces f).2, (h.table hw).2, h9 f hf]
  simp only [foreignSlots, h.layout.slotKind]

theorem SameSpectrum.laws {s t : State} (h : SameSpectrum s t) (hl : SpectrumLaws s) : SpectrumLaws t := by
  obtain ⟨hw, hll, h9⟩ := (spectrumLaws_iff s).1 hl
  exact (spectrumLaws_iff t).2 ⟨(h.table hw).1, h.layout.laws hll, h.law9 hw h9⟩

/-- A write of a record that keeps the path of the one that stood there. -/
theorem SameSpectrum.setCtx {s : State} {h : Nat} {c : Option Context}
    (hc : c.map Context.path = (s.ctx h).map Context.path) : SameSpectrum s (s.setCtx h c) where
  blocks _ := ⟨rfl, rfl⟩
  faces _ := ⟨rfl, rfl⟩
  kinds _ := rfl
  paths j := by
    rw [State.setCtx_ctx]
    split_ifs with hj
    · rw [hc, hj]
    · rfl
  table hw := by
    refine ⟨Tab.wf_set hw _ _, fun f => ?_⟩
    have := countedSlots_setCtx hw f h c
    rw [liveSlots_of_path hc] at this
    omega

/-- A change of a record that keeps its path. -/
theorem SameSpectrum.modCtx {s : State} {h : Nat} {g : Context → Context} (hg : ∀ c, (g c).path = c.path) :
    SameSpectrum s (s.modCtx h g) :=
  .setCtx (by rw [Option.map_map, show Context.path ∘ g = Context.path from funext hg])

theorem SameSpectrum.modFace {s : State} {f : Nat} {g : FaceDesc → FaceDesc}
    (hg : (g (s.face f)).present = (s.face f).present ∧ (g (s.face f)).live = (s.face f).live) :
    SameSpectrum s (s.modFace f g) where
  blocks _ := ⟨rfl, rfl⟩
  faces j := by
    rw [State.modFace_face]
    split_ifs with hj
    · rw [hj]; exact hg
    · exact ⟨rfl, rfl⟩
  kinds _ := rfl
  paths _ := rfl
  table hw := ⟨hw, fun _ => rfl⟩

/-- A change of the Directory's flags, guards and masks alone. -/
theorem SameSpectrum.of_dirOnly {s t : State} (h : DirOnly s t)
    (hf : ∀ f, (t.face f).present = (s.face f).present ∧ (t.face f).live = (s.face f).live)
    (hb : ∀ k, (t.dir.blocks.get k).present = (s.dir.blocks.get k).present ∧
      (t.dir.blocks.get k).page = (s.dir.blocks.get k).page)
    (he : ∀ k, (t.dir.entries.get k).kind = (s.dir.entries.get k).kind) : SameSpectrum s t where
  blocks := hb
  faces := hf
  kinds := he
  paths j := by rw [h.ctx]
  table hw := ⟨h.table ▸ hw, fun f => by rw [countedSlots_eq, h.table]; rfl⟩

/-! ## The invariant of a step -/

/-- Law 10 and, where `full` says so, the laws that hold with it over a Context Table with sound paths. -/
def Inv (full : Prop) (s : State) : Prop := Law10 s ∧ (full → SpectrumLaws s)

/-- Where `full` says so, the record at `h` has the path of `c`. -/
def Held (full : Prop) (h : Nat) (c : Context) (s : State) : Prop :=
  full → (s.ctx h).map Context.path = some c.path

section
variable {full : Prop} {s t : State}

theorem Inv.same (hi : Inv full s) (h : SameSpectrum s t) : Inv full t :=
  ⟨h.layout.law10 hi.1, fun hf => h.laws (hi.2 hf)⟩

theorem Held.same {n : Nat} {c : Context} (hc : Held full n c s) (h : SameSpectrum s t) : Held full n c t :=
  fun hf => (h.paths n).trans (hc hf)

theorem Held.of_some {n : Nat} {c : Context} (hc : s.ctx n = some c) : Held full n c s := fun _ => by rw [hc]; rfl

/-- R22: a record that a request or timer names by handle and number. -/
theorem Held.of_current {n i : Nat} {c : Context} (h : current s n i = some c) : Held full n c s :=
  .of_some (Option.filter_eq_some_iff.1 h).1

end

end Sys2Proof.Machine
end

section
/-! SUPPORT. The operations that change what Laws 1, 2, 9 and 10 read, and that they keep these laws: a change of
state, a freeing, a reservation. -/
namespace Sys2Proof.Machine

/-! ## Live slot counts (R12) -/

section
variable (f n : Nat) (a b : Bool) (s : State)

@[simp] theorem liveChange_blocks : (liveChange f n a b s).dir.blocks = s.dir.blocks := by
  unfold liveChange; split_ifs <;> rfl

@[simp] theorem liveChange_entries : (liveChange f n a b s).dir.entries = s.dir.entries := by
  unfold liveChange; split_ifs <;> rfl

@[simp] theorem liveChange_table : (liveChange f n a b s).table = s.table := by
  unfold liveChange; split_ifs <;> rfl

@[simp] theorem liveChange_ctx (j : Nat) : (liveChange f n a b s).ctx j = s.ctx j := by
  unfold liveChange; split_ifs <;> rfl

/-- R12: a live change raises or lowers the count of its own face alone. -/
theorem liveChange_face (j : Nat) :
    (liveChange f n a b s).face j = { s.face j with
      live := (s.face j).live + (if j = f ∧ a = false ∧ b = true then n else 0) -
        (if j = f ∧ a = true ∧ b = false then n else 0) } := by
  by_cases hj : j = f <;> cases a <;> cases b <;> simp [liveChange, raiseLive, lowerLive, hj]

@[simp] theorem liveChange_slotKind (j k : Nat) : slotKind (liveChange f n a b s) j k = slotKind s j k := by
  simp only [slotKind, entryKey, liveChange_blocks, liveChange_entries]

theorem setCtx_liveChange (h : Nat) (c : Option Context) :
    (liveChange f n a b s).setCtx h c = liveChange f n a b (s.setCtx h c) := by
  unfold liveChange; split_ifs <;> rfl
end

/-- A record counted as live is part of its face's count. -/
theorem liveSlots_le {s : State} (hw : s.table.recs.wf) (f h : Nat) : liveSlots f (s.ctx h) ≤ countedSlots s f := by
  have := countedSlots_setCtx hw f h none
  simp only [liveSlots] at this ⊢
  omega

/-- Law 9 (R12): a record gives way to another, and the live slot count of its egress face follows. -/
theorem law9_liveChange {s : State} {h : Nat} {x : Context} {y : Option Context} {now : Bool} (hw : s.table.recs.wf)
    (h9 : Law9 s) (hx : s.ctx h = some x)
    (hy : ∀ f, liveSlots f y = if x.egress = f ∧ now = true then x.count else 0) :
    Law9 (liveChange x.egress x.count x.st.counted now (s.setCtx h y)) := by
  intro f hf
  have hle := liveSlots_le hw f h
  have hset := countedSlots_setCtx hw f h y
  have hforeign (u : State) (hu : ∀ n, slotKind u f n = slotKind s f n) : foreignSlots u f = foreignSlots s f := by
    simp only [foreignSlots, hu]
  rw [hy f, hx] at hset
  rw [hx] at hle
  rw [liveChange_face, hforeign _ fun n => by rw [liveChange_slotKind]; rfl, countedSlots_eq, liveChange_table,
    ← countedSlots_eq]
  simp only [State.setCtx_face, h9 f hf]
  simp only [liveSlots] at hset hle
  by_cases hfx : f = x.egress
  · subst hfx
    cases hnow : now <;> cases hst : x.st.counted <;> simp_all <;> omega
  · have hfx' : ¬x.egress = f := Ne.symm hfx
    simp_all

/-! ## A change of state (R35) -/

theorem changeState_layout (h : Nat) (c : Context) (st : CtxState) (s : State) :
    SameLayout s (changeState h c st s) where
  blocks k := by simp [changeState]
  faces f := by simp [changeState, liveChange_face]
  kinds k := by simp [changeState]
  layouts j := by
    simp only [changeState, liveChange_ctx, State.modCtx_ctx]
    split_ifs with hj
    · subst hj; cases s.ctx j <;> rfl
    · rfl

section
variable {full : Prop} {s : State} {h : Nat} {c : Context}

/-- R35: a change of state keeps the laws: the live slot count moves with the record. -/
theorem changeState_inv {st : CtxState} (hi : Inv full s) (hc : Held full h c s) : Inv full (changeState h c st s) := by
  refine ⟨(changeState_layout h c st s).law10 hi.1, fun hf => ?_⟩
  obtain ⟨hw, hl, h9⟩ := (spectrumLaws_iff s).1 (hi.2 hf)
  obtain ⟨x, hx, hp⟩ := Option.map_eq_some_iff.1 (hc hf)
  obtain ⟨-, e1, -, e2, e3⟩ := Context.path_eq_iff.1 hp
  refine (spectrumLaws_iff _).2 ⟨?_, (changeState_layout h c st s).laws hl, ?_⟩
  · rw [changeState, liveChange_table]; exact Tab.wf_set hw _ _
  · rw [changeState, State.modCtx_of_some s hx, ← e1, ← e2, ← e3]
    exact law9_liveChange hw h9 hx fun _ => rfl

/-- The record after a change of state. -/
theorem changeState_held {st : CtxState} (hc : Held full h c s) :
    Held full h { c with st := st } (changeState h c st s) := by
  intro hf
  obtain ⟨x, hx, hp⟩ := Option.map_eq_some_iff.1 (hc hf)
  simp only [changeState, liveChange_ctx, State.modCtx_ctx, if_true, hx, Option.map_some, Option.some.injEq]
  obtain ⟨e1, e2, e3, e4, -⟩ := Context.path_eq_iff.1 hp
  exact Context.path_eq_iff.2 ⟨e1, e2, e3, e4, rfl⟩

end

/-! ## A freeing (R10, R25) -/

theorem slotKind_of_some {s : State} {f n : Nat} {k : EntryKind} (h : slotKind s f n = some k) :
    (s.block f (n / 16)).present = true ∧ (s.dir.entries.get (slotKey s f n)).kind = k := by
  rw [slotKind_eq] at h
  split_ifs at h with hb
  exact ⟨hb, Option.some.inj h⟩

/-- Laws 1, 2 and 10 find both blocks of every slot of a record's span present. -/
theorem LayoutLaws.spanPresent {s : State} (hl : LayoutLaws s) {h : Nat} {c : Context} (hc : s.ctx h = some c) :
    SpanPresent c.ingress c.egress c.first c.count s := by
  obtain ⟨hp, ⟨h1, -⟩, ⟨h2, -⟩, h10⟩ := hl
  obtain ⟨hi, he, hne, -, hfit, -, -⟩ := hp h c hc
  refine ⟨h10, hi, he, hne, hfit, fun n hn => ?_⟩
  have hn := mem_spanSlots.1 hn
  exact ⟨(slotKind_of_some (h2 h c n hc hn)).1, (slotKind_of_some (h1 h c n hc hn)).1⟩

section
variable {ing eg first count : Nat} {s : State} (hs : SpanPresent ing eg first count s)
include hs

/-- A slot of one of the node's faces is a slot of the span on that face, or its key is none of the span's. -/
theorem SpanPresent.key_other {f n : Nat} (hf : f ≤ 11) (hn : n ≤ 383) (hb : (s.block f (n / 16)).present = true)
    (h : ¬((f = eg ∨ f = ing) ∧ n ∈ spanSlots first count)) :
    ∀ m ∈ spanSlots first count, slotKey s f n ≠ slotKey s eg m ∧ slotKey s f n ≠ slotKey s ing m := by
  intro m hm
  have hm' := (mem_spanSlots.1 hm).2
  have := hs.fits
  constructor
  · intro e
    obtain ⟨rfl, rfl⟩ := slotKey_inj hs.apart hf hs.eg_le hn (by omega) hb (hs.present m hm).2 e
    exact h ⟨Or.inl rfl, hm⟩
  · intro e
    obtain ⟨rfl, rfl⟩ := slotKey_inj hs.apart hf hs.ing_le hn (by omega) hb (hs.present m hm).1 e
    exact h ⟨Or.inr rfl, hm⟩

/-- R10: what governs a slot after the freeing of a span of two present faces. -/
theorem SpanPresent.slotKind_freeSpan (handle : Nat) (hi : (s.face ing).present = true)
    (he : (s.face eg).present = true)
    {f n : Nat} (hf : f ≤ 11) (hn : n ≤ 383) :
    slotKind (freeSpan handle ing eg first count s) f n =
      if n ∈ spanSlots first count ∧ (f = eg ∧ slotKind s f n = some (.owned handle) ∨
          f = ing ∧ slotKind s f n = some (.indirect eg n)) then some .free
      else slotKind s f n := by
  have ho := freeSpan_entriesOnly handle ing eg first count s
  simp only [slotKind_eq, ho.block, ho.slotKey]
  by_cases hb : (s.block f (n / 16)).present = true
  · simp only [hb, if_true, Option.some.injEq]
    by_cases hsp : (f = eg ∨ f = ing) ∧ n ∈ spanSlots first count
    · obtain ⟨rfl | rfl, hm⟩ := hsp
      · rw [hs.freed_eg handle he hm]
        simp only [hm, hs.ne.symm, true_and, false_and, or_false]
        split_ifs <;> rfl
      · rw [hs.freed_ing handle hi hm]
        simp only [hm, hs.ne, true_and, false_and, false_or]
        split_ifs <;> rfl
    · rw [freeSpan_other handle ing eg first count (hs.key_other hf hn hb hsp), if_neg]
      rintro ⟨hm, ⟨rfl, -⟩ | ⟨rfl, -⟩⟩
      exacts [hsp ⟨Or.inl rfl, hm⟩, hsp ⟨Or.inr rfl, hm⟩]
  · simp [hb]

/-- R9: what governs a slot after the reservation of a span. -/
theorem SpanPresent.slotKind_reserveSpan (handle : Nat) {f n : Nat} (hf : f ≤ 11) (hn : n ≤ 383) :
    slotKind (reserveSpan handle ing eg first count s) f n =
      if n ∈ spanSlots first count ∧ f = eg then some (.owned handle)
      else if n ∈ spanSlots first count ∧ f = ing then some (.indirect eg n)
      else slotKind s f n := by
  have ho := reserveSpan_entriesOnly handle ing eg first count s
  simp only [slotKind_eq, ho.block, ho.slotKey]
  by_cases hsp : (f = eg ∨ f = ing) ∧ n ∈ spanSlots first count
  · obtain ⟨rfl | rfl, hm⟩ := hsp
    · simp [hs.reserved_eg handle hm, (hs.present n hm).2, hm]
    · simp [hs.reserved_ing handle hm, (hs.present n hm).1, hm, hs.ne]
  · have he : ¬(n ∈ spanSlots first count ∧ f = eg) := fun h => hsp ⟨Or.inl h.2, h.1⟩
    have hi : ¬(n ∈ spanSlots first count ∧ f = ing) := fun h => hsp ⟨Or.inr h.2, h.1⟩
    simp only [he, hi, if_false]
    split_ifs with hb
    · rw [hs.reserved_other handle (hs.key_other hf hn hb hsp)]
    · rfl
end

theorem Context.mem_spanSlots (c : Context) (n : Nat) : n ∈ spanSlots c.first c.count ↔ c.spans n :=
  Machine.mem_spanSlots

/-- A state with another state's Directory but for kinds of entries and live slot counts. -/
structure SameDescriptors (s t : State) : Prop where
  blocks : t.dir.blocks = s.dir.blocks
  faces  : ∀ f, (t.face f).present = (s.face f).present

theorem SameDescriptors.law10 {s t : State} (h : SameDescriptors s t) (hl : Law10 s) : Law10 t := by
  intro f b g c
  simp only [State.block, h.blocks]
  exact hl f b g c

/-- Laws 1, 2 and 10 after a record has gone and just its slots have become FREE. -/
theorem LayoutLaws.freed {s t : State} (hl : LayoutLaws s) {h : Nat} {c : Context} (hc : s.ctx h = some c)
    (hd : SameDescriptors s t) (hctx : ∀ j, t.ctx j = if j = h then none else s.ctx j)
    (hk : ∀ f n, f ≤ 11 → n ≤ 383 → slotKind t f n =
      if n ∈ spanSlots c.first c.count ∧ (f = c.egress ∧ slotKind s f n = some (.owned h) ∨
        f = c.ingress ∧ slotKind s f n = some (.indirect c.egress n)) then some .free
      else slotKind s f n) : LayoutLaws t := by
  obtain ⟨hp, ⟨h1, h1'⟩, ⟨h2, h2'⟩, h10⟩ := hl
  have old {j : Nat} {d : Context} (hj : t.ctx j = some d) : j ≠ h ∧ s.ctx j = some d := by
    rw [hctx] at hj
    split_ifs at hj with e
    exact ⟨e, hj⟩
  have slots_le {j : Nat} {d : Context} (hj : s.ctx j = some d) {n : Nat} (hn : d.spans n) : n ≤ 383 := by
    obtain ⟨-, -, -, -, hfit, -⟩ := hp j d hj
    unfold Context.spans at hn
    omega
  have kept {f n : Nat} {k : EntryKind} (hf : f ≤ 11) (hn : n ≤ 383) (hne : k ≠ .free) (e : slotKind t f n = some k) :
      slotKind s f n = some k := by
    rw [hk f n hf hn] at e
    split_ifs at e with hfree
    · exact absurd (Option.some.inj e).symm hne
    · exact e
  refine ⟨fun j d hj => ?_, ⟨fun j d n hj hn => ?_, fun f n k hf hn ho => ?_⟩,
    ⟨fun j d n hj hn => ?_, fun f n g m hf hn ho => ?_⟩, hd.law10 h10⟩
  · rw [hd.faces, hd.faces]
    exact hp j d (old hj).2
  · obtain ⟨hne, hj⟩ := old hj
    have ho := h1 j d n hj hn
    rw [hk _ n (hp j d hj).2.1 (slots_le hj hn), if_neg, ho]
    rintro ⟨-, ⟨-, e⟩ | ⟨-, e⟩⟩ <;> rw [ho] at e <;>
      simp only [Option.some.injEq, EntryKind.owned.injEq, reduceCtorEq] at e
    exact hne e
  · have ho' := kept hf hn (by simp) ho
    obtain ⟨d, hdk, hdf, hdn⟩ := h1' f n k hf hn ho'
    by_cases hkh : k = h
    · subst hkh
      obtain rfl : c = d := Option.some.inj (hc.symm.trans hdk)
      rw [hk f n hf hn, if_pos ⟨(c.mem_spanSlots n).2 hdn, Or.inl ⟨hdf.symm, ho'⟩⟩] at ho
      simp at ho
    · exact ⟨d, by rw [hctx, if_neg hkh, hdk], hdf, hdn⟩
  · obtain ⟨hne, hj⟩ := old hj
    have ho := h2 j d n hj hn
    rw [hk _ n (hp j d hj).1 (slots_le hj hn), if_neg, ho]
    rintro ⟨hcn, ⟨-, e⟩ | ⟨-, e⟩⟩ <;> rw [ho] at e <;>
      simp only [Option.some.injEq, EntryKind.indirect.injEq, reduceCtorEq] at e
    have := h1 h c n hc ((c.mem_spanSlots n).1 hcn)
    rw [← e.1, h1 j d n hj hn] at this
    exact hne (by simpa using this)
  · have ho' := kept hf hn (by simp) ho
    obtain ⟨hm, k, d, hdk, hdi, hde, hdn⟩ := h2' f n g m hf hn ho'
    refine ⟨hm, k, d, ?_, hdi, hde, hdn⟩
    rw [hctx, if_neg, hdk]
    rintro rfl
    obtain rfl : c = d := Option.some.inj (hc.symm.trans hdk)
    rw [hk f n hf hn, if_pos ⟨(c.mem_spanSlots n).2 hdn, Or.inr ⟨hdi.symm, by rw [ho', hde, hm]⟩⟩] at ho
    simp at ho

/-- Law 9 after entries that are not FOREIGN have become other kinds that are not. -/
theorem law9_of_foreign {s t : State} (h9 : Law9 s) (hlive : ∀ f, f ≤ 11 → (t.face f).live = (s.face f).live)
    (hr : t.table.recs = s.table.recs)
    (hk : ∀ f n, f ≤ 11 → n ≤ 383 → (slotKind t f n = some .foreign ↔ slotKind s f n = some .foreign)) : Law9 t := by
  intro f hf
  have hfor : foreignSlots t f = foreignSlots s f := by
    unfold foreignSlots
    refine congrArg List.length (List.filter_congr fun n hn => ?_)
    have := List.mem_range.1 hn
    simp only [hk f n hf (by omega)]
  rw [hlive f hf, h9 f hf, hfor, countedSlots_eq, countedSlots_eq, hr]

section
variable {full : Prop} {s : State} {h : Nat} {c : Context}

/-- R10, R25: a record and its span are freed, and its face's live slot count follows. -/
theorem forgotten_inv (hi : Inv full s) (hc : Held full h c s) :
    Inv full ((liveChange c.egress c.count c.st.counted false
      (freeSpan h c.ingress c.egress c.first c.count s)).setCtx h none) := by
  have ho := freeSpan_entriesOnly h c.ingress c.egress c.first c.count s
  have hd : SameDescriptors s ((liveChange c.egress c.count c.st.counted false
      (freeSpan h c.ingress c.egress c.first c.count s)).setCtx h none) :=
    ⟨by simp [ho.blocks], fun f => by simp [liveChange_face, ho.face]⟩
  refine ⟨hd.law10 hi.1, fun hf => ?_⟩
  obtain ⟨hw, hl, h9⟩ := (spectrumLaws_iff s).1 (hi.2 hf)
  obtain ⟨x, hx, hp⟩ := Option.map_eq_some_iff.1 (hc hf)
  obtain ⟨e1, e2, e3, e4, e5⟩ := Context.path_eq_iff.1 hp
  rw [← e1, ← e2, ← e3, ← e4] at hd ho ⊢
  rw [← e5] at hd ⊢
  obtain ⟨-, -, -, -, -, hing, heg⟩ := hl.1 h x hx
  have hk {f n : Nat} (hf : f ≤ 11) (hn : n ≤ 383) := (hl.spanPresent hx).slotKind_freeSpan h hing heg hf hn
  refine (spectrumLaws_iff _).2 ⟨?_, hl.freed hx hd (fun j => ?_) fun f n hf hn => ?_, ?_⟩
  · simpa [State.setCtx, ho.table] using Tab.wf_set hw h none
  · simp [ho.ctx]
  · refine Eq.trans ?_ ((hk hf hn))
    exact liveChange_slotKind ..
  · rw [setCtx_liveChange]
    refine law9_liveChange (by rw [ho.table]; exact hw)
      (law9_of_foreign h9 (fun f _ => by rw [ho.face]) (by rw [ho.table])
      fun f n hf hn => ?_) (by rw [ho.ctx, hx]) fun f => by simp [liveSlots]
    rw [hk hf hn]
    split_ifs with e
    · rcases e with ⟨-, ⟨-, e⟩ | ⟨-, e⟩⟩ <;> simp [e]
    · rfl
end

/-! ## A reservation (R9) -/

/-- Laws 1, 2 and 10 after a new record has taken a span whose slots were FREE. -/
theorem LayoutLaws.reserved {s t : State} (hl : LayoutLaws s) {h : Nat} {c : Context} (hc : s.ctx h = none)
    (hd : SameDescriptors s t) (hctx : ∀ j, t.ctx j = if j = h then some c else s.ctx j)
    (hs : SpanPresent c.ingress c.egress c.first c.count s) (hcount : 1 ≤ c.count)
    (hfaces : (s.face c.ingress).present = true ∧ (s.face c.egress).present = true)
    (hfree : ∀ n, c.spans n → slotKind s c.egress n = some .free ∧ slotKind s c.ingress n = some .free)
    (hk : ∀ f n, f ≤ 11 → n ≤ 383 → slotKind t f n =
      if n ∈ spanSlots c.first c.count ∧ f = c.egress then some (.owned h)
      else if n ∈ spanSlots c.first c.count ∧ f = c.ingress then some (.indirect c.egress n)
      else slotKind s f n) : LayoutLaws t := by
  obtain ⟨hp, ⟨h1, h1'⟩, ⟨h2, h2'⟩, h10⟩ := hl
  have slots_le {j : Nat} {d : Context} (hj : t.ctx j = some d) {n : Nat} (hn : d.spans n) : n ≤ 383 := by
    rw [hctx] at hj
    unfold Context.spans at hn
    split_ifs at hj
    · obtain rfl := Option.some.inj hj
      have := hs.fits
      omega
    · obtain ⟨-, -, -, -, hfit, -⟩ := hp j d hj
      omega
  have kept {f n : Nat} {k : EntryKind} (hf : f ≤ 11) (hn : n ≤ 383) (hne : k ≠ .free) (e : slotKind s f n = some k) :
      slotKind t f n = some k := by
    rw [hk f n hf hn, if_neg, if_neg, e]
    · rintro ⟨hcn, rfl⟩
      exact hne (Option.some.inj (e.symm.trans (hfree n ((c.mem_spanSlots n).1 hcn)).2))
    · rintro ⟨hcn, rfl⟩
      exact hne (Option.some.inj (e.symm.trans (hfree n ((c.mem_spanSlots n).1 hcn)).1))
  have new : t.ctx h = some c := by rw [hctx, if_pos rfl]
  have old {j : Nat} {d : Context} (hj : s.ctx j = some d) : t.ctx j = some d := by
    rw [hctx, if_neg, hj]
    rintro rfl
    rw [hc] at hj
    cases hj
  refine ⟨fun j d hj => ?_, ⟨fun j d n hj hn => ?_, fun f n k hf hn ho => ?_⟩,
    ⟨fun j d n hj hn => ?_, fun f n g m hf hn ho => ?_⟩, hd.law10 h10⟩
  · rw [hd.faces, hd.faces]
    rw [hctx] at hj
    split_ifs at hj
    · obtain rfl := Option.some.inj hj
      exact ⟨hs.ing_le, hs.eg_le, hs.ne, hcount, hs.fits, hfaces⟩
    · exact hp j d hj
  · have hn' := slots_le hj hn
    rw [hctx] at hj
    split_ifs at hj with e
    · obtain rfl := Option.some.inj hj
      rw [hk _ n hs.eg_le hn', if_pos ⟨(c.mem_spanSlots n).2 hn, rfl⟩, e]
    · exact kept (hp j d hj).2.1 hn' (by simp) (h1 j d n hj hn)
  · rw [hk f n hf hn] at ho
    split_ifs at ho with e e'
    · obtain rfl : h = k := by simpa using ho
      exact ⟨c, new, e.2.symm, (c.mem_spanSlots n).1 e.1⟩
    · simp at ho
    · obtain ⟨d, hdk, hdf, hdn⟩ := h1' f n k hf hn ho
      exact ⟨d, old hdk, hdf, hdn⟩
  · have hn' := slots_le hj hn
    rw [hctx] at hj
    split_ifs at hj with e
    · obtain rfl := Option.some.inj hj
      rw [hk _ n hs.ing_le hn', if_neg fun e => hs.ne e.2, if_pos ⟨(c.mem_spanSlots n).2 hn, rfl⟩]
    · exact kept (hp j d hj).1 hn' (by simp) (h2 j d n hj hn)
  · rw [hk f n hf hn] at ho
    split_ifs at ho with e e'
    · simp at ho
    · obtain ⟨hg, hm⟩ : c.egress = g ∧ n = m := by simpa using ho
      exact ⟨hm.symm, h, c, new, e'.2.symm, hg, (c.mem_spanSlots n).1 e'.1⟩
    · obtain ⟨hm, k, d, hdk, hdi, hde, hdn⟩ := h2' f n g m hf hn ho
      exact ⟨hm, k, d, old hdk, hdi, hde, hdn⟩

/-- What a span needs for a reservation: two of the node's faces that are present, and every slot FREE under a present
block on both. -/
structure SpanFree (ing eg first count : Nat) (s : State) : Prop where
  ing_le  : ing ≤ 11
  eg_le   : eg ≤ 11
  ne      : ing ≠ eg
  nonempty : 1 ≤ count
  fits    : first + count ≤ 384
  present : (s.face ing).present = true ∧ (s.face eg).present = true
  free    : ∀ n ∈ spanSlots first count, slotKind s eg n = some .free ∧ slotKind s ing n = some .free

theorem SpanFree.spanPresent {ing eg first count : Nat} {s : State} (h : SpanFree ing eg first count s) (hl : Law10 s) :
    SpanPresent ing eg first count s :=
  ⟨hl, h.ing_le, h.eg_le, h.ne, h.fits, fun n hn =>
    ⟨(slotKind_of_some (h.free n hn).2).1, (slotKind_of_some (h.free n hn).1).1⟩⟩

@[simp] theorem allocate_dir (h : Nat) (c : Context) (s : State) : (allocate h c s).dir = s.dir := rfl

theorem allocate_ctx (h : Nat) (c : Context) (s : State) (j : Nat) :
    (allocate h c s).ctx j = if j = h then some c else s.ctx j := State.setCtx_ctx s h (some c) j

theorem allocate_recs (h : Nat) (c : Context) (s : State) :
    (allocate h c s).table.recs = (s.setCtx h (some c)).table.recs := rfl

section
variable {full : Prop} {s : State} {h : Nat} {c : Context}

/-- R9, R12, R42: a FREE record is allocated, its span reserved, and its face's live slot count follows. -/
theorem reserved_inv (hi : Inv full s)
    (hfree : full → s.ctx h = none ∧ SpanFree c.ingress c.egress c.first c.count s) :
    Inv full (liveChange c.egress c.count false c.st.counted
      (reserveSpan h c.ingress c.egress c.first c.count (allocate h c s))) := by
  have ho := reserveSpan_entriesOnly h c.ingress c.egress c.first c.count (allocate h c s)
  have hd : SameDescriptors s (liveChange c.egress c.count false c.st.counted
      (reserveSpan h c.ingress c.egress c.first c.count (allocate h c s))) :=
    ⟨by simp [ho.blocks], fun f => by rw [liveChange_face, ho.face]; rfl⟩
  refine ⟨hd.law10 hi.1, fun hf => ?_⟩
  obtain ⟨hw, hl, h9⟩ := (spectrumLaws_iff s).1 (hi.2 hf)
  obtain ⟨hn, hsf⟩ := hfree hf
  have hsp := hsf.spanPresent hi.1
  have hk {f n : Nat} (hf : f ≤ 11) (hn : n ≤ 383) :=
    SpanPresent.slotKind_reserveSpan (s := allocate h c s)
      ⟨hsp.apart, hsp.ing_le, hsp.eg_le, hsp.ne, hsp.fits, hsp.present⟩
      h hf hn
  have ha (f n : Nat) : slotKind (allocate h c s) f n = slotKind s f n := rfl
  refine (spectrumLaws_iff _).2 ⟨?_, hl.reserved hn hd (fun j => ?_) hsp hsf.nonempty hsf.present
    (fun n hn => hsf.free n (mem_spanSlots.2 hn)) fun f n hf hn => ?_, fun f hf => ?_⟩
  · rw [liveChange_table, ho.table]
    exact Tab.wf_set hw h (some c)
  · rw [liveChange_ctx, ho.ctx, allocate_ctx]
  · rw [liveChange_slotKind, hk hf hn]
    simp only [ha]
  · have hfor : foreignSlots (liveChange c.egress c.count false c.st.counted
        (reserveSpan h c.ingress c.egress c.first c.count (allocate h c s))) f = foreignSlots s f := by
      refine congrArg List.length (List.filter_congr fun n hn => ?_)
      have hn := List.mem_range.1 hn
      rw [liveChange_slotKind, hk hf (by omega), ha]
      split_ifs with e e'
      · simp [e.2, (hsf.free n e.1).1]
      · simp [e'.2, (hsf.free n e'.1).2]
      · rfl
    have hset := countedSlots_setCtx hw f h (some c)
    rw [hn] at hset
    rw [liveChange_face, hfor, countedSlots_eq, liveChange_table, ho.table, allocate_recs, ← countedSlots_eq, ho.face]
    have hlive : ((allocate h c s).face f).live = (s.face f).live := rfl
    simp only [hlive, h9 f hf]
    simp only [liveSlots] at hset
    by_cases hfx : f = c.egress
    · subst hfx
      cases hst : c.st.counted <;> simp [hst] at hset ⊢ <;> omega
    · have hfx' : ¬c.egress = f := Ne.symm hfx
      simp_all
end

end Sys2Proof.Machine
end

section
/-! SUPPORT. The operations that leave all that Laws 1, 2, 9 and 10 read as it was, in the order of the
model's files. -/
namespace Sys2Proof.Machine

theorem SameSpectrum.ite {p : Prop} [Decidable p] {s t u : State} (ht : SameSpectrum s t) (hu : SameSpectrum s u) :
    SameSpectrum s (if p then t else u) := by split_ifs <;> assumption

/-- Of two operations in a row, named from the last one back. -/
theorem SameSpectrum.after {s t u : State} (k : SameSpectrum t u) (h : SameSpectrum s t) : SameSpectrum s u := h.trans k

theorem modRamp_same (f : Nat) (g : RampFace → RampFace) (s : State) : SameSpectrum s (s.modRamp f g) := .of_eq rfl rfl

theorem modAudit_same (f : Nat) (g : AuditFace → AuditFace) (s : State) : SameSpectrum s (s.modAudit f g) :=
  .of_eq rfl rfl

theorem modPort_same (p : Nat) (g : Port → Port) (s : State) : SameSpectrum s (s.modPort p g) := .of_eq rfl rfl

theorem modElem_same (e : Nat) (g : Element → Element) (s : State) : SameSpectrum s (s.modElem e g) := .of_eq rfl rfl

theorem push_same (w : List Work) (s : State) : SameSpectrum s (s.push w) := .of_eq rfl rfl

/-! ## Sending -/

theorem handFrame_same (p : Nat) (f : Frame) (s : State) : SameSpectrum s (handFrame p f s) := .of_eq rfl rfl

theorem sendOn_same (p : Option Nat) (k : FrameKind) (b : List Byte) (s : State) : SameSpectrum s (sendOn p k b s) := by
  rw [sendOn_frame]; exact .of_eq rfl rfl

theorem relay_same (p : Option Nat) (k : FrameKind) (h : Hdr) (b : List Byte) (s : State) :
    SameSpectrum s (relay p k h b s) := by
  rw [relay_frame]; exact .of_eq rfl rfl

theorem event_same (b : List Byte) (s : State) : SameSpectrum s (event b s) := by
  rw [event_frame]; exact .of_eq rfl rfl

theorem tellEvent_same (h : Nat) (b : List Byte) (s : State) : SameSpectrum s (tellEvent h b s) := .of_eq rfl rfl

theorem sendTold_same (s : State) : SameSpectrum s (sendTold s) := by
  obtain ⟨p, r, h⟩ := sendTold_frame s
  rw [h]; exact .of_eq rfl rfl

theorem respond_same (h : Hdr) (code : Nat) (st : Status) (r : List Byte) (s : State) :
    SameSpectrum s (respond h code st r s) := .of_eq rfl rfl

theorem forwardFrame_same (p : Nat) (f : Frame) (s : State) : SameSpectrum s (forwardFrame p f s) := by
  rw [forwardFrame_frame]; exact .of_eq rfl rfl

theorem stray_same (s : State) : SameSpectrum s (stray s) := .of_eq rfl rfl

theorem malformed_same (p : Nat) (s : State) : SameSpectrum s (malformed p s) := .of_eq rfl rfl

/-! ## The Directory -/

theorem setMarks_same (m : Marks) (s : State) : SameSpectrum s (setMarks m s) :=
  .of_dirOnly (setMarks_dirOnly m s) (fun f => by rw [State.face, setMarks_face]; exact ⟨rfl, rfl⟩)
    (fun k => by rw [setMarks_block]; exact ⟨rfl, rfl⟩) fun k => by rw [setMarks_entry]

theorem markModified_same (h eg first count : Nat) (s : State) : SameSpectrum s (markModified h eg first count s) := by
  have ho := markModified_entriesOnly h eg first count s
  refine .of_dirOnly (markModified_dirOnly ..) (fun f => by rw [ho.face]; exact ⟨rfl, rfl⟩)
    (fun k => by rw [ho.blocks]; exact ⟨rfl, rfl⟩) fun k => ?_
  rw [markModified_entry]
  unfold markEntry
  split_ifs <;> rfl

theorem modBlock_same {f b : Nat} {g : BlockDesc → BlockDesc} {s : State}
    (hg : (g (s.block f b)).present = (s.block f b).present ∧ (g (s.block f b)).page = (s.block f b).page) :
    SameSpectrum s (s.modBlock f b g) :=
  .of_dirOnly rfl (fun _ => ⟨rfl, rfl⟩) (fun k => by
    simp only [State.modBlock, Tab.get_mod]
    split_ifs with hk
    · rw [hk]; exact hg
    · exact ⟨rfl, rfl⟩) fun _ => rfl

theorem modEntry_same {k : Nat} {g : SlotEntry → SlotEntry} {s : State}
    (hg : (g (s.dir.entries.get k)).kind = (s.dir.entries.get k).kind) : SameSpectrum s (s.modEntry k g) :=
  .of_dirOnly rfl (fun _ => ⟨rfl, rfl⟩) (fun _ => ⟨rfl, rfl⟩) fun j => by
    rw [State.modEntry_entries]
    split_ifs with hj
    · rw [hj]; exact hg
    · rfl

theorem clearPageFlags_same (p : Nat) (s : State) : SameSpectrum s (clearPageFlags p s) :=
  .foldl (fun _ _ => modEntry_same rfl) _ _

theorem clearBlockFlags_same (f b : Nat) (s : State) : SameSpectrum s (clearBlockFlags f b s) :=
  .ite (.after (clearPageFlags_same ..) (modBlock_same ⟨rfl, rfl⟩)) (modBlock_same ⟨rfl, rfl⟩)

/-! ## Places in the ramp (R97, R137) -/

theorem judgeAudit_same (f : Nat) (s : State) : SameSpectrum s (judgeAudit f s) := by
  rw [judgeAudit_frame]; exact .of_eq rfl rfl

theorem clearStep_same (f : Nat) (s : State) : SameSpectrum s (clearStep f s) := by
  rw [clearStep_frame]; exact .of_eq rfl rfl

theorem releaseTurn_same (f h : Nat) (s : State) : SameSpectrum s (releaseTurn f h s) := by
  unfold releaseTurn
  dsimp only
  exact .after (.modCtx fun _ => rfl) (.after (modRamp_same ..) (.after (clearStep_same ..) (push_same ..)))

theorem leaveRamp_same (h : Nat) (c : Context) (s : State) : SameSpectrum s (leaveRamp h c s) :=
  .ite (releaseTurn_same _ _ _) (.ite (.of_eq rfl rfl) (.refl s))

/-! ## The element bus -/

theorem handOver_same (cl : BusClass) (e : Option Nat) (t : Txn) (d : Bool) (f n : Nat) (tag : Tag) (s : State) :
    SameSpectrum s (handOver cl e t d f n tag s) := by
  unfold handOver
  split
  · exact .of_eq rfl rfl
  · exact .ite (.of_eq rfl rfl) (.of_eq rfl rfl)

theorem askWss_same (cl : BusClass) (t : Txn) (d : Bool) (p : Purpose) (h : Nat) (c : Context) (s : State) :
    SameSpectrum s (askWss cl t d p h c s) := handOver_same ..

theorem askMonitor_same (cl : BusClass) (p : Purpose) (h : Nat) (c : Context) (s : State) :
    SameSpectrum s (askMonitor cl p h c s) := handOver_same ..

theorem askSafety_same (h : Nat) (c : Context) (s : State) : SameSpectrum s (askSafety h c s) := askWss_same ..

theorem arbitrate_same (s : State) : SameSpectrum s (arbitrate s) := by
  unfold arbitrate
  split
  · exact .of_eq rfl rfl
  · exact .refl s

theorem failQueued_same (e : Nat) (s : State) : SameSpectrum s (failQueued e s) := .of_eq rfl rfl

theorem healthStep_same (e : Nat) (good : Bool) (s : State) : SameSpectrum s (healthStep e good s) := by
  unfold healthStep
  dsimp only
  exact .ite (.after (failQueued_same ..) (.after (event_same ..) (modElem_same ..))) (modElem_same ..)

theorem startSettle_same (e : Nat) (t : Txn) (s : State) : SameSpectrum s (startSettle e t s) :=
  .ite (.of_eq rfl rfl) (.refl s)

theorem endTxn_same (b : OnBus) (r : Result) (s : State) : SameSpectrum s (endTxn b r s) :=
  .after (startSettle_same ..) (.after (healthStep_same ..) (.of_eq rfl rfl))

/-! ## Faults, probe work, ramp and audit -/

theorem sendFault_same (p : Option Nat) (d : Direction) (c : Context) (k : Cause) (o : Nat) (s : State) :
    SameSpectrum s (sendFault p d c k o s) := sendOn_same ..

theorem pumpProbe_same (h : Nat) (s : State) : SameSpectrum s (pumpProbe h s) := by
  have ask (t : Txn) (p : Purpose) (c : Context) {g : Context → Context} (hg : ∀ c, (g c).path = c.path) :
      SameSpectrum s (askWss .ramp t false p h c (s.modCtx h g)) := .after (askWss_same ..) (.modCtx hg)
  unfold pumpProbe
  split
  · exact .refl s
  · refine .ite (.refl s) ?_
    split
    · exact ask _ _ _ fun _ => rfl
    · exact .ite (ask _ _ _ fun _ => rfl) (.ite (ask _ _ _ fun _ => rfl) (.refl s))

theorem takeLevel_same (h k : Nat) (s : State) : SameSpectrum s (takeLevel h k s) :=
  .after (pumpProbe_same ..) (.modCtx fun _ => rfl)

theorem setClosing_same (h i : Nat) (g : Closing → Option Closing) (s : State) : SameSpectrum s (setClosing h i g s) :=
  .of_eq rfl rfl

theorem pumpClosing_same (h i : Nat) (s : State) : SameSpectrum s (pumpClosing h i s) := by
  unfold pumpClosing
  split
  · exact .refl s
  · exact .ite (.refl s) (.ite (.after (handOver_same ..) (setClosing_same ..))
      (.ite (.after (handOver_same ..) (setClosing_same ..)) (setClosing_same ..)))

theorem joinRamp_same (h : Nat) (c : Context) (s : State) : SameSpectrum s (joinRamp h c s) := .of_eq rfl rfl

theorem startDwell_same (h : Nat) (c : Context) (s : State) : SameSpectrum s (startDwell h c s) :=
  .after (clearStep_same ..) (.modCtx fun _ => rfl)

theorem handGet_same (f h : Nat) (c : Context) (s : State) : SameSpectrum s (handGet f h c s) :=
  .after (askMonitor_same ..) (.of_eq rfl rfl)

theorem startStep_same (h : Nat) (c : Context) (s : State) : SameSpectrum s (startStep h c s) := by
  have walked (g : Context → Context) (hg : ∀ c, (g c).path = c.path) :
      SameSpectrum s ((stepWalk c.egress c.first c.count s).2.modCtx h g) := .after (.modCtx hg) (setMarks_same ..)
  unfold startStep
  dsimp only
  exact .ite (.after (startDwell_same ..) (walked _ fun _ => rfl))
    (.ite (.after (modRamp_same ..) (walked _ fun _ => rfl)) (.after (handGet_same ..) (walked _ fun _ => rfl)))

theorem withdrawStep_same (h : Nat) (c : Context) (s : State) : SameSpectrum s (withdrawStep h c s) := by
  unfold withdrawStep
  split
  · exact askWss_same ..
  · exact .ite (askWss_same ..) (askWss_same ..)

theorem stepSetting_same (h : Nat) (c : Context) (e : Int) (s : State) : SameSpectrum s (stepSetting h c e s) :=
  askWss_same ..

theorem takeSetting_same (h : Nat) (c : Context) (a : Atten) (s : State) : SameSpectrum s (takeSetting h c a s) :=
  .after (startDwell_same ..) (.after (markModified_same ..) (.modCtx fun _ => rfl))

theorem takeSafetyResult_same (h i : Nat) (r : Result) (s : State) : SameSpectrum s (takeSafetyResult h i r s) := by
  unfold takeSafetyResult
  split
  · exact .refl s
  · exact .ite (.refl s) (.ite (.modCtx fun _ => rfl) (.modCtx fun _ => rfl))

theorem finishEntry_same (f : Nat) (s : State) : SameSpectrum s (finishEntry f s) := .of_eq rfl rfl

theorem endPass_same (f : Nat) (s : State) : SameSpectrum s (endPass f s) := by
  unfold endPass
  dsimp only
  refine .ite ?_ (.of_eq rfl rfl)
  split
  · exact .of_eq rfl rfl
  · split
    · exact .of_eq rfl rfl
    · exact .after (handGet_same ..) (.of_eq rfl rfl)

theorem measure_same (f : Nat) (s : State) : SameSpectrum s (measure f s) := by
  unfold measure
  refine .ite (.refl s) ?_
  split
  · exact endPass_same ..
  · split
    · exact finishEntry_same ..
    · exact .ite (askMonitor_same ..) (finishEntry_same ..)

theorem takeAuditReading_same (f h : Nat) (c : Context) (p : Int) (s : State) :
    SameSpectrum s (takeAuditReading f h c p s) := by
  have told (b : Prop) [Decidable b] (e : List Byte) {g : Context → Context} (hg : ∀ c, (g c).path = c.path) :
      SameSpectrum s (if b then s.modCtx h g else tellEvent h e (s.modCtx h g)) :=
    .ite (.modCtx hg) (.after (tellEvent_same ..) (.modCtx hg))
  unfold takeAuditReading
  dsimp only
  exact .ite (.after (askWss_same ..) (told _ _ fun _ => rfl)) (.after (finishEntry_same ..) (told _ _ fun _ => rfl))

theorem takeAuditGet_same (f h i : Nat) (r : Result) (s : State) : SameSpectrum s (takeAuditGet f h i r s) := by
  unfold takeAuditGet
  split
  · exact finishEntry_same ..
  · refine .ite (finishEntry_same ..) ?_
    split
    · exact takeAuditReading_same ..
    · exact finishEntry_same ..

theorem takeAuditSet_same (f h i a : Nat) (r : Result) (s : State) : SameSpectrum s (takeAuditSet f h i a r s) := by
  unfold takeAuditSet
  split
  · exact finishEntry_same ..
  · exact .ite (finishEntry_same ..)
      (.after (finishEntry_same ..) (.after (markModified_same ..) (.modCtx fun _ => rfl)))

theorem answerRead_same (p src : Nat) (tag : Byte) (r : Result) (s : State) :
    SameSpectrum s (answerRead p src tag r s) := by
  unfold answerRead
  split <;> exact .of_eq rfl rfl

/-! ## Ports -/

theorem powerOnLine_same (p : Nat) (s : State) : SameSpectrum s (powerOnLine p s) := .ite (.of_eq rfl rfl) (.refl s)

theorem enterUp_same (p n np : Nat) (s : State) : SameSpectrum s (enterUp p n np s) :=
  .after (event_same ..) (.of_eq rfl rfl)

theorem localUp_same (s : State) : SameSpectrum s (localUp s) := .after (event_same ..) (.of_eq rfl rfl)

end Sys2Proof.Machine
end

section
/-! SUPPORT. Each operation of a take keeps Laws 1, 2, 9 and 10, in the order of the model's files. -/
namespace Sys2Proof.Machine

variable {full : Prop} {s : State} {h : Nat} {c : Context}

/-! ## Records found -/

theorem mem_cells_held {n : Nat} {c : Context} (hi : Inv full s) (hm : (n, some c) ∈ s.table.recs.cells) :
    Held full n c s := fun hf => by
  obtain ⟨hw, -⟩ := hi.2 hf
  rw [State.ctx, ((Tab.mem_cells hw n (some c)).1 hm).1]
  rfl

/-- R24: the record that a frame or request names by its lightpath ID. -/
theorem findLp_held {id n : Nat} (hi : Inv full s) (hl : findLp s id = some (n, c)) : Held full n c s := by
  unfold findLp at hl
  split_ifs at hl
  obtain ⟨⟨m, x⟩, hm, hx⟩ := List.exists_of_findSome?_eq_some hl
  obtain ⟨d, hd, he⟩ := Option.bind_eq_some_iff.1 hx
  split_ifs at he
  obtain ⟨rfl, rfl⟩ : m = n ∧ d = c := by simpa using he
  exact mem_cells_held hi (by rw [← hd]; exact hm)

/-- R81: the record whose watch a burst matches. -/
theorem watchOf_held {code n : Nat} {w : Watch} (hi : Inv full s) (hl : watchOf s code = some (n, c, w)) :
    Held full n c s := by
  unfold watchOf at hl
  split_ifs at hl
  obtain ⟨⟨m, x⟩, hm, hx⟩ := List.exists_of_findSome?_eq_some hl
  obtain ⟨d, hd, he⟩ := Option.bind_eq_some_iff.1 hx
  obtain ⟨v, -, he⟩ := Option.bind_eq_some_iff.1 he
  split_ifs at he
  obtain ⟨rfl, rfl, -⟩ : m = n ∧ d = c ∧ v = w := by simpa using he
  exact mem_cells_held hi (by rw [← hd]; exact hm)

/-! ## Freeing and faults -/

theorem freeRecord_inv (hi : Inv full s) (hc : Held full h c s) : Inv full (freeRecord h c s) :=
  forgotten_inv (hi.same (leaveRamp_same h c s)) (hc.same (leaveRamp_same h c s))

theorem enterFaulted_inv {cause : Cause} {origin : Nat} {d : Direction} {up down : Bool}
    (hi : Inv full s) (hc : Held full h c s) : Inv full (enterFaulted h c cause origin d up down s) := by
  have h1 : SameSpectrum s ((leaveRamp h c s).modCtx h Context.dropWork) :=
    .after (.modCtx fun _ => rfl) (leaveRamp_same ..)
  refine (changeState_inv (hi.same h1) (hc.same h1) (st := .faulted)).same ?_
  unfold enterFaulted
  dsimp only
  generalize changeState h c .faulted _ = t
  have h2 (o : FaultRec) : SameSpectrum t ((askSafety h c (t.modCtx h fun c => { c with faultRec := some o })).modCtx h
      fun c => { c with work := { c.work with dithering := false } }) :=
    .after (.modCtx fun _ => rfl) (.after (askSafety_same ..) (.modCtx fun _ => rfl))
  have send (b : Bool) (p : Option Nat) (d : Direction) {u v : State} (k : SameSpectrum u v) :
      SameSpectrum u (if b = true then sendFault p d c cause origin v else v) := .ite (.after (sendFault_same ..) k) k
  exact .ite (.after (tellEvent_same ..) (send _ _ _ (send _ _ _ (h2 _)))) (send _ _ _ (send _ _ _ (h2 _)))

theorem endWithdrawal_inv (hi : Inv full s) (hc : Held full h c s) : Inv full (endWithdrawal h c s) := by
  have h1 : SameSpectrum s (sendTeardown c (askWss .safety .setBlock false .safety h c s)) :=
    .after (sendOn_same ..) (askWss_same ..)
  exact freeRecord_inv (hi.same h1) (hc.same h1)

theorem localFaultOn_inv {cause : Cause} {up down : Bool} (hi : Inv full s) (hc : Held full h c s) :
    Inv full (localFaultOn h c cause up down s) := by
  unfold localFaultOn
  split_ifs
  · exact (enterFaulted_inv hi hc).same (.of_eq rfl rfl)
  · exact (endWithdrawal_inv hi hc).same (.of_eq rfl rfl)
  · exact hi

theorem localFault_inv {cause : Cause} (hi : Inv full s) (hc : Held full h c s) : Inv full (localFault h c cause s) :=
  localFaultOn_inv hi hc

theorem linkLossFault_inv {p h : Nat} (hi : Inv full s) : Inv full (linkLossFault p h s) := by
  unfold linkLossFault
  split
  · exact hi
  · rename_i c hc
    split_ifs
    · exact localFaultOn_inv hi (.of_some hc)
    · exact hi

theorem takeFault_inv {port id : Nat} {cause : Cause} {origin : Nat} {d : Direction} (hi : Inv full s) :
    Inv full (takeFault port id cause origin d s) := by
  unfold takeFault
  split
  · exact hi.same (.of_eq rfl rfl)
  · rename_i hl
    have hc := findLp_held hi hl
    split_ifs
    · exact (enterFaulted_inv hi hc).same (.of_eq rfl rfl)
    · exact (endWithdrawal_inv hi hc).same (.of_eq rfl rfl)
    · exact hi.same (.of_eq rfl rfl)

/-! ## The probe phase -/

theorem closeMaint_inv (hi : Inv full s) (hc : Held full h c s) : Inv full (closeMaint h c s) := by
  unfold closeMaint
  dsimp only
  refine Inv.same (freeRecord_inv (hi.same ?_) (hc.same ?_)) (pumpClosing_same ..) <;> exact .of_eq rfl rfl

theorem takeProbeResult_inv {h i : Nat} {a : Option Nat} {r : Result} (hi : Inv full s) :
    Inv full (takeProbeResult h i a r s) := by
  unfold takeProbeResult
  split
  · rename_i c hcur
    split_ifs
    · exact localFault_inv (hi.same (.modCtx fun _ => rfl)) ((Held.of_current hcur).same (.modCtx fun _ => rfl))
    · refine hi.same ?_
      dsimp only
      generalize hp : pumpProbe h _ = t
      have pumped : SameSpectrum s t := by
        rw [← hp]
        refine .after (pumpProbe_same ..) ?_
        split
        · exact .modCtx fun _ => rfl
        · exact .after (markModified_same ..) (.after (.modCtx fun _ => rfl) (.modCtx fun _ => rfl))
      split
      · exact pumped
      · exact .ite (.after (push_same ..) pumped) pumped
    · exact hi
  · exact hi.same (.after (pumpClosing_same ..) (setClosing_same ..))

theorem beginProbe_inv (hi : Inv full s) (hc : Held full h c s) : Inv full (beginProbe h c s) :=
  (changeState_inv hi hc (st := .probing)).same
    (.after (sendOn_same ..) (.after (takeLevel_same ..) (.modCtx fun _ => rfl)))

theorem stepLadder_inv (hi : Inv full s) (hc : Held full h c s) : Inv full (stepLadder h c s) := by
  unfold stepLadder
  split_ifs
  · exact hi.same (.after (sendOn_same ..) (.after (takeLevel_same ..) (.modCtx fun _ => rfl)))
  · exact localFault_inv hi hc

theorem armHead_inv (hi : Inv full s) (hc : Held full h c s) : Inv full (armHead h c s) :=
  (changeState_inv hi hc (st := .armed)).same
    (.after (joinRamp_same ..) (.after (pumpProbe_same ..) (.modCtx fun _ => rfl)))

theorem closeHead_inv (hi : Inv full s) (hc : Held full h c s) : Inv full (closeHead h c s) :=
  (closeMaint_inv hi hc).same (tellEvent_same ..)

theorem takeProbe_inv {hd : Hdr} {body : List Byte} {k : Nat} (hi : Inv full s) (hc : Held full h c s) :
    Inv full (takeProbe hd body h c k s) := by
  have h1 : Inv full (if c.st = .reserved then changeState h c .probing s else s) := by
    split_ifs
    exacts [changeState_inv hi hc, hi]
  refine h1.same ?_
  unfold takeProbe
  dsimp only
  generalize (if c.st = .reserved then changeState h c .probing s else s) = t
  have h2 := takeLevel_same h k t
  exact .ite (.ite (.after (relay_same ..) h2) h2) (.after (.modCtx fun _ => rfl) h2)

theorem answerArmed_same (hd : Hdr) (body : List Byte) (h : Nat) (c : Context) (k : Nat) (s : State) :
    SameSpectrum s (answerArmed hd body h c k s) := by
  have h1 : SameSpectrum s (if c.probeLevel < k then takeLevel h k s else s) := .ite (takeLevel_same ..) (.refl s)
  unfold answerArmed
  dsimp only
  split
  · exact .after (relay_same ..) h1
  · exact .after (sendOn_same ..) h1
  · exact h1

theorem validate_inv (hi : Inv full s) (hc : Held full h c s) : Inv full (validate h c s) := by
  have sent {g : Context → Context} {b : List Byte} (hg : ∀ c, (g c).path = c.path) :
      SameSpectrum s (sendOn c.upPort .probeAck b (s.modCtx h g)) := .after (sendOn_same ..) (.modCtx hg)
  unfold validate
  dsimp only
  split
  · exact closeMaint_inv (hi.same (sent fun _ => rfl)) (hc.same (sent fun _ => rfl))
  · exact changeState_inv (hi.same (sent fun _ => rfl)) (hc.same (sent fun _ => rfl))
  · exact hi.same (.after (sendOn_same ..) (.modCtx fun _ => rfl))

theorem takeBurst_inv {g code : Nat} (hi : Inv full s) : Inv full (takeBurst g code s) := by
  unfold takeBurst
  dsimp only
  split
  · exact hi.same (.of_eq rfl rfl)
  · rename_i hl
    have hc := watchOf_held hi hl
    split_ifs
    · exact validate_inv hi hc
    · exact hi.same (.modCtx fun _ => rfl)
    · exact localFault_inv (hi.same (.modCtx fun _ => rfl)) (hc.same (.modCtx fun _ => rfl))
    · exact hi.same (.modCtx fun _ => rfl)

/-! ## The ramp -/

theorem grant_inv {f : Nat} {e : QEntry} (hi : Inv full s) (hc : Held full e.handle c s) :
    Inv full (grant f e c s) := by
  have held {g : Context → Context} {r : RampFace → RampFace} (hg : ∀ c, (g c).path = c.path) :
      SameSpectrum s ((s.modRamp f r).modCtx e.handle g) := .after (.modCtx hg) (modRamp_same ..)
  unfold grant
  dsimp only
  split
  · refine Inv.same ?_ (startStep_same ..)
    exact changeState_inv (hi.same (held fun _ => rfl)) (hc.same (held fun _ => rfl))
  · exact hi.same (.after (withdrawStep_same ..) (held fun _ => rfl))
  · exact hi

theorem judgeGrant_inv {f : Nat} (hi : Inv full s) : Inv full (judgeGrant f s) := by
  unfold judgeGrant
  split
  · split
    · rename_i hcur
      split_ifs
      exacts [grant_inv hi (.of_current hcur), hi]
    · exact hi
  · exact hi

theorem settle_inv (hi : Inv full s) (hc : Held full h c s) : Inv full (settle h c s) := by
  have h1 := changeState_inv hi hc (st := .settled)
  have hc1 := changeState_held hc (st := .settled)
  unfold settle
  dsimp only
  generalize changeState h c .settled s = t at h1 hc1 ⊢
  have h2 := leaveRamp_same h c t
  have h3 : SameSpectrum t ((leaveRamp h c t).modCtx h fun c => { c with carried := none }) :=
    .after (.modCtx fun _ => rfl) h2
  split
  · exact h1.same (.ite h2 (.after (sendOn_same ..) h2))
  · exact h1.same (.after (sendOn_same ..) h3)
  · exact changeState_inv (h1.same (.after (sendOn_same ..) h3)) (hc1.same (.after (sendOn_same ..) h3))

theorem takeReading_inv {p : Int} (hi : Inv full s) (hc : s.ctx h = some c) : Inv full (takeReading h c p s) := by
  have applied {d : Context} (hd : d.path = c.path) : SameSpectrum s (s.setCtx h (some d)) :=
    .setCtx (by rw [hc, Option.map_some, hd, Option.map_some])
  have held (d : Context) : Held full h d (s.setCtx h (some d)) := .of_some (by simp)
  unfold takeReading
  dsimp only
  split
  · exact localFault_inv (hi.same (applied rfl)) (held _)
  · exact settle_inv (hi.same (applied rfl)) (held _)
  · exact hi.same (.after (startDwell_same ..) (applied rfl))
  · exact hi.same (.after (stepSetting_same ..) (applied rfl))

theorem finishWithdrawal_inv (hi : Inv full s) (hc : Held full h c s) : Inv full (finishWithdrawal h c s) := by
  have h1 : SameSpectrum s (sendTeardown c
      (markModified h c.egress c.first c.count (s.modCtx h fun c => { c with atten := .blocked }))) :=
    .after (sendOn_same ..) (.after (markModified_same ..) (.modCtx fun _ => rfl))
  exact freeRecord_inv (hi.same h1) (hc.same h1)

theorem takeRampResult_inv {h i : Nat} {p : Purpose} {r : Result} (hi : Inv full s) :
    Inv full (takeRampResult h i p r s) := by
  unfold takeRampResult
  split
  · exact hi
  · rename_i c hcur
    have hc : Held full h c s := .of_current hcur
    split
    · split
      · exact takeReading_inv hi (Option.filter_eq_some_iff.1 hcur).1
      · exact localFault_inv hi hc
    · exact localFault_inv hi hc
    · exact hi.same (takeSetting_same ..)
    · exact localFault_inv hi hc
    · exact hi.same (takeSetting_same ..)
    · exact localFault_inv hi hc
    · exact finishWithdrawal_inv hi hc
    · exact hi

/-! ## The end of a take -/

theorem doWork_inv {w : Work} (hi : Inv full s) : Inv full (doWork w s) := by
  unfold doWork
  split
  · unfold takeResult
    split
    · exact hi.same (answerRead_same ..)
    · split
      · exact takeProbeResult_inv hi
      · exact takeProbeResult_inv hi
      · exact takeProbeResult_inv hi
      · exact takeProbeResult_inv hi
      · exact takeRampResult_inv hi
      · exact takeRampResult_inv hi
      · exact takeRampResult_inv hi
      · exact takeRampResult_inv hi
      · exact hi.same (takeSafetyResult_same ..)
      · exact hi.same (takeAuditGet_same ..)
      · exact hi.same (takeAuditSet_same ..)
  · exact judgeGrant_inv hi
  · exact hi.same (measure_same ..)

theorem runWork_inv {n : Nat} (hi : Inv full s) : Inv full (runWork n s) := by
  induction n generalizing s with
  | zero => exact hi
  | succ n ih =>
    unfold runWork
    split
    · exact hi
    · exact ih (doWork_inv (hi.same (.of_eq rfl rfl)))

theorem settleWork_inv (hi : Inv full s) : Inv full (settleWork s) := (runWork_inv hi).same (.of_eq rfl rfl)

theorem endTake_inv (hi : Inv full s) : Inv full (endTake s) :=
  (settleWork_inv hi).same (.after (arbitrate_same ..) (sendTold_same ..))

/-! ## Ports -/

theorem linkLoss_inv {p : Nat} (hi : Inv full s) : Inv full (linkLoss p s) :=
  (settleWork_inv (foldl_keeps (P := Inv full) (fun _ _ _ hi => linkLossFault_inv hi) hi)).same (sendTold_same ..)

theorem leaveUp_inv {p : Nat} {l : LinkState} {a : Option Acq} (hi : Inv full s) : Inv full (leaveUp p l a s) := by
  unfold leaveUp
  dsimp only
  refine Inv.same ?_ (event_same ..)
  split
  · exact linkLoss_inv (hi.same (modPort_same ..))
  · exact hi.same (modPort_same ..)

theorem lineHello_inv {p n np : Nat} (hi : Inv full s) : Inv full (lineHello p n np s) := by
  unfold lineHello
  dsimp only
  split
  · exact hi
  · split
    · split_ifs
      · exact hi.same (.after (enterUp_same ..) (modPort_same ..))
      · exact hi.same (modPort_same ..)
      · exact hi.same (modPort_same ..)
    · exact hi.same (modPort_same ..)
  · split_ifs
    · exact hi.same (modPort_same ..)
    · exact leaveUp_inv hi

theorem takeHello_inv {p : Nat} {body : List Byte} (hi : Inv full s) : Inv full (takeHello p body s) := by
  unfold takeHello
  split_ifs
  · exact hi.same (malformed_same ..)
  · split
    · exact hi.same (malformed_same ..)
    · split_ifs
      · exact hi.same (malformed_same ..)
      · exact lineHello_inv hi

theorem receive_inv {p : Nat} {b : Bool} {k : State → State} (hi : Inv full s)
    (hk : ∀ t, Inv full t → Inv full (k t)) : Inv full (receive p b k s) := by
  have hr : Inv full (countRx p s) := hi.same (modPort_same ..)
  unfold receive
  dsimp only
  split_ifs
  exacts [hr.same (modPort_same ..), hk _ hr]

theorem commissioning_inv {α : Type} {hd : Hdr} {x : Option α} {k : α → State → State} (hi : Inv full s)
    (hk : ∀ y t, x = some y → hd.port.val ≠ 8 → Inv full t → Inv full (k y t)) :
    Inv full (commissioning hd x k s) := by
  unfold commissioning
  split
  · exact hi.same (malformed_same ..)
  · split_ifs with h8
    · exact hi.same (stray_same ..)
    · exact hk _ _ rfl (fun e => h8 (Or.inl e)) hi

end Sys2Proof.Machine
end

section
/-! SUPPORT. Laws 1, 2, 9 and 10 under the Directory's writes, and under an admission. -/
namespace Sys2Proof.Machine

variable {full : Prop} {s t : State}

/-! ## What occupies a face, a block, a page (R15, R16) -/

theorem faceOccupied_iff (s : State) (f : Nat) :
    faceOccupied s f = true ↔
      ∃ b, b < 24 ∧ (s.block f b).present = true ∧ pageOccupied s (s.block f b).page = true := by
  simp [faceOccupied]

theorem pageOccupied_iff (s : State) (p : Nat) :
    pageOccupied s p = true ↔ ∃ i, i < 16 ∧ (s.entry p i).kind.occupied = true := by
  simp [pageOccupied]

theorem pageNamedElsewhere_iff (s : State) (f b p : Nat) :
    pageNamedElsewhere s f b p = true ↔ ∃ g c, g < 12 ∧ c < 24 ∧ ¬(g = f ∧ c = b) ∧ (s.block g c).present = true ∧
      (s.block g c).page = p := by
  simp only [pageNamedElsewhere, List.any_eq_true, List.mem_range, Bool.and_eq_true, Bool.not_eq_true',
    Bool.and_eq_false_iff, beq_eq_false_iff_ne, beq_iff_eq, not_and_or, and_assoc, exists_and_left, ne_eq]

/-- R16: when a block descriptor write is refused. -/
theorem blockInUse_iff (s : State) (f b : Nat) (present : Bool) (page : Nat) :
    blockInUse s f b present page = true ↔
      ((s.block f b).present = false ∧ present = true ∧ pageNamedElsewhere s f b page = true) ∨
      ((s.block f b).present = true ∧ present = false ∧ pageOccupied s (s.block f b).page = true) ∨
      ((s.block f b).present = true ∧ present = true ∧ page ≠ (s.block f b).page ∧
        (pageOccupied s (s.block f b).page = true ∨ pageNamedElsewhere s f b page = true)) := by
  unfold blockInUse
  dsimp only
  generalize pageNamedElsewhere s f b page = named
  generalize pageOccupied s (s.block f b).page = occupied
  cases (s.block f b).present <;> cases present <;> simp

theorem pageOccupied_of_slotKind {f n : Nat} {k : EntryKind} (h : slotKind s f n = some k) (hk : k.occupied = true) :
    pageOccupied s (s.block f (n / 16)).page = true :=
  (pageOccupied_iff _ _).2 ⟨n % 16, Nat.mod_lt _ (by decide), by rw [entry_eq_slotKey, (slotKind_of_some h).2, hk]⟩

theorem faceOccupied_of_slotKind {f n : Nat} {k : EntryKind} (hn : n ≤ 383) (h : slotKind s f n = some k)
    (hk : k.occupied = true) : faceOccupied s f = true :=
  (faceOccupied_iff _ _).2 ⟨n / 16, by omega, (slotKind_of_some h).1, pageOccupied_of_slotKind h hk⟩

theorem EntryKind.occupied_of_held {k : EntryKind} (h : k.held = true) : k.occupied = true := by
  cases k <;> simp_all [EntryKind.held, EntryKind.occupied]

/-- R15: the faces of a record are occupied. -/
theorem LayoutLaws.faceOccupied (hl : LayoutLaws s) {h : Nat} {c : Context} (hc : s.ctx h = some c) :
    Machine.faceOccupied s c.ingress = true ∧ Machine.faceOccupied s c.egress = true := by
  obtain ⟨hp, ⟨h1, -⟩, ⟨h2, -⟩, -⟩ := hl
  obtain ⟨-, -, -, hcount, hfit, -⟩ := hp h c hc
  have hs : c.spans c.first := ⟨le_rfl, by omega⟩
  exact ⟨faceOccupied_of_slotKind (by omega) (h2 h c _ hc hs) rfl,
    faceOccupied_of_slotKind (by omega) (h1 h c _ hc hs) rfl⟩

/-! ## Writes of descriptors and entries -/

/-- The laws go over to a state with the same records that agrees in what occupies the slots. -/
theorem SpectrumLaws.of_occupied (hl : SpectrumLaws s) (hr : t.table.recs = s.table.recs)
    (hlive : ∀ f, (t.face f).live = (s.face f).live)
    (hface : ∀ h c, s.ctx h = some c → (t.face c.ingress).present = true ∧ (t.face c.egress).present = true)
    (hk : ∀ f n k, f ≤ 11 → n ≤ 383 → k.occupied = true → (slotKind t f n = some k ↔ slotKind s f n = some k))
    (h10 : Law10 t) : SpectrumLaws t := by
  obtain ⟨hw, hll, h9⟩ := (spectrumLaws_iff s).1 hl
  exact (spectrumLaws_iff t).2 ⟨hr ▸ hw, hll.transfer (fun n => by simp only [State.ctx, hr]) hface
      (fun f n k hf hn hh => hk f n k hf hn (EntryKind.occupied_of_held hh)) h10,
    law9_of_foreign h9 (fun f _ => hlive f) hr fun f n hf hn => hk f n .foreign hf hn rfl⟩

/-- R15: a face becomes absent only while nothing occupies it. -/
theorem modFace_inv {f : Nat} {present guard : Bool} {mask : ClassMask} (hi : Inv full s)
    (hocc : (s.face f).present = true → present = false → faceOccupied s f = false) :
    Inv full (s.modFace f fun y => { y with present := present, guard := guard, mask := mask }) := by
  refine ⟨hi.1, fun hf => (hi.2 hf).of_occupied rfl (fun g => ?_) (fun h c hc => ?_) (fun _ _ _ _ _ _ => Iff.rfl) hi.1⟩
  · rw [State.modFace_face]
    split_ifs with hg
    · rw [hg]
    · rfl
  · obtain ⟨-, hl, -⟩ := (spectrumLaws_iff s).1 (hi.2 hf)
    obtain ⟨-, -, -, -, -, hip, hep⟩ := hl.1 h c hc
    have kept {g : Nat} (hp : (s.face g).present = true) (ho : faceOccupied s g = true) :
        ((s.modFace f fun y => { y with present := present, guard := guard, mask := mask }).face g).present = true := by
      rw [State.modFace_face]
      split_ifs with hg
      · cases hpr : present
        · have := hocc (hg ▸ hp) hpr
          rw [← hg, ho] at this
          cases this
        · rfl
      · exact hp
    exact ⟨kept hip (hl.faceOccupied hc).1, kept hep (hl.faceOccupied hc).2⟩

theorem writeFace_inv {h : Hdr} {x : (Nat × Nat) × FaceWrite} (hi : Inv full s) : Inv full (writeFace h x s) := by
  unfold writeFace
  dsimp only
  split_ifs with h1 h2 h3
  · exact hi.same (respond_same ..)
  · exact hi.same (respond_same ..)
  · exact hi.same (respond_same ..)
  · refine Inv.same (modFace_inv hi fun hp hw => ?_) (respond_same ..)
    simp only [Bool.and_eq_true, beq_iff_eq, hp, true_and, not_and, Bool.not_eq_true] at h3
    have hw : x.2.present ≠ 1 := by simpa using hw
    exact h3 (by omega)

theorem clearPage_entriesOnly (p : Nat) (s : State) : EntriesOnly s (clearPage p s) :=
  EntriesOnly.foldl (fun _ _ => EntriesOnly.modEntry ..) _ _

/-- R17: an initialised page has all sixteen entries FREE with both flags clear; no other entry changes. -/
theorem clearPage_entry (p : Nat) (s : State) (k : Nat) :
    (clearPage p s).dir.entries.get k =
      if 16 * p ≤ k ∧ k < 16 * p + 16 then SlotEntry.initial else s.dir.entries.get k := by
  have hfold := get_foldl (P := fun _ => True) (read := fun t => t.dir.entries.get k)
    (g := fun (s : State) i => s.modEntry (16 * p + i) fun _ => SlotEntry.initial)
    (φ := fun i x => if decide (k = 16 * p + i) = true then SlotEntry.initial else x) (l := List.range 16) (s := s)
    (fun _ _ _ _ => trivial) (fun t i _ _ => by simp) trivial
  rw [clearPage, hfold, foldl_of_idem (g := fun _ => SlotEntry.initial) fun _ => rfl]
  have : (List.range 16).any (fun i => decide (k = 16 * p + i)) = true ↔ 16 * p ≤ k ∧ k < 16 * p + 16 := by
    simp only [List.any_eq_true, List.mem_range, decide_eq_true_eq]
    exact ⟨fun ⟨i, hi, hk⟩ => by omega, fun ⟨h1, h2⟩ => ⟨k - 16 * p, by omega, by omega⟩⟩
  simp only [this]

/-- The Directory after an accepted block descriptor write (R16, R17). -/
def blockWritten (f b : Nat) (present guard : Bool) (page : Nat) (s : State) : State :=
  let u := s.modBlock f b fun y => { y with present := present, guard := guard, page := page }
  if present && (!(s.block f b).present || page != (s.block f b).page) then clearPage page u else u

theorem blockWritten_block (f b : Nat) (present guard : Bool) (page : Nat) (s : State) (g c : Nat) :
    (blockWritten f b present guard page s).block g c =
      if 24 * g + c = 24 * f + b then { s.block f b with present := present, guard := guard, page := page }
      else s.block g c := by
  unfold blockWritten
  dsimp only
  split_ifs <;> simp_all [(clearPage_entriesOnly _ _).block]

theorem blockWritten_dirOnly (f b : Nat) (present guard : Bool) (page : Nat) (s : State) :
    DirOnly s (blockWritten f b present guard page s) := by
  unfold blockWritten
  dsimp only
  split_ifs
  · exact DirOnly.trans (t := s.modBlock f b _) rfl (clearPage_dirOnly _ _)
  · rfl

theorem blockWritten_face (f b : Nat) (present guard : Bool) (page : Nat) (s : State) (g : Nat) :
    (blockWritten f b present guard page s).face g = s.face g := by
  unfold blockWritten
  dsimp only
  split_ifs
  · rw [(clearPage_entriesOnly _ _).face]; rfl
  · rfl

theorem blockWritten_entry (f b : Nat) (present guard : Bool) (page : Nat) (s : State) (k : Nat) :
    (blockWritten f b present guard page s).dir.entries.get k =
      if (present && (!(s.block f b).present || page != (s.block f b).page)) = true ∧ 16 * page ≤ k ∧
          k < 16 * page + 16 then SlotEntry.initial else s.dir.entries.get k := by
  unfold blockWritten
  dsimp only
  split_ifs with h1 h2 h2
  · rw [clearPage_entry, if_pos h2.2]
  · rw [clearPage_entry, if_neg fun h => h2 ⟨h1, h⟩]; rfl
  · exact absurd h2.1 h1
  · rfl

section
variable {f b page : Nat} {present guard : Bool} (hf : f ≤ 11) (hb : b ≤ 23)
  (hu : ¬blockInUse s f b present page = true)
include hf hb hu

/-- R16: a block descriptor that an accepted write makes present shares its page with no other present one. -/
theorem page_ne_of_accepted (hl : Law10 s) (hpr : present = true) {g c : Nat} (hg : g ≤ 11) (hc : c ≤ 23)
    (hne : ¬24 * g + c = 24 * f + b) (hp : (s.block g c).present = true) : (s.block g c).page ≠ page := by
  intro e
  have hn : pageNamedElsewhere s f b page = true :=
    (pageNamedElsewhere_iff _ _ _ _).2 ⟨g, c, by omega, by omega, fun h => hne (by rw [h.1, h.2]), hp, e⟩
  rw [blockInUse_iff] at hu
  cases hcur : (s.block f b).present
  · exact hu (Or.inl ⟨hcur, hpr, hn⟩)
  · by_cases hpage : page = (s.block f b).page
    · obtain ⟨hgf, hcb⟩ := hl g c f b hg hc hf hb hp hcur (e.trans hpage)
      exact hne (by rw [hgf, hcb])
    · exact hu (Or.inr (Or.inr ⟨hcur, hpr, hpage, Or.inr hn⟩))

/-- R16: an accepted write gives two present blocks of the node's faces no page in common. -/
theorem blockWritten_law10 (hl : Law10 s) : Law10 (blockWritten f b present guard page s) := by
  have apart := page_ne_of_accepted hf hb hu hl
  intro g c j d hg hc hj hd
  simp only [blockWritten_block]
  split_ifs with e1 e2 e2
  · intros; omega
  · exact fun hp hp' e => absurd e.symm (apart hp hj hd e2 hp')
  · exact fun hp hp' e => absurd e (apart hp' hg hc e1 hp)
  · exact hl g c j d hg hc hj hd

/-- R16, R17: an accepted write changes nothing in what occupies the slots of the node's faces. -/
theorem blockWritten_slotKind (hl : Law10 s) {g n : Nat} {k : EntryKind} (hg : g ≤ 11) (hn : n ≤ 383)
    (hk : k.occupied = true) :
    slotKind (blockWritten f b present guard page s) g n = some k ↔ slotKind s g n = some k := by
  have hfree : k ≠ .free := by rintro rfl; cases hk
  have busy (h : slotKind s g n = some k) := pageOccupied_of_slotKind h hk
  rw [slotKind_eq, slotKey, blockWritten_block, blockWritten_entry]
  by_cases he : 24 * g + n / 16 = 24 * f + b
  · obtain ⟨rfl, rfl⟩ : g = f ∧ n / 16 = b := by omega
    simp only [if_true]
    cases present <;> cases hcur : (s.block g (n / 16)).present
    · simp [slotKind_eq, hcur]
    · simp only [Bool.false_eq_true, if_false, reduceCtorEq, false_iff]
      exact fun h => hu ((blockInUse_iff ..).2 (Or.inr (Or.inl ⟨hcur, rfl, busy h⟩)))
    · have hin : 16 * page ≤ 16 * page + n % 16 ∧ 16 * page + n % 16 < 16 * page + 16 := by omega
      simp [slotKind_eq, hcur, hin, SlotEntry.initial, hfree.symm]
    · by_cases hpage : page = (s.block g (n / 16)).page
      · simp [slotKind_eq, slotKey, hcur, hpage]
      · have hin : 16 * page ≤ 16 * page + n % 16 ∧ 16 * page + n % 16 < 16 * page + 16 := by omega
        simp only [hpage, hin, Bool.not_true, bne_iff_ne, ne_eq, not_false_eq_true, Bool.false_or, Bool.true_and,
          and_self, if_true, SlotEntry.initial, Option.some.injEq, hfree.symm, false_iff]
        exact fun h => hu ((blockInUse_iff ..).2 (Or.inr (Or.inr ⟨hcur, rfl, hpage, Or.inl (busy h)⟩)))
  · rw [if_neg he, slotKind_eq]
    by_cases hp : (s.block g (n / 16)).present = true
    · simp only [hp, if_true]
      rw [if_neg]
      · rfl
      · rintro ⟨hpr, h1, h2⟩
        exact page_ne_of_accepted hf hb hu hl (Bool.and_eq_true_iff.1 hpr).1 hg (by omega) he hp (by omega)
    · simp [hp]

/-- R16, R17: an accepted block descriptor write. -/
theorem blockWritten_inv (hi : Inv full s) : Inv full (blockWritten f b present guard page s) := by
  have hd := blockWritten_dirOnly f b present guard page s
  have h10 := blockWritten_law10 (guard := guard) hf hb hu hi.1
  refine ⟨h10, fun hfull => (hi.2 hfull).of_occupied (by rw [hd.table]) (fun g => by rw [blockWritten_face])
    (fun h c hc => ?_) (fun g n k hg hn hk => blockWritten_slotKind hf hb hu hi.1 hg hn hk) h10⟩
  obtain ⟨-, hl, -⟩ := (spectrumLaws_iff s).1 (hi.2 hfull)
  obtain ⟨-, -, -, -, -, hip, hep⟩ := hl.1 h c hc
  rw [blockWritten_face, blockWritten_face]
  exact ⟨hip, hep⟩
end

theorem writeBlock_inv {h : Hdr} {x : (Nat × Nat) × BlockWrite} (hi : Inv full s) : Inv full (writeBlock h x s) := by
  unfold writeBlock
  dsimp only
  split_ifs with h1 h2 h3
  · exact hi.same (respond_same ..)
  · exact hi.same (respond_same ..)
  · exact hi.same (respond_same ..)
  all_goals
    have hw := blockWritten_inv (guard := x.2.guard) (by omega) (by omega) h3 hi
    unfold blockWritten at hw
    simp only [*, if_true] at hw
    exact hw.same (respond_same ..)

/-! ### A slot entry (R13, R18) -/

/-- Two predicates that differ at one member of a list at most. -/
theorem length_filter_of_one {α : Type} [DecidableEq α] {l : List α} (hl : l.Nodup) {a : α} (ha : a ∈ l)
    {p q : α → Bool}
    (h : ∀ b ∈ l, b ≠ a → p b = q b) :
    (l.filter p).length + (if q a = true then 1 else 0) = (l.filter q).length + (if p a = true then 1 else 0) := by
  have hperm := List.perm_cons_erase ha
  have hc : (l.erase a).filter p = (l.erase a).filter q := List.filter_congr fun b hb =>
    h b (List.mem_of_mem_erase hb) ((List.Nodup.mem_erase_iff hl).1 hb).1
  rw [(hperm.filter p).length_eq, (hperm.filter q).length_eq, List.filter_cons, List.filter_cons, hc]
  split_ifs <;> simp

/-- What an accepted slot entry write leaves. -/
theorem setKind_slotKind (hl : Law10 s) {f n : Nat} (hf : f ≤ 11) (hn : n ≤ 383)
    (hp : (s.block f (n / 16)).present = true) (k : EntryKind) {g m : Nat} (hg : g ≤ 11) (hm : m ≤ 383) :
    slotKind (setKind f n k s) g m = if g = f ∧ m = n then some k else slotKind s g m := by
  have ho := setKind_entriesOnly f n k s
  rw [slotKind_eq, slotKind_eq, ho.slotKey, ho.block, setKind_entries hp]
  change (if _ then some (if slotKey s g m = slotKey s f n then _ else _ : SlotEntry).kind else none) = _
  by_cases hgm : g = f ∧ m = n
  · obtain ⟨rfl, rfl⟩ := hgm
    simp [hp]
  · by_cases hgp : (s.block g (m / 16)).present = true
    · simp only [hgm, hgp, if_true, if_false]
      rw [if_neg fun e => hgm (slotKey_inj hl hg hf hm hn hgp hp e)]
    · simp [hgm, hgp]

/-- R12, R13: a FREE, FOREIGN or BARRED entry becomes another of these, and its face's live slot count follows. -/
theorem slotWritten_inv {f n : Nat} {was k : EntryKind} (hf : f ≤ 11) (hn : n ≤ 383)
    (hwas : slotKind s f n = some was) (hheld : was.held = false) (hkheld : k.held = false) (hi : Inv full s) :
    Inv full (writeLive f was k (setKind f n k s)) := by
  have hp := (slotKind_of_some hwas).1
  have ho := setKind_entriesOnly f n k s
  have hk {g m : Nat} (hg : g ≤ 11) (hm : m ≤ 383) := setKind_slotKind hi.1 hf hn hp k hg hm
  have hd : SameDescriptors s (writeLive f was k (setKind f n k s)) :=
    ⟨by simp [writeLive], fun g => by rw [writeLive, liveChange_face, ho.face]⟩
  refine ⟨hd.law10 hi.1, fun hfull => ?_⟩
  obtain ⟨hw, hl, h9⟩ := (spectrumLaws_iff s).1 (hi.2 hfull)
  refine (spectrumLaws_iff _).2 ⟨by rw [writeLive, liveChange_table, ho.table]; exact hw,
    hl.transfer (fun j => by rw [writeLive, liveChange_ctx, ho.ctx]) (fun j c hc => ?_) (fun g m j hg hm hj => ?_)
      (hd.law10 hi.1), fun g hg => ?_⟩
  · obtain ⟨-, -, -, -, -, hip, hep⟩ := hl.1 j c hc
    exact ⟨(hd.faces _).trans hip, (hd.faces _).trans hep⟩
  · rw [writeLive, liveChange_slotKind, hk hg hm]
    split_ifs with e
    · obtain ⟨rfl, rfl⟩ := e
      rw [hwas]
      constructor <;> rintro e <;> obtain rfl := Option.some.inj e <;> simp_all
    · rfl
  · have hlive : ((setKind f n k s).face g).live = (s.face g).live := by rw [ho.face]
    have hc : countedSlots (writeLive f was k (setKind f n k s)) g = countedSlots s g := by
      rw [countedSlots_eq, writeLive, liveChange_table, ho.table]; rfl
    have hfor (m : Nat) (hm : m ∈ List.range 384) : slotKind (writeLive f was k (setKind f n k s)) g m =
        if g = f ∧ m = n then some k else slotKind s g m := by
      have := List.mem_range.1 hm
      rw [writeLive, liveChange_slotKind, hk hg (by omega)]
    have h9 := h9 g hg
    by_cases hgf : g = f
    · subst hgf
      have hone := length_filter_of_one (l := List.range 384) List.nodup_range (a := n) (List.mem_range.2 (by omega))
        (p := fun m => decide (slotKind (writeLive g was k (setKind g n k s)) g m = some .foreign))
        (q := fun m => decide (slotKind s g m = some .foreign))
        (fun m hm hne => by rw [hfor m hm, if_neg fun e => hne e.2])
      rw [hfor n (List.mem_range.2 (by omega)), hwas] at hone
      change foreignSlots _ g + _ = foreignSlots s g + _ at hone
      simp only [and_self, if_true, Option.some.injEq, decide_eq_true_eq] at hone
      rw [hc]
      simp only [writeLive, liveChange_face, hlive, h9] at hone ⊢
      by_cases h1 : was = .foreign <;> by_cases h2 : k = .foreign <;> simp [h1, h2] at hone ⊢ <;> omega
    · have : foreignSlots (writeLive f was k (setKind f n k s)) g = foreignSlots s g :=
        congrArg List.length (List.filter_congr fun m hm => by rw [hfor m hm, if_neg fun e => hgf e.1])
      rw [hc, this, ← h9, writeLive, liveChange_face, hlive]
      simp [hgf]

/-- R14: the entry governing a slot, and its kind. -/
theorem slotAt_eq_some {f n : Nat} {e : SlotEntry} (h : slotAt s f n = some e) : slotKind s f n = some e.kind := by
  unfold slotAt at h
  unfold slotKind
  obtain ⟨k, hk, rfl⟩ := Option.map_eq_some_iff.1 h
  rw [hk]; rfl

theorem writtenKind_held {code : Nat} {k : EntryKind} (h : writtenKind code = some k) : k.held = false := by
  unfold writtenKind at h
  split at h <;> simp at h <;> subst h <;> rfl

theorem writeSlot_inv {h : Hdr} {x : (Nat × Nat) × Nat} (hi : Inv full s) : Inv full (writeSlot h x s) := by
  unfold writeSlot
  dsimp only
  split_ifs with h1
  · exact hi.same (respond_same ..)
  split
  · exact hi.same (respond_same ..)
  rename_i k hk
  split
  · exact hi.same (respond_same ..)
  rename_i e he
  split
  · exact hi.same (respond_same ..)
  · exact hi.same (respond_same ..)
  · rename_i hno hni
    refine Inv.same ?_ (respond_same ..)
    refine slotWritten_inv (by omega) (by omega) (slotAt_eq_some he) ?_ (writtenKind_held hk) hi
    cases hkind : e.kind <;> simp_all [EntryKind.held]

theorem flagsClear_same (h : Hdr) (x : Nat × Nat) (s : State) : SameSpectrum s (flagsClear h x s) := by
  unfold flagsClear
  dsimp only
  refine .ite (respond_same ..) (.ite (.after (respond_same ..) ?_)
    (.after (respond_same ..) (clearBlockFlags_same ..)))
  exact .after (.foldl (fun _ _ => clearBlockFlags_same ..) _ _) (.modFace ⟨rfl, rfl⟩)

/-! ## Admission (R7, R9, R55) -/

/-- A walk that finds its slot neither absent nor busy has found it FREE on its own face: what a link leads to is
OWNED (Laws 1 and 2). -/
theorem LayoutLaws.free_of_walk (hl : LayoutLaws s) {f n : Nat} (hf : f ≤ 11) (hn : n ≤ 383)
    (ha : (walk s f n).1.absent = false) (hb : (walk s f n).1.busy = false) :
    (s.face f).present = true ∧ slotKind s f n = some .free := by
  obtain ⟨hface, hblock, hdirect, hlink⟩ := walk_returns s f n
  cases hfp : (s.face f).present
  · rw [hface hfp] at ha; cases ha
  cases hbp : (s.block f (n / 16)).present
  · rw [hblock hfp hbp] at ha; cases ha
  refine ⟨rfl, ?_⟩
  have hkind : slotKind s f n = some (s.entry (s.block f (n / 16)).page (n % 16)).kind := by
    rw [slotKind_eq, if_pos hbp]; rfl
  by_cases hk : ∃ g m, (s.entry (s.block f (n / 16)).page (n % 16)).kind = .indirect g m
  · obtain ⟨g, m, hk⟩ := hk
    obtain ⟨hp, ⟨h1, -⟩, ⟨-, h2⟩, -⟩ := hl
    obtain ⟨rfl, h, c, hc, -, rfl, hcn⟩ := h2 f n g m hf hn (hkind.trans (by rw [hk]))
    obtain ⟨hgp, hgk⟩ := slotKind_of_some (h1 h c m hc hcn)
    obtain ⟨-, -, -, -, -, -, hep⟩ := hp h c hc
    rw [(hlink _ _ hfp hbp hk).2.2 hep hgp, entry_eq_slotKey, hgk] at hb
    cases hb
  · rw [hdirect hfp hbp fun g m e => hk ⟨g, m, e⟩] at hb
    rw [hkind]
    generalize (s.entry (s.block f (n / 16)).page (n % 16)).kind = k at hb ⊢
    cases k <;> simp_all [WalkResult.busy]

theorem judgeWalks_eq_none {c : OriginClass} {l : List WalkResult} (h : judgeWalks c l = none) :
    ∀ w ∈ l, w.absent = false ∧ w.busy = false := by
  unfold judgeWalks at h
  split_ifs at h with h1 h2 h3 h4
  simp only [List.any_eq_true, not_exists, not_and, Bool.not_eq_true] at h1 h4
  exact fun w hw => ⟨h1 w hw, h4 w hw⟩

/-- R7: a span that passes is FREE on both faces. -/
theorem LayoutLaws.spanFree (hl : LayoutLaws s) {ing eg first count : Nat} {c : OriginClass} (hing : ing ≤ 11)
    (heg : eg ≤ 11) (hne : ing ≠ eg) (hcount : 1 ≤ count) (hfit : first + count ≤ 384)
    (hj : (judgeSpan ing eg first count c s).1 = none) : SpanFree ing eg first count s := by
  have hw := judgeWalks_eq_none hj
  have free {f n : Nat} (hf : f = eg ∨ f = ing) (hn : n ∈ spanSlots first count) :
      (s.face f).present = true ∧ slotKind s f n = some .free := by
    have hn' := (mem_spanSlots.1 hn).2
    have hm : (walk s f n).1 ∈ (admitWalks s ing eg first count).map (·.1) := by
      refine List.mem_map_of_mem (List.mem_append.2 ?_)
      rcases hf with rfl | rfl
      exacts [Or.inl (List.mem_map_of_mem hn), Or.inr (List.mem_map_of_mem hn)]
    exact hl.free_of_walk (by rcases hf with rfl | rfl <;> assumption) (by omega) (hw _ hm).1 (hw _ hm).2
  have hfirst : first ∈ spanSlots first count := mem_spanSlots.2 ⟨le_rfl, by omega⟩
  exact ⟨hing, heg, hne, hcount, hfit, ⟨(free (Or.inr rfl) hfirst).1, (free (Or.inl rfl) hfirst).1⟩,
    fun n hn => ⟨(free (Or.inl rfl) hn).2, (free (Or.inr rfl) hn).2⟩⟩

theorem SpanFree.same {ing eg first count : Nat} (h : SpanFree ing eg first count s) (k : SameSpectrum s t) :
    SpanFree ing eg first count t :=
  ⟨h.ing_le, h.eg_le, h.ne, h.nonempty, h.fits, by rw [(k.faces _).1, (k.faces _).1]; exact h.present,
    fun n hn => by rw [k.layout.slotKind, k.layout.slotKind]; exact h.free n hn⟩

theorem judgeSpan_same (ing eg first count : Nat) (c : OriginClass) (s : State) :
    SameSpectrum s (judgeSpan ing eg first count c s).2 := setMarks_same ..

theorem lowestFree_ctx {n : Nat} (h : lowestFree s = some n) : s.ctx n = none := by
  have := List.find?_some h
  simpa using this

theorem spanValid_iff (first count : Nat) :
    spanValid first count = true ↔ 1 ≤ count ∧ count ≤ 16 ∧ first ≤ 383 ∧ first + count ≤ 384 := by
  simp [spanValid, and_assoc]

/-- The faces and the span that a request gives a new record (R41, R51, R52). -/
structure PathFits (ing eg first count : Nat) : Prop where
  ing_le : ing ≤ 11
  eg_le  : eg ≤ 11
  ne     : ing ≠ eg
  span   : spanValid first count = true

/-- R9, R23: what makes a record of a span that passes. -/
theorem made_inv {ing eg first count n : Nat} {cls : OriginClass} (hi : Inv full s) (hp : PathFits ing eg first count)
    (hj : (judgeSpan ing eg first count cls s).1 = none) (hn : lowestFree s = some n) :
    Inv full (judgeSpan ing eg first count cls s).2 ∧
    (full → (judgeSpan ing eg first count cls s).2.ctx n = none ∧
      SpanFree ing eg first count (judgeSpan ing eg first count cls s).2) := by
  have hs := judgeSpan_same ing eg first count cls s
  refine ⟨hi.same hs, fun hf => ⟨?_, SpanFree.same ?_ hs⟩⟩
  · rw [(judgeSpan_dirOnly ..).ctx]; exact lowestFree_ctx hn
  · obtain ⟨-, hl, -⟩ := (spectrumLaws_iff s).1 (hi.2 hf)
    obtain ⟨h1, -, -, h2⟩ := (spanValid_iff _ _).1 hp.span
    exact hl.spanFree hp.ing_le hp.eg_le hp.ne h1 h2 hj

theorem admission_inv {role : Role} {ing eg hopIndex : Nat} {b : SetupBody} (hi : Inv full s)
    (hp : PathFits ing eg b.first b.count) : Inv full (admission role ing eg hopIndex b s).2 := by
  have hj := hi.same (judgeSpan_same ing eg b.first b.count b.cls s)
  unfold admission
  dsimp only
  split
  · exact hj
  · exact hj
  · exact hj
  · exact hj
  · rename_i n _ hjn _ hn
    refine Inv.same ?_ (.of_eq rfl rfl)
    obtain ⟨hi', hfree⟩ := made_inv hi hp hjn hn
    exact reserved_inv (c := newContext s role ing eg b hopIndex) hi' hfree

theorem adoptAt_inv {n : Nat} {b : AdoptBody} (hi : Inv full s)
    (hfree : full → s.ctx n = none ∧ SpanFree b.ingress b.egress b.first b.count s) : Inv full (adoptAt n b s) :=
  reserved_inv (c := adoptedContext s b) hi hfree

end Sys2Proof.Machine
end

section
/-! SUPPORT. Laws 1, 2, 9 and 10 under every command; the obligation on what every step keeps of them. -/
namespace Sys2Proof.Machine

variable {full : Prop} {s : State}

/-! ## Path setup -/

/-- R51, R52: the faces and the span of the hop that a SETUP from a line port gives this node. -/
theorem pathFits_of_hopRole {port : Nat} {b : SetupBody} {e : Hop} {role : Role} (hp : port ≤ 7)
    (h : hopRole s port b e = .ok role) : PathFits e.ingress e.egress b.first b.count := by
  unfold hopRole at h
  dsimp only at h
  split_ifs at h with hmis hcur hfit hfit
  all_goals
    simp only [not_or, not_not] at hmis
    simp only [Bool.and_eq_true, decide_eq_true_eq] at hfit
    exact ⟨by omega, by omega, by omega, hfit.2⟩

theorem refuseSetup_same (h : Hdr) (id : Nat) (r : Reason) (s : State) : SameSpectrum s (refuseSetup h id r s) :=
  .of_eq rfl rfl

theorem takeSetup_inv {h : Hdr} {b : SetupBody} (hp : h.port.val ≤ 7) (hi : Inv full s) :
    Inv full (takeSetup h b s) := by
  unfold takeSetup
  split
  · exact hi.same (malformed_same ..)
  split
  · exact hi.same (refuseSetup_same ..)
  · rename_i role hrole
    have hadm : Inv full (admission role _ _ b.cursor b s).2 := admission_inv hi (pathFits_of_hopRole hp hrole)
    split
    · rename_i heq
      rw [heq] at hadm
      exact hadm.same (refuseSetup_same ..)
    · rename_i heq
      rw [heq] at hadm
      split
      · exact hadm.same (sendOn_same ..)
      · exact hadm.same (relay_same ..)

theorem onSetup_inv {h : Hdr} {body : List Byte} (hi : Inv full s) : Inv full (onSetup h body s) :=
  receive_inv hi fun _ ht => commissioning_inv ht fun _ _ _ h8 hu => takeSetup_inv (by omega) hu

theorem takeSetupAck_inv {h : Hdr} {body : List Byte} {id : Nat} (hi : Inv full s) :
    Inv full (takeSetupAck h body id s) := by
  unfold takeSetupAck
  split
  · exact hi.same (stray_same ..)
  rename_i n c hl
  have hacked : SameSpectrum s (s.modCtx n fun c => { c with setupAcked := true }) := .modCtx fun _ => rfl
  split_ifs
  · dsimp only
    split
    · exact beginProbe_inv (hi.same hacked) ((findLp_held hi hl).same hacked)
    · exact hi.same (.after (relay_same ..) hacked)
    · exact hi.same (stray_same ..)
  · exact hi.same (stray_same ..)

theorem takeSetupReject_inv {h : Hdr} {body : List Byte} {x : Nat × Reason × Nat} (hi : Inv full s) :
    Inv full (takeSetupReject h body x s) := by
  unfold takeSetupReject
  split
  · exact hi.same (stray_same ..)
  rename_i n c hl
  have hfreed := freeRecord_inv hi (findLp_held hi hl)
  split_ifs
  · split
    · exact hfreed.same (tellEvent_same ..)
    · exact hfreed.same (relay_same ..)
    · exact hi.same (stray_same ..)
  · exact hi.same (stray_same ..)

/-! ## The probe phase -/

theorem takeProbeFrame_inv {h : Hdr} {body : List Byte} {x : Nat × Nat} (hi : Inv full s) :
    Inv full (takeProbeFrame h body x s) := by
  unfold takeProbeFrame
  split
  · exact hi.same (stray_same ..)
  rename_i hl
  split_ifs
  · split
    · exact takeProbe_inv hi (findLp_held hi hl)
    · exact takeProbe_inv hi (findLp_held hi hl)
    · exact hi.same (answerArmed_same ..)
    · exact hi.same (stray_same ..)
  · exact hi.same (stray_same ..)

theorem takeProbeAck_inv {h : Hdr} {body : List Byte} {x : Nat × Nat × Bool} (hi : Inv full s) :
    Inv full (takeProbeAck h body x s) := by
  unfold takeProbeAck
  split
  · exact hi.same (stray_same ..)
  rename_i hl
  have hc := findLp_held hi hl
  split
  · split
    · exact closeHead_inv hi hc
    · exact armHead_inv hi hc
    · split
      exacts [(closeMaint_inv hi hc).same (relay_same ..), hi.same (stray_same ..)]
    · split
      exacts [(changeState_inv hi hc (st := .armed)).same (relay_same ..), hi.same (stray_same ..)]
    · exact hi.same (stray_same ..)
    · exact hi.same (relay_same ..)
    · exact hi.same (stray_same ..)
  · exact hi.same (stray_same ..)

theorem takeProbeNak_inv {h : Hdr} {body : List Byte} {x : Nat × Nat × Nat} (hi : Inv full s) :
    Inv full (takeProbeNak h body x s) := by
  unfold takeProbeNak
  split
  · exact hi.same (stray_same ..)
  rename_i hl
  split
  · split
    · exact hi.same (relay_same ..)
    · split
      exacts [stepLadder_inv hi (findLp_held hi hl), hi.same (stray_same ..)]
    · exact hi.same (stray_same ..)
  · exact hi.same (stray_same ..)

theorem probeDwellExpired_inv {n i : Nat} (hi : Inv full s) : Inv full (probeDwellExpired n i s) := by
  unfold probeDwellExpired
  split
  · exact hi
  · rename_i hcur
    split_ifs
    exacts [stepLadder_inv hi (.of_current hcur), hi]

theorem probeWindowExpired_same (n i : Nat) (s : State) : SameSpectrum s (probeWindowExpired n i s) := by
  unfold probeWindowExpired
  split
  · exact .refl s
  · exact .ite (.after (sendOn_same ..) (.modCtx fun _ => rfl)) (.refl s)

/-! ## Service, withdrawal and faults -/

theorem takeAdvance_same (h : Hdr) (x : Nat × List HopReport) (s : State) : SameSpectrum s (takeAdvance h x s) := by
  unfold takeAdvance
  split
  · exact stray_same ..
  · exact .ite (.after (joinRamp_same ..) (.modCtx fun _ => rfl)) (stray_same ..)

theorem takeReady_inv {h : Hdr} {body : List Byte} {x : Nat × List HopReport} (hi : Inv full s) :
    Inv full (takeReady h body x s) := by
  unfold takeReady
  split
  · exact hi.same (stray_same ..)
  rename_i hl
  have hserved := changeState_inv hi (findLp_held hi hl) (st := .inService)
  split_ifs
  · split
    · exact hserved.same (relay_same ..)
    · exact hserved.same (.after (tellEvent_same ..) (.modCtx fun _ => rfl))
    · exact hi.same (stray_same ..)
  · exact hi.same (stray_same ..)

theorem teardownRecord_inv {n : Nat} {c : Context} (hi : Inv full s) (hc : Held full n c s) :
    Inv full (teardownRecord n c s) :=
  freeRecord_inv (hi.same (askWss_same ..)) (hc.same (askWss_same ..))

theorem passTeardown_same (h : Hdr) (b : TeardownBody) (e : Hop) (rec : Option Nat) (s : State) :
    SameSpectrum s (passTeardown h b e rec s) := by
  unfold passTeardown
  split_ifs
  · split
    exacts [stray_same .., relay_same ..]
  · split
    exacts [event_same .., tellEvent_same ..]

theorem takeTeardown_inv {h : Hdr} {b : TeardownBody} (hi : Inv full s) : Inv full (takeTeardown h b s) := by
  unfold takeTeardown
  split
  · exact hi.same (malformed_same ..)
  split_ifs
  · exact hi.same (stray_same ..)
  split
  · exact hi.same (passTeardown_same ..)
  · rename_i hl
    split_ifs
    · exact hi.same (stray_same ..)
    · exact (teardownRecord_inv hi (findLp_held hi hl)).same (passTeardown_same ..)

theorem deadlineExpired_inv {n i : Nat} (hi : Inv full s) : Inv full (deadlineExpired n i s) := by
  unfold deadlineExpired
  split
  · exact hi
  rename_i hcur
  have hc : Held full n _ s := .of_current hcur
  split_ifs
  · split
    · exact localFault_inv hi hc
    · exact localFault_inv hi hc
    · exact localFault_inv hi hc
    · exact localFault_inv hi hc
    · exact freeRecord_inv hi hc
    · exact hi
  · exact hi

theorem stepDwellExpired_same (n i : Nat) (s : State) : SameSpectrum s (stepDwellExpired n i s) := by
  unfold stepDwellExpired
  split
  · exact .refl s
  · refine .ite ?_ (.refl s)
    dsimp only
    split
    · exact .after (startStep_same ..) (.modCtx fun _ => rfl)
    · exact .after (withdrawStep_same ..) (.modCtx fun _ => rfl)
    · exact .refl s

theorem auditExpired_same (f : Nat) (s : State) : SameSpectrum s (auditExpired f s) :=
  .ite (.ite (.of_eq rfl rfl) (.after (judgeAudit_same ..) (.of_eq rfl rfl))) (.refl s)

/-! ## Ports and the element bus -/

/-- The laws hold over empty tables (R2, R20). -/
theorem inv_of_empty (hd : s.dir = Directory.reset) (hr : s.table.recs = Tab.empty none) : Inv full s := by
  have hctx (h : Nat) : s.ctx h = none := by simp [State.ctx, hr]
  have hkind (f n : Nat) : slotKind s f n = none := by
    simp [slotKind_eq, State.block, hd, Directory.reset, BlockDesc.initial]
  have h10 : Law10 s := fun f b g c _ _ _ _ hp => by
    simp [State.block, hd, Directory.reset, BlockDesc.initial] at hp
  refine ⟨h10, fun _ => ⟨hr ▸ Tab.wf_empty, fun h c hc => ?_, ⟨fun h c n hc => ?_, fun f n h _ _ hk => ?_⟩,
    ⟨fun h c n hc => ?_, fun f n g m _ _ hk => ?_⟩, fun f _ => ?_, h10⟩⟩
  · simp [hctx] at hc
  · simp [hctx] at hc
  · simp [hkind] at hk
  · simp [hctx] at hc
  · simp [hkind] at hk
  · simp [State.face, hd, Directory.reset, FaceDesc.initial, foreignSlots, hkind, countedSlots, hr]
    simp [Tab.empty]

theorem powerOn_inv {straps : Nat} : Inv full (powerOn straps s) := by
  have lines {t : State} : SameSpectrum t ((List.range 8).foldl (fun t p => powerOnLine p t) t) :=
    .foldl (fun _ _ => powerOnLine_same ..) _ _
  unfold powerOn
  dsimp only
  split_ifs
  · exact ((inv_of_empty rfl rfl).same lines).same (localUp_same _)
  · exact (inv_of_empty rfl rfl).same lines

/-! ## Management -/

theorem onMgmt_inv {h : Hdr} {k : FrameKind} {body : List Byte} {own adj : State → State} (hi : Inv full s)
    (hown : ∀ t, Inv full t → Inv full (own t)) (hadj : ∀ t, Inv full t → Inv full (adj t)) :
    Inv full (onMgmt h k body own adj s) := by
  refine receive_inv hi fun t ht => ?_
  dsimp only
  split_ifs
  exacts [hown t ht, hadj t ht, ht.same (malformed_same ..), ht.same (forwardFrame_same ..)]

theorem onRequest_inv {α : Type} {h : Hdr} {code : Nat} {rest : List Byte} {parsed : Option α}
    {k : α → State → State} (hi : Inv full s) (hk : ∀ x t, Inv full t → Inv full (k x t)) :
    Inv full (onRequest h code rest parsed k s) := by
  have here (t : State) (ht : Inv full t) :
      Inv full (match parsed with | none => respond h code .badRequest [] t | some x => k x t) := by
    split
    exacts [ht.same (respond_same ..), hk _ t ht]
  exact onMgmt_inv hi here here

/-- A request that leaves all that the laws read as it was. -/
theorem onRequest_same {α : Type} {h : Hdr} {code : Nat} {rest : List Byte} {parsed : Option α}
    {k : α → State → State} (hi : Inv full s) (hk : ∀ x t, SameSpectrum t (k x t)) :
    Inv full (onRequest h code rest parsed k s) :=
  onRequest_inv hi fun x t ht => ht.same (hk x t)

theorem onReply_inv {h : Hdr} {k : FrameKind} {body : List Byte} (hi : Inv full s) : Inv full (onReply h k body s) :=
  onMgmt_inv hi (fun _ ht => ht.same (handFrame_same ..)) fun _ ht => ht.same (malformed_same ..)

theorem respondWrite_same (h : Hdr) (t : Nat) (ix : Nat × Nat) (st : Status) (r : List Byte) (s : State) :
    SameSpectrum s (respondWrite h t ix st r s) := respond_same ..

theorem writeSettings_same (h : Hdr) (x : (Nat × Nat) × SettingsWrite) (s : State) :
    SameSpectrum s (writeSettings h x s) := by
  have retimed (f old new : Nat) (t : State) : SameSpectrum t (retimeAudit f old new t) :=
    .ite (.refl t) (.ite (.of_eq rfl rfl) (.of_eq rfl rfl))
  exact .ite (respondWrite_same ..) (.ite (respondWrite_same ..) (.ite (respondWrite_same ..)
    (.after (respondWrite_same ..) (.after (retimed ..) (.of_eq rfl rfl)))))

theorem writeProfile_same (h : Hdr) (x : (Nat × Nat) × Profile) (s : State) : SameSpectrum s (writeProfile h x s) :=
  .ite (respondWrite_same ..) (.ite (respondWrite_same ..) (.ite (respondWrite_same ..)
    (.after (respondWrite_same ..) (.of_eq rfl rfl))))

theorem writeElement_same (h : Hdr) (x : (Nat × Nat) × ElementWrite) (s : State) :
    SameSpectrum s (writeElement h x s) := by
  refine .ite (respondWrite_same ..) ?_
  split
  · exact respondWrite_same ..
  · exact .ite (respondWrite_same ..) (.after (respondWrite_same ..) (modElem_same ..))

theorem writeRoute_same (h : Hdr) (x : (Nat × Nat) × Route) (s : State) : SameSpectrum s (writeRoute h x s) :=
  .ite (respondWrite_same ..) (.ite (respondWrite_same ..) (.after (respondWrite_same ..) (.of_eq rfl rfl)))

theorem writeNode_same (h : Hdr) (x : (Nat × Nat) × NodeWrite) (s : State) : SameSpectrum s (writeNode h x s) :=
  .ite (respondWrite_same ..) (.ite (respondWrite_same ..) (.after (respondWrite_same ..) (.of_eq rfl rfl)))

theorem pathFits_of_commissionHop {b : SetupBody} {e : Hop} (h : commissionHop b e = true) :
    PathFits e.ingress e.egress b.first b.count := by
  simp only [commissionHop, Bool.and_eq_true, decide_eq_true_eq] at h
  obtain ⟨⟨⟨h1, h2⟩, h3⟩, h4⟩ := h
  exact ⟨h2, by omega, by omega, h4⟩

theorem refuseCommission_same (h : Hdr) (r : Reason) (s : State) : SameSpectrum s (refuseCommission h r s) :=
  .of_eq rfl rfl

theorem commission_inv {h : Hdr} {b : SetupBody} (hi : Inv full s) : Inv full (commission h b s) := by
  unfold commission
  split_ifs
  · exact hi.same (respond_same ..)
  split
  · exact hi.same (refuseCommission_same ..)
  split_ifs with hhop
  · exact hi.same (refuseCommission_same ..)
  · rename_i e _
    have hadm : Inv full (admission .head e.ingress e.egress 0 b s).2 :=
      admission_inv hi (pathFits_of_commissionHop (by simpa using hhop))
    split <;> rename_i heq <;> rw [heq] at hadm
    · exact hadm.same (refuseCommission_same ..)
    · exact hadm.same (.after (sendOn_same ..) (respond_same ..))

theorem withdraw_inv {h : Hdr} {id : Nat} (hi : Inv full s) : Inv full (withdraw h id s) := by
  unfold withdraw
  split
  · exact hi.same (respond_same ..)
  rename_i n c hl
  have hc := findLp_held hi hl
  have hasked : SameSpectrum s (sendTeardown c (askSafety n c s)) := .after (sendOn_same ..) (askSafety_same ..)
  split
  · exact hi.same (respond_same ..)
  split
  · split
    · exact hi.same (respond_same ..)
    · exact (changeState_inv hi hc (st := .withdrawing)).same (.after (respond_same ..) (joinRamp_same ..))
  · exact hi.same (respond_same ..)
  · exact (freeRecord_inv (hi.same hasked) (hc.same hasked)).same (respond_same ..)

theorem pathFits_of_adoptFailure {b : AdoptBody} (h : adoptFailure s b = none) :
    PathFits b.ingress b.egress b.first b.count := by
  unfold adoptFailure at h
  split_ifs at h with _ _ hhop
  simp only [adoptHop, Bool.not_eq_true', Bool.not_eq_false, Bool.and_eq_true] at hhop
  obtain ⟨⟨⟨⟨hfaces, hspan⟩, -⟩, -⟩, -⟩ := hhop
  revert hfaces
  cases b.role <;> simp only [facesFit, Bool.and_eq_true, decide_eq_true_eq, bne_iff_ne] <;>
    exact fun hfaces => ⟨by omega, by omega, by omega, hspan⟩

theorem adopt_inv {h : Hdr} {b : AdoptBody} (hi : Inv full s) : Inv full (adopt h b s) := by
  have hj := hi.same (judgeSpan_same b.ingress b.egress b.first b.count b.cls s)
  unfold adopt
  split
  · exact hi.same (respond_same ..)
  rename_i hfits
  dsimp only
  split
  · exact hj.same (respond_same ..)
  · exact hj.same (respond_same ..)
  · rename_i hjn hn
    obtain ⟨hi', hfree⟩ := made_inv hi (pathFits_of_adoptFailure hfits) hjn hn
    split_ifs
    · exact hj.same (.of_eq rfl rfl)
    · exact (adoptAt_inv hi' hfree).same (respond_same ..)

theorem contextRead_same (h : Hdr) (id : Nat) (s : State) : SameSpectrum s (contextRead h id s) := by
  unfold contextRead
  split <;> exact respond_same ..

theorem contextList_same (h : Hdr) (start : Nat) (s : State) : SameSpectrum s (contextList h start s) :=
  .ite (respond_same ..) (respond_same ..)

theorem contextDiscard_inv {h : Hdr} {id : Nat} (hi : Inv full s) : Inv full (contextDiscard h id s) := by
  unfold contextDiscard
  split
  · exact hi.same (respond_same ..)
  · rename_i hl
    split
    · exact (freeRecord_inv hi (findLp_held hi hl)).same (respond_same ..)
    · exact (freeRecord_inv hi (findLp_held hi hl)).same (respond_same ..)
    · exact hi.same (respond_same ..)

theorem elementRead_same (h : Hdr) (x : Nat × Nat × Nat) (s : State) : SameSpectrum s (elementRead h x s) := by
  unfold elementRead
  split
  exacts [respond_same .., .of_eq rfl rfl]

theorem elementRevive_same (h : Hdr) (e : Nat) (s : State) : SameSpectrum s (elementRevive h e s) :=
  .ite (respond_same ..) (.after (respond_same ..) (modElem_same ..))

theorem capabilitySet_same (h : Hdr) (w : Overlay) (s : State) : SameSpectrum s (capabilitySet h w s) :=
  .ite (respond_same ..) (.of_eq rfl rfl)

theorem capabilityRestore_same (h : Hdr) (u : Unit) (s : State) : SameSpectrum s (capabilityRestore h u s) :=
  .ite (respond_same ..) (.of_eq rfl rfl)

theorem capabilityFreeze_same (h : Hdr) (u : Unit) (s : State) : SameSpectrum s (capabilityFreeze h u s) :=
  .ite (respond_same ..) (.of_eq rfl rfl)

theorem foldl_modPort (l : List Nat) (g : Port → Port) (s : State) :
    l.foldl (fun s p => s.modPort p g) s = { s with ports := l.foldl (fun t p => t.mod p g) s.ports } := by
  induction l generalizing s with
  | nil => rfl
  | cons p r ih => exact ih _

theorem foldl_modAudit (l : List Nat) (g : AuditFace → AuditFace) (s : State) :
    l.foldl (fun s f => s.modAudit f g) s = { s with audit := l.foldl (fun t f => t.mod f g) s.audit } := by
  induction l generalizing s with
  | nil => rfl
  | cons f r ih => exact ih _

theorem foldl_modElem (l : List Nat) (g : Element → Element) (s : State) :
    l.foldl (fun s e => s.modElem e g) s =
      { s with bus := { s.bus with elems := l.foldl (fun t e => t.mod e g) s.bus.elems } } := by
  induction l generalizing s with
  | nil => rfl
  | cons e r ih => exact ih _

/-- R180, R181: the counters are cleared table by table. -/
theorem clearCounters_eq (s : State) : clearCounters s =
    { s with
      ports := (List.range 9).foldl (fun t p => t.mod p fun x => { x with counters := PortCounters.zero }) s.ports
      audit := (List.range 12).foldl (fun t f => t.mod f fun a => { a with overruns := 0 }) s.audit
      bus := { s.bus with
        elems := (List.range 32).foldl (fun t e => t.mod e fun x => { x with failures := 0 }) s.bus.elems }
      stray := Tab.empty 0
      resp := { s.resp with counters := NodeCounters.zero } } := by
  simp only [clearCounters, foldl_modPort, foldl_modAudit, foldl_modElem]

theorem clearCounters_same (s : State) : SameSpectrum s (clearCounters s) := by
  rw [clearCounters_eq]
  exact .of_eq rfl rfl

theorem countersRead_same (h : Hdr) (clear : Bool) (s : State) : SameSpectrum s (countersRead h clear s) :=
  .after (respond_same ..) (.ite (clearCounters_same s) (.refl s))

theorem abortContext_inv {n : Nat} (hi : Inv full s) : Inv full (abortContext s n) := by
  unfold abortContext
  split
  · exact hi
  rename_i c hc
  split_ifs
  · have sent := sendFault_same c.upPort .upstream c .nodeReset s.switch.nodeId s
    dsimp only
    generalize sendFault c.upPort .upstream c .nodeReset s.switch.nodeId s = u at sent
    have hasked : SameSpectrum s (askSafety n c (sendFault c.downPort .downstream c .nodeReset u.switch.nodeId u)) :=
      .after (askSafety_same ..) (.after (sendFault_same ..) sent)
    exact freeRecord_inv (hi.same hasked) ((Held.of_some hc).same hasked)
  · exact hi

/-- R182, steps 1 to 3: the state in which the contexts are aborted. -/
def beforeAborts (s : State) : State :=
  let t := clearCounters (resetBus (flushPorts s))
  { t with table := { t.table with closings := [] } }

/-- R182, step 5, after the aborts. -/
def afterAborts (t : State) : State := { (List.range 12).foldl resetAudit (clearRamps t) with work := [] }

theorem nodeResetSteps_eq (s : State) :
    nodeResetSteps s = afterAborts ((handles (beforeAborts s)).foldl abortContext (beforeAborts s)) := rfl

/-- R143, R158, R180, R182: what NODE RESET leaves before the aborts, table by table. -/
theorem beforeAborts_eq (s : State) : beforeAborts s =
    { s with
      table := { s.table with closings := [] }
      ports := (List.range 9).foldl (fun t p => t.mod p fun x => { x with counters := PortCounters.zero })
        ((List.range 9).foldl (fun t p => t.mod p Port.flush) s.ports)
      audit := (List.range 12).foldl (fun t f => t.mod f fun a => { a with overruns := 0 }) s.audit
      bus := { s.bus with
        elems := (List.range 32).foldl (fun t e => t.mod e fun x => { x with failures := 0 })
          ((List.range 32).foldl (fun t e => t.mod e fun x => { x with health := .ok }) s.bus.elems)
        safetyQ := [], rampQ := [], auditQ := [], mgmtQ := [], rr := .mgmt
        onBus := s.bus.onBus.map fun b => { b with orphan := true } }
      stray := Tab.empty 0
      resp := { s.resp with counters := NodeCounters.zero } } := by
  simp only [beforeAborts, clearCounters_eq, resetBus, flushPorts, foldl_modPort, foldl_modElem]

theorem nodeResetSteps_inv (hi : Inv full s) : Inv full (nodeResetSteps s) := by
  have before : SameSpectrum s (beforeAborts s) := by
    rw [beforeAborts_eq]
    exact .of_eq rfl rfl
  have after (t : State) : SameSpectrum t (afterAborts t) := by
    have audits : SameSpectrum (clearRamps t) ((List.range 12).foldl resetAudit (clearRamps t)) :=
      .foldl (fun _ _ => modAudit_same ..) _ _
    have ramps : SameSpectrum t (clearRamps t) := .of_eq rfl rfl
    exact (ramps.trans audits).trans (.of_eq rfl rfl)
  rw [nodeResetSteps_eq]
  exact Inv.same (foldl_keeps (P := Inv full) (fun _ _ _ hu => abortContext_inv hu) (hi.same before)) (after _)

/-! ## Every command -/

/-- What a command answers keeps the invariant. -/
def Keeps (full : Prop) (o : Host.Outcome State Fault Refusal) : Prop := ∀ t, o = .next t → Inv full t

theorem Keeps.next {t : State} (h : Inv full t) : Keeps full (.next t) := fun _ e => by cases e; exact h

theorem Keeps.ite {p : Prop} [Decidable p] {a b : Host.Outcome State Fault Refusal} (ha : Keeps full a)
    (hb : Keeps full b) : Keeps full (if p then a else b) := by split_ifs <;> assumption

theorem execSignalPresent_keeps {p : Fin 8} (hi : Inv full s) : Keeps full (execSignalPresent p s) :=
  .ite (.next (hi.same (.of_eq rfl rfl))) (.next (hi.same (.of_eq rfl rfl)))

theorem execSignalLost_keeps {p : Fin 8} (hi : Inv full s) : Keeps full (execSignalLost p s) := by
  have hs : Inv full { s with pins := { s.pins with signal := s.pins.signal.set p false } } := hi.same (.of_eq rfl rfl)
  unfold execSignalLost
  dsimp only
  split
  · exact .next hs
  · exact .next (hs.same (modPort_same ..))
  · exact .next (endTake_inv (leaveUp_inv hs))

theorem execCarrierPresent_keeps (hi : Inv full s) : Keeps full (execCarrierPresent s) :=
  .ite (.next (hi.same (.after (localUp_same _) (.of_eq rfl rfl)))) (.next (hi.same (.of_eq rfl rfl)))

theorem execCarrierLost_keeps (hi : Inv full s) : Keeps full (execCarrierLost s) :=
  .ite (.next (leaveUp_inv (hi.same (.of_eq rfl rfl)))) (.next (hi.same (.of_eq rfl rfl)))

theorem execHelloTimerExpiry_keeps {p : Fin 8} (hi : Inv full s) : Keeps full (execHelloTimerExpiry p s) :=
  .ite (.next (hi.same (.of_eq rfl rfl))) (.next hi)

theorem execDeadTimerExpiry_keeps {p : Fin 8} (hi : Inv full s) : Keeps full (execDeadTimerExpiry p s) :=
  .ite (.next (endTake_inv (leaveUp_inv hi))) (.next hi)

theorem execTransmissionEnd_keeps {p : Fin 9} (hi : Inv full s) : Keeps full (execTransmissionEnd p s) := by
  unfold execTransmissionEnd
  split
  exacts [.next hi, .next (hi.same (modPort_same ..))]

theorem execSettlePeriodEnd_keeps {e : Fin 32} (hi : Inv full s) : Keeps full (execSettlePeriodEnd e s) :=
  .ite (.next (hi.same (.after (arbitrate_same ..) (modElem_same ..)))) (.next hi)

theorem execTurnaroundEnd_keeps (hi : Inv full s) : Keeps full (execTurnaroundEnd s) := by
  unfold execTurnaroundEnd
  split
  · split
    exacts [.next (hi.same (.of_eq rfl rfl)), .next hi]
  · exact .next hi

theorem execElementAnswer_keeps {txn : Nat} {a : Answer} (hi : Inv full s) :
    Keeps full (execElementAnswer txn a s) := by
  unfold execElementAnswer
  split
  · split
    · exact .ite (.next (endTake_inv (hi.same (endTxn_same ..)))) (.next hi)
    · exact .next hi
  · exact .next hi

theorem execResponseTimeout_keeps (hi : Inv full s) : Keeps full (execResponseTimeout s) := by
  unfold execResponseTimeout
  split
  · split
    · exact .ite (.next (endTake_inv (hi.same (endTxn_same ..)))) (.next hi)
    · exact .next hi
  · exact .next hi

section
variable {h : Hdr} {body params : List Byte}

theorem execHello_keeps (hi : Inv full s) : Keeps full (execHello h body s) :=
  .next (endTake_inv (receive_inv hi fun _ ht => takeHello_inv ht))

theorem execSetupAck_keeps (hi : Inv full s) : Keeps full (execSetupAck h body s) :=
  .next (endTake_inv (receive_inv hi fun _ ht => commissioning_inv ht fun _ _ _ _ hu => takeSetupAck_inv hu))

theorem execSetupReject_keeps (hi : Inv full s) : Keeps full (execSetupReject h body s) :=
  .next (endTake_inv (receive_inv hi fun _ ht => commissioning_inv ht fun _ _ _ _ hu => takeSetupReject_inv hu))

theorem execProbe_keeps (hi : Inv full s) : Keeps full (execProbe h body s) :=
  .next (endTake_inv (receive_inv hi fun _ ht => commissioning_inv ht fun _ _ _ _ hu => takeProbeFrame_inv hu))

theorem execProbeAck_keeps (hi : Inv full s) : Keeps full (execProbeAck h body s) :=
  .next (endTake_inv (receive_inv hi fun _ ht => commissioning_inv ht fun _ _ _ _ hu => takeProbeAck_inv hu))

theorem execProbeNak_keeps (hi : Inv full s) : Keeps full (execProbeNak h body s) :=
  .next (endTake_inv (receive_inv hi fun _ ht => commissioning_inv ht fun _ _ _ _ hu => takeProbeNak_inv hu))

theorem execAdvance_keeps (hi : Inv full s) : Keeps full (execAdvance h body s) :=
  .next (endTake_inv (receive_inv hi fun _ ht =>
    commissioning_inv ht fun _ _ _ _ hu => hu.same (takeAdvance_same ..)))

theorem execReady_keeps (hi : Inv full s) : Keeps full (execReady h body s) :=
  .next (endTake_inv (receive_inv hi fun _ ht => commissioning_inv ht fun _ _ _ _ hu => takeReady_inv hu))

theorem execFault_keeps (hi : Inv full s) : Keeps full (execFault h body s) :=
  .next (endTake_inv (receive_inv hi fun _ ht => commissioning_inv ht fun _ _ _ _ hu => takeFault_inv hu))

theorem execTeardown_keeps (hi : Inv full s) : Keeps full (execTeardown h body s) :=
  .next (endTake_inv (receive_inv hi fun _ ht => commissioning_inv ht fun _ _ _ _ hu => takeTeardown_inv hu))

theorem execFaceDescriptorWrite_keeps (hi : Inv full s) : Keeps full (execFaceDescriptorWrite h params s) :=
  .next (onRequest_inv hi fun _ _ ht => writeFace_inv ht)

theorem execBlockDescriptorWrite_keeps (hi : Inv full s) : Keeps full (execBlockDescriptorWrite h params s) :=
  .next (onRequest_inv hi fun _ _ ht => writeBlock_inv ht)

theorem execSlotEntryWrite_keeps (hi : Inv full s) : Keeps full (execSlotEntryWrite h params s) :=
  .next (onRequest_inv hi fun _ _ ht => writeSlot_inv ht)

theorem execFaceSettingsWrite_keeps (hi : Inv full s) : Keeps full (execFaceSettingsWrite h params s) :=
  .next (onRequest_same hi fun _ _ => writeSettings_same ..)

theorem execProfileWrite_keeps (hi : Inv full s) : Keeps full (execProfileWrite h params s) :=
  .next (onRequest_same hi fun _ _ => writeProfile_same ..)

theorem execElementWrite_keeps (hi : Inv full s) : Keeps full (execElementWrite h params s) :=
  .next (onRequest_same hi fun _ _ => writeElement_same ..)

theorem execRouteWrite_keeps (hi : Inv full s) : Keeps full (execRouteWrite h params s) :=
  .next (onRequest_same hi fun _ _ => writeRoute_same ..)

theorem execNodeSettingsWrite_keeps (hi : Inv full s) : Keeps full (execNodeSettingsWrite h params s) :=
  .next (onRequest_same hi fun _ _ => writeNode_same ..)

/-- R173: a TABLE WRITE by its table code. -/
theorem tableWriteAs_keeps (hi : Inv full s) : Keeps full (tableWriteAs h body s) := by
  have nothing {code : Nat} {rest : List Byte} : Keeps full
      (.next (onRequest h code rest (none : Option Unit) (fun _ s => s) s)) :=
    .next (onRequest_same hi fun _ t => .refl t)
  unfold tableWriteAs
  split
  · exact nothing
  split
  · exact execFaceDescriptorWrite_keeps hi
  · exact execBlockDescriptorWrite_keeps hi
  · exact execSlotEntryWrite_keeps hi
  · exact execFaceSettingsWrite_keeps hi
  · exact execProfileWrite_keeps hi
  · exact execElementWrite_keeps hi
  · exact execRouteWrite_keeps hi
  · exact execNodeSettingsWrite_keeps hi
  · exact nothing

theorem execTableRead_keeps (hi : Inv full s) : Keeps full (execTableRead h params s) :=
  .next (onRequest_same hi fun _ _ => respond_same ..)

theorem execFlagsClear_keeps (hi : Inv full s) : Keeps full (execFlagsClear h params s) :=
  .next (onRequest_same hi fun _ _ => flagsClear_same ..)

theorem execCommission_keeps (hi : Inv full s) : Keeps full (execCommission h params s) :=
  .next (onRequest_inv hi fun _ _ ht => commission_inv ht)

theorem execWithdraw_keeps (hi : Inv full s) : Keeps full (execWithdraw h params s) :=
  .next (endTake_inv (onRequest_inv hi fun _ _ ht => withdraw_inv ht))

theorem execAdopt_keeps (hi : Inv full s) : Keeps full (execAdopt h params s) :=
  .next (onRequest_inv hi fun _ _ ht => adopt_inv ht)

theorem execContextRead_keeps (hi : Inv full s) : Keeps full (execContextRead h params s) :=
  .next (onRequest_same hi fun _ _ => contextRead_same ..)

theorem execContextList_keeps (hi : Inv full s) : Keeps full (execContextList h params s) :=
  .next (onRequest_same hi fun _ _ => contextList_same ..)

theorem execContextDiscard_keeps (hi : Inv full s) : Keeps full (execContextDiscard h params s) :=
  .next (endTake_inv (onRequest_inv hi fun _ _ ht => contextDiscard_inv ht))

theorem execElementRead_keeps (hi : Inv full s) : Keeps full (execElementRead h params s) :=
  .next (endTake_inv (onRequest_same hi fun _ _ => elementRead_same ..))

theorem execElementRevive_keeps (hi : Inv full s) : Keeps full (execElementRevive h params s) :=
  .next (onRequest_same hi fun _ _ => elementRevive_same ..)

theorem execCapabilityIdentify_keeps (hi : Inv full s) : Keeps full (execCapabilityIdentify h params s) :=
  .next (onRequest_same hi fun _ _ => respond_same ..)

theorem execCapabilitySet_keeps (hi : Inv full s) : Keeps full (execCapabilitySet h params s) :=
  .next (onRequest_same hi fun _ _ => capabilitySet_same ..)

theorem execCapabilityRestore_keeps (hi : Inv full s) : Keeps full (execCapabilityRestore h params s) :=
  .next (onRequest_same hi fun _ _ => capabilityRestore_same ..)

theorem execCapabilityFreeze_keeps (hi : Inv full s) : Keeps full (execCapabilityFreeze h params s) :=
  .next (onRequest_same hi fun _ _ => capabilityFreeze_same ..)

theorem execCountersRead_keeps (hi : Inv full s) : Keeps full (execCountersRead h params s) :=
  .next (onRequest_same hi fun _ _ => countersRead_same ..)

theorem execNodeReset_keeps (hi : Inv full s) : Keeps full (execNodeReset h params s) :=
  .next (Inv.same (onRequest_inv hi fun _ _ ht => (nodeResetSteps_inv ht).same (respond_same ..))
    (arbitrate_same ..))

/-- R172: a MGMT-REQUEST by its request code. -/
theorem requestAs_keeps (hi : Inv full s) : Keeps full (requestAs h body s) := by
  have empty {t : State} (ht : Inv full t) : Inv full (emptyRequest h t) :=
    onMgmt_inv ht (fun _ hu => hu.same (.of_eq rfl rfl)) fun _ hu => hu.same (.of_eq rfl rfl)
  unfold requestAs
  split
  · exact .next (empty hi)
  split
  · exact execTableRead_keeps hi
  · exact tableWriteAs_keeps hi
  · exact execFlagsClear_keeps hi
  · exact execCommission_keeps hi
  · exact execWithdraw_keeps hi
  · exact execAdopt_keeps hi
  · exact execContextRead_keeps hi
  · exact execContextList_keeps hi
  · exact execContextDiscard_keeps hi
  · exact execElementRead_keeps hi
  · exact execElementRevive_keeps hi
  · exact execCapabilityIdentify_keeps hi
  · exact execCapabilitySet_keeps hi
  · exact execCapabilityRestore_keeps hi
  · exact execCapabilityFreeze_keeps hi
  · exact execCountersRead_keeps hi
  · exact execNodeReset_keeps hi
  · exact .next (onRequest_same hi fun _ t => .refl t)

theorem managementRequest_keeps (hi : Inv full s) : Keeps full (managementRequest h body s) :=
  .ite (requestAs_keeps hi) (.next (onMgmt_inv hi (fun _ ht => ht) fun _ ht => ht))

theorem execResponseEventDelivery_keeps {k : ReplyKind} (hi : Inv full s) :
    Keeps full (execResponseEventDelivery h k body s) := .next (onReply_inv hi)

theorem execForwarding_keeps {k : MgmtKind} (hi : Inv full s) : Keeps full (execForwarding h k body s) := by
  cases k
  exacts [managementRequest_keeps hi, .next (onReply_inv hi), .next (onReply_inv hi)]

end

/-- R166: a received frame, as the command of its kind. -/
theorem frameAs_keeps {p : Fin 9} {f : Frame} (hi : Inv full s) : Keeps full (frameAs p f s) := by
  unfold frameAs
  dsimp only
  split
  · exact execHello_keeps hi
  · exact .next (onSetup_inv hi)
  · exact execSetupAck_keeps hi
  · exact execSetupReject_keeps hi
  · exact execProbe_keeps hi
  · exact execProbeAck_keeps hi
  · exact execProbeNak_keeps hi
  · exact execAdvance_keeps hi
  · exact execReady_keeps hi
  · exact execFault_keeps hi
  · exact execTeardown_keeps hi
  · exact managementRequest_keeps hi
  · exact execResponseEventDelivery_keeps hi
  · exact execResponseEventDelivery_keeps hi

theorem execRxFrameRejected_keeps {p : Fin 9} {bytes : List Byte} (hi : Inv full s) :
    Keeps full (execRxFrameRejected p bytes s) := by
  unfold execRxFrameRejected
  split
  · exact .next (hi.same (.of_eq rfl rfl))
  · exact .next (hi.same (.of_eq rfl rfl))
  · exact frameAs_keeps hi

/-- The invariant under every command. -/
theorem exec_keeps (i : Instr) (hi : Inv full s) : Keeps full (exec i s) := by
  cases i with
  | powerOnReset => exact .next powerOn_inv
  | signalPresent => exact execSignalPresent_keeps hi
  | signalLost => exact execSignalLost_keeps hi
  | carrierPresent => exact execCarrierPresent_keeps hi
  | carrierLost => exact execCarrierLost_keeps hi
  | burstReport => exact .next (endTake_inv (takeBurst_inv hi))
  | rxFrameRejected => exact execRxFrameRejected_keeps hi
  | hello => exact execHello_keeps hi
  | setup => exact .next (onSetup_inv hi)
  | setupAck => exact execSetupAck_keeps hi
  | setupReject => exact execSetupReject_keeps hi
  | probe => exact execProbe_keeps hi
  | probeAck => exact execProbeAck_keeps hi
  | probeNak => exact execProbeNak_keeps hi
  | advance => exact execAdvance_keeps hi
  | ready => exact execReady_keeps hi
  | fault => exact execFault_keeps hi
  | teardown => exact execTeardown_keeps hi
  | forwarding => exact execForwarding_keeps hi
  | responseEventDelivery => exact execResponseEventDelivery_keeps hi
  | unknownRequestCode => exact requestAs_keeps hi
  | tableRead => exact execTableRead_keeps hi
  | faceDescriptorWrite => exact execFaceDescriptorWrite_keeps hi
  | blockDescriptorWrite => exact execBlockDescriptorWrite_keeps hi
  | slotEntryWrite => exact execSlotEntryWrite_keeps hi
  | faceSettingsWrite => exact execFaceSettingsWrite_keeps hi
  | profileWrite => exact execProfileWrite_keeps hi
  | elementWrite => exact execElementWrite_keeps hi
  | routeWrite => exact execRouteWrite_keeps hi
  | nodeSettingsWrite => exact execNodeSettingsWrite_keeps hi
  | flagsClear => exact execFlagsClear_keeps hi
  | commission => exact execCommission_keeps hi
  | withdraw => exact execWithdraw_keeps hi
  | adopt => exact execAdopt_keeps hi
  | contextRead => exact execContextRead_keeps hi
  | contextList => exact execContextList_keeps hi
  | contextDiscard => exact execContextDiscard_keeps hi
  | elementRead => exact execElementRead_keeps hi
  | elementRevive => exact execElementRevive_keeps hi
  | capabilityIdentify => exact execCapabilityIdentify_keeps hi
  | capabilitySet => exact execCapabilitySet_keeps hi
  | capabilityRestore => exact execCapabilityRestore_keeps hi
  | capabilityFreeze => exact execCapabilityFreeze_keeps hi
  | countersRead => exact execCountersRead_keeps hi
  | nodeReset => exact execNodeReset_keeps hi
  | helloTimerExpiry => exact execHelloTimerExpiry_keeps hi
  | deadTimerExpiry => exact execDeadTimerExpiry_keeps hi
  | deadlineExpiry => exact .next (endTake_inv (deadlineExpired_inv hi))
  | probeDwellExpiry => exact .next (endTake_inv (probeDwellExpired_inv hi))
  | probeWindowExpiry => exact .next (hi.same (probeWindowExpired_same ..))
  | stepDwellExpiry => exact .next (endTake_inv (hi.same (stepDwellExpired_same ..)))
  | auditTimerExpiry => exact .next (endTake_inv (hi.same (auditExpired_same ..)))
  | settlePeriodEnd => exact execSettlePeriodEnd_keeps hi
  | turnaroundEnd => exact execTurnaroundEnd_keeps hi
  | elementAnswer => exact execElementAnswer_keeps hi
  | responseTimeout => exact execResponseTimeout_keeps hi
  | transmissionEnd => exact execTransmissionEnd_keeps hi

/-- The invariant under every step: the command at the front of the queue, or the passing of a millisecond. -/
theorem step_keeps (hi : Inv full s) : Keeps full (step s) := by
  unfold step
  split
  · exact .next (hi.same (.of_eq rfl rfl))
  · exact exec_keeps _ (hi.same (.of_eq rfl rfl))

/-- Settles O18: Law 10 alone, and the four laws together, are kept by each operation that a step is made of. The
records' part needs Law 1 to Law 10 together: a reservation finds its span FREE since an entry behind a link is OWNED,
and a freeing ends what the record's own entries are. -/
theorem everyStepKeepsPagesApart : Obligations.EveryStepKeepsPagesApart := by
  refine ⟨fun s t hl hs => ?_, fun s t hl hs => ?_⟩
  · have hi : Inv False s := ⟨hl, False.elim⟩
    exact (step_keeps hi t hs).1
  · obtain ⟨-, -, -, -, -, h10⟩ := id hl
    have hi : Inv True s := ⟨h10, fun _ => hl⟩
    exact (step_keeps hi t hs).2 trivial

end Sys2Proof.Machine
end

section
/-! CERTIFICATE. What power-on reset leaves (O3). -/
namespace Sys2Proof.Machine

theorem reset_ctx (h : Nat) : State.reset.ctx h = none := rfl

theorem reset_queued : State.reset.bus.queued = [] := rfl

/-- R90: the power-on profile is within the ranges that a profile write keeps to. -/
theorem Profile.initial_inRange : Profile.initial.InRange := by unfold Profile.InRange; decide

theorem reset_canonical : Canonical State.reset :=
  ⟨Tab.wf_empty, Tab.wf_empty, Tab.wf_empty, Tab.wf_empty, Tab.wf_empty, Tab.wf_empty, Tab.wf_empty, Tab.wf_empty,
    Tab.wf_empty, Tab.wf_empty, Tab.wf_empty, Tab.wf_empty, Tab.wf_empty⟩

theorem reset_queuesSound : QueuesSound State.reset :=
  fun _ => ⟨Nat.zero_le _, Nat.zero_le _, fun _ => ⟨rfl, rfl⟩⟩

theorem reset_law12 : Law12 State.reset :=
  ⟨fun r hr => by simp [reset_queued] at hr, fun _ hb => (nomatch hb)⟩

theorem reset_law3 : Law3 State.reset := ⟨Tab.wf_empty, le_rfl, Nat.zero_le _⟩

theorem reset_law4 : Law4 State.reset :=
  ⟨Tab.wf_empty, fun _ _ _ h => (nomatch h), fun _ _ h => (nomatch h), fun _ => List.nodup_nil,
    fun _ _ h => (nomatch h)⟩

theorem reset_law8 : Law8 State.reset := ⟨Tab.wf_empty, fun _ _ _ _ h => (nomatch h)⟩

theorem reset_progressLaws : ProgressLaws State.reset :=
  ⟨rfl, Tab.wf_empty, fun _ => Profile.initial_inRange,
    fun r hr => by
      rcases hr with hr | ⟨_, hb, _⟩
      · simp [reset_queued] at hr
      · exact (nomatch hb),
    fun _ _ h => (nomatch h), fun _ _ h => (nomatch h), fun _ _ h => (nomatch h)⟩

/-- Laws 1, 2, 9 and 10 hold at reset, as they do over any empty tables. -/
theorem reset_spectrumLaws : SpectrumLaws State.reset := (inv_of_empty (full := True) rfl rfl).2 trivial

/-- Settles O3: every table is empty at reset and answers its power-on record at each index, so the defaults are what
the reset state evaluates to, and no law finds a record, request or queue entry to speak of. -/
theorem resetStateHoldsDefaultsAndLaws : Obligations.ResetStateHoldsDefaultsAndLaws := by
  refine ⟨?_, reset_canonical, reset_queuesSound, ⟨rfl, rfl, Or.inr rfl⟩, reset_law12, fun _ h => (nomatch h.1),
    reset_law3, reset_law4, reset_law8, reset_spectrumLaws, reset_progressLaws, fun h c hc => (nomatch hc)⟩
  exact ⟨fun _ => rfl, fun _ _ => rfl, fun _ _ => rfl, reset_ctx, rfl, rfl, fun _ => rfl, fun _ => rfl, fun _ => rfl,
    fun _ => rfl, fun _ => rfl, reset_queued, rfl, rfl, rfl, fun _ => rfl, fun _ => rfl, rfl, rfl, rfl, rfl,
    fun _ => rfl⟩

end Sys2Proof.Machine
end

section
/-! CERTIFICATE. TABLE READ and the records it answers (O48). -/
namespace Sys2Proof.Machine

/-! ## Numbers on the wire -/

theorem e8_toNat (b : Byte) : e8 b.toNat = [b] := by simp [e8]

/-- Bytes whose values agree modulo 256. -/
theorem byte_ofNat_eq {n : Nat} {b : Byte} (h : n % 256 = b.toNat) : BitVec.ofNat 8 n = b :=
  BitVec.eq_of_toNat_eq (by rw [toNat_ofNat8, h])

theorem e16_toNat (c d : Byte) : e16 (256 * c.toNat + d.toNat) = [c, d] := by
  have hc := c.isLt
  have hd := d.isLt
  rw [e16, byte_ofNat_eq (b := c) (by omega), byte_ofNat_eq (b := d) (by omega)]

/-- A two-byte number is the low 16 bits of what is written. -/
theorem e16_mod (n : Nat) : e16 (n % 65536) = e16 n := by
  have bytes {m k : Nat} (h : m % 256 = k % 256) : BitVec.ofNat 8 m = BitVec.ofNat 8 k :=
    byte_ofNat_eq (by rw [toNat_ofNat8, h])
  rw [e16, e16, bytes (show n % 65536 / 256 % 256 = n / 256 % 256 by omega),
    bytes (show n % 65536 % 256 = n % 256 by omega)]

theorem e32_toNat (a b c d : Byte) :
    e32 (16777216 * a.toNat + 65536 * b.toNat + 256 * c.toNat + d.toNat) = [a, b, c, d] := by
  have hc := c.isLt
  have hd := d.isLt
  have hlow : (16777216 * a.toNat + 65536 * b.toNat + 256 * c.toNat + d.toNat) % 65536 =
      256 * c.toNat + d.toNat := by omega
  have hhigh : (16777216 * a.toNat + 65536 * b.toNat + 256 * c.toNat + d.toNat) / 65536 =
      256 * a.toNat + b.toNat := by omega
  rw [e32, hhigh, ← e16_mod (_ + d.toNat), hlow, e16_toNat, e16_toNat]
  rfl

theorem s16_of_nonneg {n : Nat} (h : n < 32768) : s16 n = e16 n := by
  rw [s16, show ((n : Int) % 65536).toNat = n by omega]

theorem s16_of_neg {n : Nat} (h1 : 1 ≤ n) (h : n ≤ 32768) : s16 (-(n : Int)) = e16 (65536 - n) := by
  rw [s16, show (-(n : Int) % 65536).toNat = 65536 - n by omega]

/-! ## What a TABLE READ answers -/

section
variable {h : Hdr} {params : List Byte} {t m n : Nat} {s : State}

theorem exec_tableRead (hf : ForNode h s) (hp : parseTableRead params = some (t, m, n)) :
    exec (.tableRead h params) s = .next (tableRead h (t, m, n) (countRx h.port s)) := by
  change Host.Outcome.next (onTableRead h params s) = _
  rw [onTableRead, hp, onRequest_forNode hf]

theorem tableRead_of_ok {r : List Byte} (hr : readRecord s t (m, n) = (.ok, r)) :
    tableRead h (t, m, n) s = respond h reqTableRead .ok (e8 t ++ e8 m ++ e16 n ++ r) s := by
  simp [tableRead, hr, tableResult]

theorem tableRead_of_refused {st : Status} (hst : st ≠ .ok) (hr : readRecord s t (m, n) = (st, [])) :
    tableRead h (t, m, n) s = respond h reqTableRead st [] s := by
  simp [tableRead, hr, hst]

/-- The answer to a read within its table, when the record is laid out as `r`. -/
theorem exec_tableRead_of_ok {r record : List Byte} (hf : ForNode h s) (hp : parseTableRead params = some (t, m, n))
    (hr : readRecord (countRx h.port s) t (m, n) = (.ok, r)) (he : r = record) :
    exec (.tableRead h params) s =
      .next (respond h reqTableRead .ok (e8 t ++ e8 m ++ e16 n ++ record) (countRx h.port s)) := by
  rw [exec_tableRead hf hp, tableRead_of_ok hr, he]

theorem exec_tableRead_of_refused {st : Status} (hf : ForNode h s) (hp : parseTableRead params = some (t, m, n))
    (hst : st ≠ .ok) (hr : readRecord (countRx h.port s) t (m, n) = (st, [])) :
    exec (.tableRead h params) s = .next (respond h reqTableRead st [] (countRx h.port s)) := by
  rw [exec_tableRead hf hp, tableRead_of_refused hst hr]

/-! ### The record at an index, or the refusal -/

/-- A record at an index that is good, BAD_INDEX at any other. -/
def recordIf (p : Prop) [Decidable p] (r : List Byte) : Status × List Byte := if p then (.ok, r) else (.badIndex, [])

theorem readRecord_face : readRecord s 1 (m, n) = recordIf (m ≤ 11 ∧ n = 0) (s.face m).encode := by
  simp [readRecord, recordIf]

theorem readRecord_block : readRecord s 2 (m, n) = recordIf (m ≤ 11 ∧ n ≤ 23) (s.block m n).encode := by
  simp [readRecord, recordIf]

theorem readRecord_settings : readRecord s 4 (m, n) = recordIf (m ≤ 11 ∧ n = 0) (s.faceSet m).encode := by
  simp [readRecord, recordIf]

theorem readRecord_profile : readRecord s 5 (m, n) = recordIf (m ≤ 7 ∧ n = 0) (s.profile m).encode := by
  simp [readRecord, recordIf]

theorem readRecord_elem : readRecord s 6 (m, n) = recordIf (m ≤ 31 ∧ n = 0) (s.elem m).encode := by
  simp [readRecord, recordIf]

theorem readRecord_route : readRecord s 7 (m, n) = recordIf (m ≤ 31 ∧ n = 0) (s.switch.routes.get m).encode := by
  simp [readRecord, recordIf]

theorem readRecord_node :
    readRecord s 8 (m, n) = recordIf (m = 0 ∧ n = 0) (s.switch.settings.encode s.switch.nodeId) := by
  simp [readRecord, recordIf]

theorem readRecord_of_other (h : t = 0 ∨ 8 < t) : readRecord s t (m, n) = (.badRequest, []) := by
  unfold readRecord
  dsimp only
  split
  case h_9 => rfl
  all_goals omega

/-- R14: the entry governing a slot. -/
theorem slotAt_of_present {f n : Nat} (hp : (s.block f (n / 16)).present = true) :
    slotAt s f n = some (s.entry (s.block f (n / 16)).page (n % 16)) := by
  rw [slotAt, entryKey_of_present hp, Option.map_some, entry_eq_slotKey]

theorem slotAt_of_absent {f n : Nat} (hp : (s.block f (n / 16)).present = false) : slotAt s f n = none := by
  rw [slotAt, entryKey_of_absent hp, Option.map_none]

theorem readRecord_slot_of_present (hm : m ≤ 11) (hn : n ≤ 383) (hp : (s.block m (n / 16)).present = true) :
    readRecord s 3 (m, n) = (.ok, (s.entry (s.block m (n / 16)).page (n % 16)).encode) := by
  simp [readRecord, hm, hn, slotAt_of_present hp]

theorem readRecord_slot_of_absent (hm : m ≤ 11) (hn : n ≤ 383) (hp : (s.block m (n / 16)).present = false) :
    readRecord s 3 (m, n) = (.notFound, []) := by
  simp [readRecord, hm, hn, slotAt_of_absent hp]

theorem readRecord_slot_of_bad (hb : ¬(m ≤ 11 ∧ n ≤ 383)) : readRecord s 3 (m, n) = (.badIndex, []) := by
  have : ¬((decide (m ≤ 11) && decide (n ≤ 383)) = true) := by simpa using hb
  simp [readRecord, this]

theorem recordIf_pos {p : Prop} [Decidable p] {r : List Byte} (hp : p) : recordIf p r = (.ok, r) := if_pos hp

theorem recordIf_neg {p : Prop} [Decidable p] {r : List Byte} (hp : ¬p) : recordIf p r = (.badIndex, []) := if_neg hp
end

theorem optByte_eq_getD (x : Option Nat) : optByte x = x.getD 255 := by cases x <;> rfl

/-- Settles O48: the request for this node is carried out, the record read is the one of its table at its index or a
refusal, and each record's encoding is the layout of section 11.4; the numbers by their bytes' values. -/
theorem tableReadReturnsRecord : Obligations.TableReadReturnsRecord := by
  refine ⟨fun h params t m n s hf hp => ?_, fun a b c d => ⟨e8_toNat d, e16_toNat c d, e32_toNat a b c d⟩,
    fun _ => s16_of_nonneg, fun _ => s16_of_neg⟩
  have ok {r record : List Byte} (hr : readRecord (countRx h.port s) t (m, n) = (.ok, r)) (he : r = record) :=
    exec_tableRead_of_ok hf hp hr he
  have refused {st : Status} (hst : st ≠ .ok) (hr : readRecord (countRx h.port s) t (m, n) = (st, [])) :=
    exec_tableRead_of_refused hf hp hst hr
  refine ⟨?_, ?_, ?_, ?_, ?_, ?_, ?_, ?_, ?_, ?_, ?_, ?_, ?_, ?_, ?_, ?_, ?_, ?_⟩
  · rintro rfl hm hn
    exact ok (readRecord_face.trans (recordIf_pos ⟨hm, hn⟩)) rfl
  · rintro rfl hb
    exact refused (by decide) (readRecord_face.trans (recordIf_neg hb))
  · rintro rfl hm hn
    exact ok (readRecord_block.trans (recordIf_pos ⟨hm, hn⟩)) rfl
  · rintro rfl hb
    exact refused (by decide) (readRecord_block.trans (recordIf_neg hb))
  · rintro rfl hm hn hpr
    refine ok (readRecord_slot_of_present hm hn hpr) ?_
    change (s.entry (s.block m (n / 16)).page (n % 16)).encode = _
    generalize s.entry (s.block m (n / 16)).page (n % 16) = x
    obtain ⟨kind, -, -⟩ := x
    cases kind <;> rfl
  · rintro rfl hm hn hpr
    exact refused (by decide) (readRecord_slot_of_absent hm hn hpr)
  · rintro rfl hb
    exact refused (by decide) (readRecord_slot_of_bad hb)
  · rintro rfl hm hn
    refine ok (readRecord_settings.trans (recordIf_pos ⟨hm, hn⟩)) ?_
    rw [FaceSettings.encode, optByte_eq_getD, optByte_eq_getD]
    rfl
  · rintro rfl hb
    exact refused (by decide) (readRecord_settings.trans (recordIf_neg hb))
  · rintro rfl hm hn
    exact ok (readRecord_profile.trans (recordIf_pos ⟨hm, hn⟩)) rfl
  · rintro rfl hb
    exact refused (by decide) (readRecord_profile.trans (recordIf_neg hb))
  · rintro rfl hm hn
    refine ok (readRecord_elem.trans (recordIf_pos ⟨hm, hn⟩)) ?_
    change (s.elem m).encode = _
    generalize s.elem m = x
    obtain ⟨role, -, -, health, -, -⟩ := x
    cases role <;> cases health <;> rfl
  · rintro rfl hb
    exact refused (by decide) (readRecord_elem.trans (recordIf_neg hb))
  · rintro rfl hm hn
    exact ok (readRecord_route.trans (recordIf_pos ⟨hm, hn⟩)) rfl
  · rintro rfl hb
    exact refused (by decide) (readRecord_route.trans (recordIf_neg hb))
  · rintro rfl hm hn
    refine ok (readRecord_node.trans (recordIf_pos ⟨hm, hn⟩)) ?_
    rw [NodeSettings.encode, optByte_eq_getD]
    rfl
  · rintro rfl hb
    exact refused (by decide) (readRecord_node.trans (recordIf_neg hb))
  · intro ht
    exact refused (by decide) (readRecord_of_other ht)

end Sys2Proof.Machine
end

section
/-! CERTIFICATE. Writes of face and block descriptors (O49). -/
namespace Sys2Proof.Machine

theorem EntryKind.occupied_iff (k : EntryKind) :
    k.occupied = true ↔ k = .foreign ∨ (∃ o, k = .owned o) ∨ ∃ g m, k = .indirect g m := by
  cases k <;> simp [EntryKind.occupied]

/-- R15, R16: a page is occupied, kind by kind. -/
theorem pageOccupied_iff_kinds (s : State) (page : Nat) :
    pageOccupied s page = true ↔ ∃ i, i < 16 ∧ ((s.entry page i).kind = .foreign ∨
      (∃ o, (s.entry page i).kind = .owned o) ∨ ∃ g k, (s.entry page i).kind = .indirect g k) := by
  simp only [pageOccupied_iff, EntryKind.occupied_iff]

section
variable {h : Hdr} {params : List Byte} {f m : Nat} {s : State}

/-! ## The face descriptor (R15) -/

theorem exec_faceWrite {w : FaceWrite} (hf : ForNode h s) (hp : FaceWrite.parse params = some ((f, m), w)) :
    exec (.faceDescriptorWrite h params) s = .next (writeFace h ((f, m), w) (countRx h.port s)) := by
  change Host.Outcome.next (onFaceWrite h params s) = _
  rw [onFaceWrite, hp, onTableWrite_forNode hf]

/-- R15: a write would make a present face absent that is occupied. -/
def faceInUse (s : State) (f : Nat) (w : FaceWrite) : Bool := (s.face f).present && w.present == 0 && faceOccupied s f

theorem faceInUse_iff (s : State) (f : Nat) (w : FaceWrite) :
    faceInUse s f w = true ↔ (s.face f).present = true ∧ w.present = 0 ∧
      ∃ b, b < 24 ∧ (s.block f b).present = true ∧ pageOccupied s (s.block f b).page = true := by
  simp only [faceInUse, Bool.and_eq_true, beq_iff_eq, and_assoc, faceOccupied_iff]

/-- The face descriptor as written. -/
def FaceWrite.onto (w : FaceWrite) (x : FaceDesc) : FaceDesc :=
  { x with present := w.present == 1, guard := w.guard, mask := w.mask }

variable {w : FaceWrite}

theorem writeFace_of_badIndex (hb : ¬(f ≤ 11 ∧ m = 0)) :
    writeFace h ((f, m), w) s = respondWrite h tabFace (f, m) .badIndex [] s := by
  unfold writeFace
  exact if_pos (by dsimp only; omega)

section
variable (hf : f ≤ 11) (hm : m = 0)
include hf hm

theorem writeFace_of_badValue (hw : 1 < w.present) :
    writeFace h ((f, m), w) s = respondWrite h tabFace (f, m) .badValue (s.face f).encode s := by
  unfold writeFace
  dsimp only
  rw [if_neg (by omega), if_pos hw]

theorem writeFace_of_inUse (hw : w.present ≤ 1) (hu : faceInUse s f w = true) :
    writeFace h ((f, m), w) s = respondWrite h tabFace (f, m) .inUse (s.face f).encode s := by
  unfold writeFace
  dsimp only
  rw [if_neg (by omega), if_neg (by omega)]
  exact if_pos hu

theorem writeFace_of_accepted (hw : w.present ≤ 1) (hu : ¬faceInUse s f w = true) :
    writeFace h ((f, m), w) s =
      respondWrite h tabFace (f, m) .ok (w.onto (s.face f)).encode (s.modFace f fun _ => w.onto (s.face f)) := by
  have hface : ((s.modFace f fun _ => w.onto (s.face f)).face f) = w.onto (s.face f) := by simp
  unfold writeFace
  dsimp only
  rw [if_neg (by omega), if_neg (by omega)]
  refine (if_neg hu).trans ?_
  change respondWrite h tabFace (f, m) .ok ((s.modFace f fun _ => w.onto (s.face f)).face f).encode _ = _
  rw [hface]
  rfl
end

/-! ## The block descriptor (R16, R17) -/

theorem exec_blockWrite {w : BlockWrite} (hf : ForNode h s) (hp : BlockWrite.parse params = some ((f, m), w)) :
    exec (.blockDescriptorWrite h params) s = .next (writeBlock h ((f, m), w) (countRx h.port s)) := by
  change Host.Outcome.next (onBlockWrite h params s) = _
  rw [onBlockWrite, hp, onTableWrite_forNode hf]

/-- The block descriptor as written. -/
def BlockWrite.onto (w : BlockWrite) (x : BlockDesc) : BlockDesc :=
  { x with present := w.present == 1, guard := w.guard, page := w.page }

variable {w : BlockWrite}

/-- R16, R17: the page is newly named. -/
def BlockWrite.isFresh (w : BlockWrite) (x : BlockDesc) : Prop := w.present = 1 ∧ (x.present = false ∨ w.page ≠ x.page)

theorem writeBlock_of_badIndex (hb : ¬(f ≤ 11 ∧ m ≤ 23)) :
    writeBlock h ((f, m), w) s = respondWrite h tabBlock (f, m) .badIndex [] s := by
  unfold writeBlock
  exact if_pos (by dsimp only; omega)

section
variable (hf : f ≤ 11) (hm : m ≤ 23)
include hf hm

theorem writeBlock_of_badValue (hw : 1 < w.present ∨ 255 < w.page) :
    writeBlock h ((f, m), w) s = respondWrite h tabBlock (f, m) .badValue (s.block f m).encode s := by
  unfold writeBlock
  dsimp only
  rw [if_neg (by omega), if_pos hw]

theorem writeBlock_of_inUse (hw : w.present ≤ 1) (hpage : w.page ≤ 255)
    (hu : blockInUse s f m (w.present == 1) w.page = true) :
    writeBlock h ((f, m), w) s = respondWrite h tabBlock (f, m) .inUse (s.block f m).encode s := by
  unfold writeBlock
  dsimp only
  rw [if_neg (by omega), if_neg (by omega), if_pos hu]

theorem writeBlock_of_accepted (hw : w.present ≤ 1) (hpage : w.page ≤ 255)
    (hu : ¬blockInUse s f m (w.present == 1) w.page = true) :
    writeBlock h ((f, m), w) s = respondWrite h tabBlock (f, m) .ok (w.onto (s.block f m)).encode
      (blockWritten f m (w.present == 1) w.guard w.page s) := by
  have hblock : (blockWritten f m (w.present == 1) w.guard w.page s).block f m = w.onto (s.block f m) := by
    rw [blockWritten_block, if_pos rfl]
    rfl
  rw [← hblock]
  unfold writeBlock
  dsimp only
  rw [if_neg (by omega), if_neg (by omega), if_neg hu]
  rfl
end

theorem isFresh_iff (x : BlockDesc) :
    ((w.present == 1) && (!x.present || w.page != x.page)) = true ↔ w.isFresh x := by
  simp [BlockWrite.isFresh]

theorem blockWritten_of_not_fresh (hn : ¬w.isFresh (s.block f m)) :
    blockWritten f m (w.present == 1) w.guard w.page s = s.modBlock f m fun _ => w.onto (s.block f m) := by
  unfold blockWritten
  dsimp only
  rw [if_neg fun e => hn ((isFresh_iff _).1 e)]
  rfl

theorem blockWritten_of_fresh (hn : w.isFresh (s.block f m)) :
    blockWritten f m (w.present == 1) w.guard w.page s =
      clearPage w.page (s.modBlock f m fun _ => w.onto (s.block f m)) := by
  unfold blockWritten
  dsimp only
  rw [if_pos ((isFresh_iff _).2 hn)]
  rfl

/-- R16: when a write of a valid value is refused, by the written code. -/
theorem blockInUse_of_code (hw : w.present ≤ 1) :
    blockInUse s f m (w.present == 1) w.page = true ↔
      ((s.block f m).present = false ∧ w.present = 1 ∧ pageNamedElsewhere s f m w.page = true) ∨
      ((s.block f m).present = true ∧ w.present = 0 ∧ pageOccupied s (s.block f m).page = true) ∨
      ((s.block f m).present = true ∧ w.present = 1 ∧ w.page ≠ (s.block f m).page ∧
        (pageOccupied s (s.block f m).page = true ∨ pageNamedElsewhere s f m w.page = true)) := by
  have h0 : (w.present == 1) = false ↔ w.present = 0 := by rw [beq_eq_false_iff_ne]; omega
  rw [blockInUse_iff, beq_iff_eq, h0]
end

/-- Settles O49: the request for this node is carried out by its check order; the refusals' conditions are those of the
model's checks, and an accepted block write is a change of the descriptor, followed by the page's initialisation where
the page is newly named. -/
theorem descriptorWritesJudged : Obligations.DescriptorWritesJudged := by
  intro h params f m s hn
  refine ⟨fun w hp => ?_, fun w hp => ?_⟩
  · have hexec := exec_faceWrite hn hp
    have htaken := faceInUse_iff (countRx h.port s) f w
    simp only [pageOccupied_iff_kinds] at htaken
    refine ⟨fun hb => ?_, fun hf hm hw => ?_, fun hf hm hw hu => ?_, fun hf hm hw hu => ?_⟩ <;> rw [hexec]
    · rw [writeFace_of_badIndex hb]
      rfl
    · rw [writeFace_of_badValue hf hm hw]
      rfl
    · rw [writeFace_of_inUse hf hm hw (htaken.2 hu)]
      rfl
    · rw [writeFace_of_accepted hf hm hw fun e => hu (htaken.1 e)]
      rfl
  · have hexec := exec_blockWrite hn hp
    have htaken (hw : w.present ≤ 1) := blockInUse_of_code (f := f) (m := m) (s := countRx h.port s) hw
    simp only [pageOccupied_iff_kinds, pageNamedElsewhere_iff] at htaken
    refine ⟨fun hb => ?_, fun hf hm hw => ?_, fun hf hm hw hpage hu => ?_, fun hf hm hw hpage hu hfresh => ?_,
      fun hf hm hw hpage hu hfresh => ?_⟩ <;> rw [hexec]
    · rw [writeBlock_of_badIndex hb]
      rfl
    · rw [writeBlock_of_badValue hf hm hw]
      rfl
    · rw [writeBlock_of_inUse hf hm hw hpage ((htaken hw).2 hu)]
      rfl
    · rw [writeBlock_of_accepted hf hm hw hpage fun e => hu ((htaken hw).1 e),
        blockWritten_of_not_fresh (s := countRx h.port s) hfresh]
      rfl
    · rw [writeBlock_of_accepted hf hm hw hpage fun e => hu ((htaken hw).1 e),
        blockWritten_of_fresh (s := countRx h.port s) hfresh]
      have ho := clearPage_entriesOnly w.page
        ((countRx h.port s).modBlock f m fun _ => w.onto ((countRx h.port s).block f m))
      refine ⟨_, rfl, clearPage_dirOnly .., ho.faces, fun k => ?_, fun k => clearPage_entry ..⟩
      rw [ho.blocks, State.modBlock]
      simp only [Tab.get_mod]
      rfl

end Sys2Proof.Machine
end

section
/-! CERTIFICATE. Writes of slot entries, and FLAGS CLEAR (O50). -/
namespace Sys2Proof.Machine

section
variable {h : Hdr} {params : List Byte} {f n code : Nat} {s : State}

/-! ## Slot entries (R13, R18) -/

theorem exec_slotWrite (hf : ForNode h s) (hp : parseSlotWrite params = some ((f, n), code)) :
    exec (.slotEntryWrite h params) s = .next (writeSlot h ((f, n), code) (countRx h.port s)) := by
  change Host.Outcome.next (onSlotWrite h params s) = _
  rw [onSlotWrite, hp, onTableWrite_forNode hf]

/-- R18: the entry governing a slot under a present block. -/
def governing (s : State) (f n : Nat) : SlotEntry := s.entry (s.block f (n / 16)).page (n % 16)

theorem writtenKind_of_other (h0 : code ≠ 0) (h3 : code ≠ 3) (h4 : code ≠ 4) : writtenKind code = none := by
  unfold writtenKind
  split <;> simp_all

/-- R18: the kind that one of the three codes writes. -/
theorem writtenKind_of_valid (hc : code = 0 ∨ code = 3 ∨ code = 4) :
    writtenKind code = some (if code = 0 then .free else if code = 3 then .foreign else .barred) := by
  rcases hc with rfl | rfl | rfl <;> rfl

theorem writeSlot_of_badIndex (hb : ¬(f ≤ 11 ∧ n ≤ 383)) :
    writeSlot h ((f, n), code) s = respondWrite h tabSlot (f, n) .badIndex [] s := by
  unfold writeSlot
  exact if_pos (by dsimp only; omega)

theorem slotRecord_of_present (hp : (s.block f (n / 16)).present = true) :
    slotRecord s f n = (governing s f n).encode := by
  rw [slotRecord, slotAt_of_present hp]
  rfl

section
variable (hf : f ≤ 11) (hn : n ≤ 383)
include hf hn

theorem writeSlot_of_badValue (hk : writtenKind code = none) :
    writeSlot h ((f, n), code) s = respondWrite h tabSlot (f, n) .badValue (slotRecord s f n) s := by
  unfold writeSlot
  dsimp only
  rw [if_neg (by omega), hk]

theorem writeSlot_of_absent {k : EntryKind} (hk : writtenKind code = some k)
    (hp : (s.block f (n / 16)).present = false) :
    writeSlot h ((f, n), code) s = respondWrite h tabSlot (f, n) .notFound [] s := by
  unfold writeSlot
  dsimp only
  rw [if_neg (by omega), hk, slotAt_of_absent hp]

theorem writeSlot_of_fixed {k : EntryKind} (hk : writtenKind code = some k)
    (hp : (s.block f (n / 16)).present = true)
    (hfix : (∃ o, (governing s f n).kind = .owned o) ∨ ∃ g m, (governing s f n).kind = .indirect g m) :
    writeSlot h ((f, n), code) s = respondWrite h tabSlot (f, n) .inUse (governing s f n).encode s := by
  unfold governing at *
  unfold writeSlot
  dsimp only
  rw [if_neg (by omega), hk, slotAt_of_present hp]
  dsimp only
  rcases hfix with ⟨o, ho⟩ | ⟨g, m, hi⟩
  · rw [ho]
  · rw [hi]

theorem writeSlot_of_accepted {k : EntryKind} (hk : writtenKind code = some k)
    (hp : (s.block f (n / 16)).present = true)
    (hfix : ¬((∃ o, (governing s f n).kind = .owned o) ∨ ∃ g m, (governing s f n).kind = .indirect g m)) :
    writeSlot h ((f, n), code) s =
      respondWrite h tabSlot (f, n) .ok (slotRecord (writeLive f (governing s f n).kind k (setKind f n k s)) f n)
        (writeLive f (governing s f n).kind k (setKind f n k s)) := by
  unfold governing at *
  unfold writeSlot
  dsimp only
  rw [if_neg (by omega), hk, slotAt_of_present hp]
  dsimp only
  split
  · exact absurd (Or.inl ⟨_, ‹_›⟩) hfix
  · exact absurd (Or.inr ⟨_, _, ‹_›⟩) hfix
  · rfl
end

/-- R18: the record in the answer to an accepted write. -/
theorem slotRecord_written (hp : (s.block f (n / 16)).present = true) (was k : EntryKind) :
    slotRecord (writeLive f was k (setKind f n k s)) f n = SlotEntry.encode { governing s f n with kind := k } := by
  have ho := setKind_entriesOnly f n k s
  have hblock : (writeLive f was k (setKind f n k s)).block f (n / 16) = s.block f (n / 16) := by
    rw [State.block, writeLive, liveChange_blocks, ho.blocks]
    rfl
  rw [slotRecord_of_present (by rw [hblock, hp]), governing, hblock]
  simp only [State.entry, writeLive, liveChange_entries, setKind_entries hp, if_true]
  rfl

/-- R13: the live slot count of an accepted write. -/
theorem writeLive_eq (f : Nat) (was k : EntryKind) (s : State) : writeLive f was k s =
    if was ≠ .foreign ∧ k = .foreign then s.modFace f fun x => { x with live := x.live + 1 }
    else if was = .foreign ∧ k ≠ .foreign then s.modFace f fun x => { x with live := x.live - 1 }
    else s := by
  by_cases h1 : was = .foreign <;> by_cases h2 : k = .foreign <;> simp [writeLive, liveChange, h1, h2] <;> rfl

/-! ## FLAGS CLEAR (R19) -/

theorem exec_flagsClear {b : Nat} (hf : ForNode h s) (hp : parseFlagsClear params = some (f, b)) :
    exec (.flagsClear h params) s = .next (flagsClear h (f, b) (countRx h.port s)) := by
  change Host.Outcome.next (onFlagsClear h params s) = _
  rw [onFlagsClear, hp, onRequest_forNode hf]
end

/-- The blocks that a FLAGS CLEAR names. -/
def namedBlocks (b : Nat) : List Nat := if b = 255 then List.range 24 else [b]

theorem mem_namedBlocks {b : Nat} (hb : b ≤ 23 ∨ b = 255) (c : Nat) :
    c ∈ namedBlocks b ↔ c ≤ 23 ∧ (c = b ∨ b = 255) := by
  unfold namedBlocks
  split_ifs with h
  · simp only [List.mem_range]; omega
  · simp only [List.mem_singleton]; omega

/-- The state that a FLAGS CLEAR leaves. -/
def flagsCleared (f b : Nat) (s : State) : State :=
  (namedBlocks b).foldl (fun s c => clearBlockFlags f c s)
    (if b = 255 then s.modFace f fun y => { y with used := false } else s)

theorem flagsClear_of_bad {h : Hdr} {f b : Nat} {s : State} (hb : ¬(f ≤ 11 ∧ (b ≤ 23 ∨ b = 255))) :
    flagsClear h (f, b) s = respond h reqFlagsClear .badIndex [] s := by
  unfold flagsClear
  exact if_pos (by dsimp only; omega)

theorem flagsClear_of_good {h : Hdr} {f b : Nat} {s : State} (hf : f ≤ 11) (hb : b ≤ 23 ∨ b = 255) :
    flagsClear h (f, b) s = respond h reqFlagsClear .ok [] (flagsCleared f b s) := by
  unfold flagsClear flagsCleared namedBlocks
  dsimp only
  rw [if_neg (by omega)]
  split_ifs <;> rfl

/-- The entry with both flags clear. -/
def SlotEntry.unflagged (x : SlotEntry) : SlotEntry := { x with used := false, modified := false }

/-- R19: the sixteen entries of a page lose their flags; no other entry changes. -/
theorem clearPageFlags_entry (p : Nat) (s : State) (k : Nat) :
    (clearPageFlags p s).dir.entries.get k =
      if 16 * p ≤ k ∧ k < 16 * p + 16 then (s.dir.entries.get k).unflagged else s.dir.entries.get k := by
  have hfold := get_foldl (P := fun _ => True) (read := fun t => t.dir.entries.get k)
    (g := fun (s : State) i => s.modEntry (16 * p + i) fun x => { x with used := false, modified := false })
    (φ := fun i x => if decide (k = 16 * p + i) = true then x.unflagged else x) (l := List.range 16) (s := s)
    (fun _ _ _ _ => trivial) (fun t i _ _ => by
      by_cases hk : k = 16 * p + i
      · subst hk; simp [SlotEntry.unflagged]
      · simp [hk]) trivial
  rw [clearPageFlags, hfold, foldl_of_idem (g := SlotEntry.unflagged) fun _ => rfl]
  have : (List.range 16).any (fun i => decide (k = 16 * p + i)) = true ↔ 16 * p ≤ k ∧ k < 16 * p + 16 := by
    simp only [List.any_eq_true, List.mem_range, decide_eq_true_eq]
    exact ⟨fun ⟨i, hi, hk⟩ => by omega, fun ⟨h1, h2⟩ => ⟨k - 16 * p, by omega, by omega⟩⟩
  simp only [this]

theorem clearPageFlags_entriesOnly (p : Nat) (s : State) : EntriesOnly s (clearPageFlags p s) :=
  EntriesOnly.foldl (fun _ _ => EntriesOnly.modEntry ..) _ _

/-- R19: the flags of one block: of its descriptor, and of its page's entries where it is present. -/
theorem clearBlockFlags_block (f b : Nat) (s : State) (k : Nat) :
    (clearBlockFlags f b s).dir.blocks.get k =
      if k = 24 * f + b then { s.dir.blocks.get k with used := false } else s.dir.blocks.get k := by
  have hmod : (s.modBlock f b fun x => { x with used := false }).dir.blocks.get k =
      if k = 24 * f + b then { s.dir.blocks.get k with used := false } else s.dir.blocks.get k := by
    simp only [State.modBlock, Tab.get_mod]
    split_ifs with hk
    · rw [hk]
    · rfl
  unfold clearBlockFlags
  split_ifs
  · rw [(clearPageFlags_entriesOnly ..).blocks, hmod, if_pos ‹_›]
  · rw [(clearPageFlags_entriesOnly ..).blocks, hmod, if_neg ‹_›]
  · rw [hmod, if_pos ‹_›]
  · rw [hmod, if_neg ‹_›]

theorem clearBlockFlags_entry (f b : Nat) (s : State) (k : Nat) :
    (clearBlockFlags f b s).dir.entries.get k =
      if (s.block f b).present = true ∧ 16 * (s.block f b).page ≤ k ∧ k < 16 * (s.block f b).page + 16 then
        (s.dir.entries.get k).unflagged else s.dir.entries.get k := by
  unfold clearBlockFlags
  by_cases hp : (s.block f b).present = true
  · rw [if_pos hp, clearPageFlags_entry]
    simp only [hp, true_and]
    rfl
  · rw [if_neg hp, if_neg fun e => hp e.1]
    rfl

theorem clearBlockFlags_faces (f b : Nat) (s : State) : (clearBlockFlags f b s).dir.faces = s.dir.faces := by
  unfold clearBlockFlags
  split_ifs
  · rw [(clearPageFlags_entriesOnly ..).faces]; rfl
  · rfl

section
variable (f : Nat) (l : List Nat) (s : State)

theorem foldl_clearBlockFlags_dirOnly : DirOnly s (l.foldl (fun s c => clearBlockFlags f c s) s) :=
  DirOnly.foldl (fun _ _ => clearBlockFlags_dirOnly ..) _ _

theorem foldl_clearBlockFlags_faces : (l.foldl (fun s c => clearBlockFlags f c s) s).dir.faces = s.dir.faces :=
  foldl_keeps (P := fun t => t.dir.faces = s.dir.faces) (fun t c _ ht => (clearBlockFlags_faces f c t).trans ht) rfl

theorem foldl_clearBlockFlags_block (k : Nat) :
    (l.foldl (fun s c => clearBlockFlags f c s) s).dir.blocks.get k =
      if l.any (fun c => decide (k = 24 * f + c)) = true then { s.dir.blocks.get k with used := false }
      else s.dir.blocks.get k := by
  have hfold := get_foldl (P := fun _ => True) (read := fun t => t.dir.blocks.get k)
    (g := fun (s : State) c => clearBlockFlags f c s)
    (φ := fun c (x : BlockDesc) => if decide (k = 24 * f + c) = true then { x with used := false } else x) (l := l)
    (s := s) (fun _ _ _ _ => trivial) (fun t c _ _ => by simp [clearBlockFlags_block]) trivial
  exact hfold.trans (foldl_of_idem (g := fun x : BlockDesc => { x with used := false }) (fun _ => rfl) ..)

/-- The block descriptor names the page that the entry with this key is in. -/
def namesKey (s : State) (f c k : Nat) : Bool :=
  (s.block f c).present && decide (16 * (s.block f c).page ≤ k) && decide (k < 16 * (s.block f c).page + 16)

theorem foldl_clearBlockFlags_entry (k : Nat) :
    (l.foldl (fun s c => clearBlockFlags f c s) s).dir.entries.get k =
      if l.any (fun c => namesKey s f c k) = true then (s.dir.entries.get k).unflagged else s.dir.entries.get k := by
  have hfold := get_foldl (P := SameSpectrum s) (read := fun t => t.dir.entries.get k)
    (g := fun (s : State) c => clearBlockFlags f c s)
    (φ := fun c x => if namesKey s f c k = true then x.unflagged else x) (l := l) (s := s)
    (fun t c _ ht => ht.trans (clearBlockFlags_same f c t))
    (fun t c _ ht => by
      rw [clearBlockFlags_entry, (ht.layout.block f c).1, (ht.layout.block f c).2]
      simp only [namesKey, Bool.and_eq_true, decide_eq_true_eq, and_assoc])
    (SameSpectrum.refl s)
  exact hfold.trans (foldl_of_idem (g := SlotEntry.unflagged) (fun _ => rfl) ..)
end

/-! ### What a FLAGS CLEAR leaves -/

section
variable {f b : Nat} (s : State)

theorem flagsCleared_dirOnly : DirOnly s (flagsCleared f b s) := by
  unfold flagsCleared
  refine DirOnly.trans ?_ (foldl_clearBlockFlags_dirOnly ..)
  split_ifs <;> rfl

theorem flagsCleared_face (g : Nat) : (flagsCleared f b s).face g =
    if g = f ∧ b = 255 then { s.face g with used := false } else s.face g := by
  rw [State.face, flagsCleared, foldl_clearBlockFlags_faces]
  change State.face (if b = 255 then _ else _) g = _
  split_ifs with h1 h2 h2
  · rw [State.modFace_face, if_pos h2.1, h2.1]
  · rw [State.modFace_face, if_neg fun e => h2 ⟨e, h1⟩]
  · exact absurd h2.2 h1
  · rfl

/-- The face's own flag is not one of the blocks' or entries'. -/
theorem flagsCleared_blocks (k : Nat) : (flagsCleared f b s).dir.blocks.get k =
    if (namedBlocks b).any (fun c => decide (k = 24 * f + c)) = true then { s.dir.blocks.get k with used := false }
    else s.dir.blocks.get k := by
  rw [flagsCleared, foldl_clearBlockFlags_block]
  by_cases hb : b = 255
  · simp only [hb, if_true]; rfl
  · simp only [hb, if_false]

theorem flagsCleared_entries (k : Nat) : (flagsCleared f b s).dir.entries.get k =
    if (namedBlocks b).any (fun c => namesKey s f c k) = true then (s.dir.entries.get k).unflagged
    else s.dir.entries.get k := by
  rw [flagsCleared, foldl_clearBlockFlags_entry]
  by_cases hb : b = 255
  · simp only [hb, if_true]; rfl
  · simp only [hb, if_false]

variable (hb : b ≤ 23 ∨ b = 255)
include hb

theorem flagsCleared_block_iff (hf : f ≤ 11) {g c : Nat} (hc : c ≤ 23) :
    (namedBlocks b).any (fun d => decide (24 * g + c = 24 * f + d)) = true ↔ g = f ∧ c ≤ 23 ∧ (c = b ∨ b = 255) := by
  simp only [List.any_eq_true, decide_eq_true_eq, mem_namedBlocks hb]
  constructor
  · rintro ⟨d, ⟨hd, hcov⟩, he⟩
    obtain ⟨rfl, rfl⟩ : g = f ∧ c = d := by omega
    exact ⟨rfl, hd, hcov⟩
  · rintro ⟨rfl, hcov⟩
    exact ⟨c, hcov, rfl⟩

theorem flagsCleared_entry_iff {page i : Nat} (hi : i ≤ 15) :
    (namedBlocks b).any (fun c => namesKey s f c (16 * page + i)) = true ↔
      ∃ c, (c ≤ 23 ∧ (c = b ∨ b = 255)) ∧ (s.block f c).present = true ∧ (s.block f c).page = page := by
  simp only [List.any_eq_true, mem_namedBlocks hb, namesKey, Bool.and_eq_true, decide_eq_true_eq, and_assoc]
  refine exists_congr fun c => and_congr_right fun _ => and_congr_right fun _ => and_congr_right fun _ => ?_
  omega
end

/-- Settles O50: the slot write is carried out by its check order, an accepted one changing the one entry and the
face's live slot count; the clearing of flags is, record by record, one update for each block that names it. -/
theorem slotAndFlagRequestsAnswered : Obligations.SlotAndFlagRequestsAnswered := by
  refine ⟨fun h params f n code s hn hp => ?_, fun h params f b s hn hp => ⟨fun hb => ?_, fun hf hb => ?_⟩⟩
  · have hexec := exec_slotWrite hn hp
    refine ⟨fun hb => ?_, fun hf hs h0 h3 h4 hpr => ?_, fun hf hs h0 h3 h4 _ => ?_, fun hf hs hc hpr => ?_,
      fun hf hs hc hpr hfix => ?_, fun hf hs hc hpr hfix => ?_⟩ <;> rw [hexec]
    · rw [writeSlot_of_badIndex hb]
      rfl
    · rw [writeSlot_of_badValue hf hs (writtenKind_of_other h0 h3 h4),
        slotRecord_of_present (s := countRx h.port s) hpr]
      rfl
    · exact ⟨_, by rw [writeSlot_of_badValue hf hs (writtenKind_of_other h0 h3 h4)]; rfl⟩
    · rw [writeSlot_of_absent (s := countRx h.port s) hf hs (writtenKind_of_valid hc) hpr]
      rfl
    · rw [writeSlot_of_fixed (s := countRx h.port s) hf hs (writtenKind_of_valid hc) hpr hfix]
      rfl
    · rw [writeSlot_of_accepted (s := countRx h.port s) hf hs (writtenKind_of_valid hc) hpr hfix,
        slotRecord_written (s := countRx h.port s) hpr, setKind_of_present (s := countRx h.port s) hpr, writeLive_eq]
      rfl
  · rw [exec_flagsClear hn hp, flagsClear_of_bad hb]
    rfl
  · rw [exec_flagsClear hn hp, flagsClear_of_good hf hb]
    refine ⟨_, rfl, flagsCleared_dirOnly _, flagsCleared_face _, fun g c _ hc => ?_, fun page i hi => ?_⟩
    · have hblock := flagsCleared_blocks (f := f) (b := b) (countRx h.port s) (24 * g + c)
      have hiff := flagsCleared_block_iff hb hf (g := g) hc
      exact ⟨fun hg hcov => hblock.trans (if_pos (hiff.2 ⟨hg, hcov⟩)),
        fun hno => hblock.trans (if_neg fun e => hno (hiff.1 e))⟩
    · have hentry := flagsCleared_entries (f := f) (b := b) (countRx h.port s) (16 * page + i)
      have hiff := flagsCleared_entry_iff (f := f) (countRx h.port s) hb (page := page) hi
      exact ⟨fun hcov => hentry.trans (if_pos (hiff.2 hcov)), fun hno => hentry.trans (if_neg fun e => by
        obtain ⟨c, hcov, hpr, hpage⟩ := hiff.1 e
        exact hno c hcov hpr hpage)⟩

end Sys2Proof.Machine
end

section
/-! SUPPORT. The abort of one context at NODE RESET (R182, R183): what it changes, field by field, and what it
leaves. -/
namespace Sys2Proof.Machine

/-- The fields that the abort of a context may change. -/
def AbortOnly (s t : State) : Prop := t =
  { s with
    dir := t.dir, table := { s.table with recs := t.table.recs }, ramp := { s.ramp with faces := t.ramp.faces },
    audit := t.audit, bus := { s.bus with safetyQ := t.bus.safetyQ, seq := t.bus.seq }, ports := t.ports,
    work := t.work }

theorem AbortOnly.refl (s : State) : AbortOnly s s := rfl

theorem AbortOnly.trans {s t u : State} (h : AbortOnly s t) (k : AbortOnly t u) : AbortOnly s u := by
  unfold AbortOnly at *
  rw [k, h]

theorem DirOnly.abortOnly {s t : State} (h : DirOnly s t) : AbortOnly s t := by
  unfold DirOnly at h
  unfold AbortOnly
  rw [h]

section
variable {s t : State} (h : AbortOnly s t)
include h
theorem AbortOnly.switch : t.switch = s.switch := by rw [h]
theorem AbortOnly.faceSet (f : Nat) : t.faceSet f = s.faceSet f := by rw [h]; rfl
theorem AbortOnly.elem (e : Nat) : t.elem e = s.elem e := by rw [h]; rfl
end

section
variable (n : Nat) (c : Context) (s : State)

/-! ## The places in the ramp (R97) -/

theorem judgeAudit_abortOnly (f : Nat) : AbortOnly s (judgeAudit f s) := by
  unfold AbortOnly
  rw [judgeAudit_frame]

theorem clearStep_abortOnly (f : Nat) : AbortOnly s (clearStep f s) := by
  unfold clearStep
  split
  · exact AbortOnly.trans (t := s.modRamp f fun r => { r with inStep := false }) rfl (judgeAudit_abortOnly _ _)
  · exact .refl s

theorem leaveRamp_abortOnly : AbortOnly s (leaveRamp n c s) := by
  unfold leaveRamp releaseTurn
  dsimp only
  split_ifs
  · have pushed : AbortOnly s (s.push [.judgeGrant c.egress]) := rfl
    exact (pushed.trans (clearStep_abortOnly _ _)).trans rfl
  · rfl
  · exact .refl s

theorem clearStep_keeps (f : Nat) : (clearStep f s).dir = s.dir ∧ (clearStep f s).bus = s.bus ∧
    (clearStep f s).ports = s.ports ∧ (clearStep f s).table = s.table := by
  rw [clearStep_frame]
  exact ⟨rfl, rfl, rfl, rfl⟩

/-- R97: the giving up of a place in the ramp leaves the Directory, the bus, the ports and every other record. -/
theorem leaveRamp_keeps : (leaveRamp n c s).dir = s.dir ∧ (leaveRamp n c s).bus = s.bus ∧
    (leaveRamp n c s).ports = s.ports ∧ ∀ j, j ≠ n → (leaveRamp n c s).ctx j = s.ctx j := by
  unfold leaveRamp releaseTurn
  dsimp only
  split_ifs
  · obtain ⟨hd, hb, hp, ht⟩ := clearStep_keeps (s.push [.judgeGrant c.egress]) c.egress
    refine ⟨hd, hb, hp, fun j hj => ?_⟩
    rw [State.modCtx_ctx, if_neg hj, State.modRamp_ctx, State.ctx, ht]
    rfl
  · exact ⟨rfl, rfl, rfl, fun _ _ => rfl⟩
  · exact ⟨rfl, rfl, rfl, fun _ _ => rfl⟩

/-- The parts of an audit face that no take's work touches but its own timer and counter do. -/
theorem leaveRamp_audit (f : Nat) : ((leaveRamp n c s).auditFace f).timer = (s.auditFace f).timer ∧
    ((leaveRamp n c s).auditFace f).overruns = (s.auditFace f).overruns := by
  have judged (g : Nat) (u : State) : ((judgeAudit g u).auditFace f).timer = (u.auditFace f).timer ∧
      ((judgeAudit g u).auditFace f).overruns = (u.auditFace f).overruns := by
    unfold judgeAudit
    split_ifs
    · change ((u.modAudit g _).auditFace f).timer = _ ∧ ((u.modAudit g _).auditFace f).overruns = _
      rw [State.modAudit_auditFace]
      split_ifs with hg
      · rw [hg]; exact ⟨rfl, rfl⟩
      · exact ⟨rfl, rfl⟩
    · exact ⟨rfl, rfl⟩
  have cleared (g : Nat) (u : State) : ((clearStep g u).auditFace f).timer = (u.auditFace f).timer ∧
      ((clearStep g u).auditFace f).overruns = (u.auditFace f).overruns := by
    unfold clearStep
    split_ifs
    · exact judged ..
    · exact ⟨rfl, rfl⟩
  unfold leaveRamp releaseTurn
  dsimp only
  split_ifs
  · exact cleared ..
  · exact ⟨rfl, rfl⟩
  · exact ⟨rfl, rfl⟩

/-! ## The freed record and its span (R10, R25) -/

/-- R10, R12: the Directory's part of a freeing. -/
def spanFreed (s : State) (n : Nat) (c : Context) : State :=
  liveChange c.egress c.count c.st.counted false (freeSpan n c.ingress c.egress c.first c.count s)

theorem freeRecord_eq : freeRecord n c s = (spanFreed (leaveRamp n c s) n c).setCtx n none := rfl

theorem spanFreed_dirOnly : DirOnly s (spanFreed s n c) := (freeSpan_dirOnly ..).trans (liveChange_dirOnly ..)

/-- R12: an active context is counted in SETTLED alone. -/
theorem spanFreed_of_active (hst : c.st ≠ .inService) : spanFreed s n c =
    if c.st = .settled then lowerLive c.egress c.count (freeSpan n c.ingress c.egress c.first c.count s)
    else freeSpan n c.ingress c.egress c.first c.count s := by
  unfold spanFreed
  cases h : c.st
  case inService => exact absurd h hst
  all_goals rfl

theorem freeRecord_abortOnly : AbortOnly s (freeRecord n c s) :=
  ((leaveRamp_abortOnly n c s).trans (spanFreed_dirOnly ..).abortOnly).trans rfl

theorem freeRecord_bus : (freeRecord n c s).bus = s.bus :=
  (spanFreed_dirOnly n c _).bus.trans (leaveRamp_keeps n c s).2.1

theorem freeRecord_ports : (freeRecord n c s).ports = s.ports :=
  (spanFreed_dirOnly n c _).ports.trans (leaveRamp_keeps n c s).2.2.1

theorem freeRecord_ctx (j : Nat) : (freeRecord n c s).ctx j = if j = n then none else s.ctx j := by
  rw [freeRecord_eq, State.setCtx_ctx, (spanFreed_dirOnly n c _).ctx]
  split_ifs with hj
  · rfl
  · exact (leaveRamp_keeps n c s).2.2.2 j hj

theorem freeRecord_audit (f : Nat) : ((freeRecord n c s).auditFace f).timer = (s.auditFace f).timer ∧
    ((freeRecord n c s).auditFace f).overruns = (s.auditFace f).overruns := by
  have h : (freeRecord n c s).auditFace f = (leaveRamp n c s).auditFace f := by
    rw [State.auditFace, freeRecord_eq, State.setCtx_audit, (spanFreed_dirOnly n c _).audit]
    rfl
  rw [h]
  exact leaveRamp_audit n c s f

theorem freeRecord_wf (hw : s.table.recs.wf) : (freeRecord n c s).table.recs.wf := by
  have h : (spanFreed (leaveRamp n c s) n c).table.recs.wf := by
    rw [(spanFreed_dirOnly n c _).table]
    exact ((leaveRamp_same n c s).table hw).1
  exact Tab.wf_set h n none

end

/-! ### The Directory after a freeing, of the Directory before -/

theorem entryKey_congr {s t : State} (h : s.dir = t.dir) (f n : Nat) : entryKey s f n = entryKey t f n := by
  simp only [entryKey, h]

theorem readSlot_congr {s t : State} (h : s.dir = t.dir) (f n : Nat) : readSlot s f n = readSlot t f n := by
  unfold readSlot
  rw [entryKey_congr h, State.face, State.face, h]

theorem modEntry_dir_congr {s t : State} (h : s.dir = t.dir) (k : Nat) (g : SlotEntry → SlotEntry) :
    (s.modEntry k g).dir = (t.modEntry k g).dir := by simp only [State.modEntry, h]

theorem freeSlot_dir_congr {s t : State} (h : s.dir = t.dir) (f n : Nat) (k : EntryKind) :
    (freeSlot f n k s).dir = (freeSlot f n k t).dir := by
  unfold freeSlot
  rw [readSlot_congr h, h]
  split
  · split_ifs
    exacts [modEntry_dir_congr h .., h]
  · exact h

theorem freeSpan_dir_congr {s t : State} (h : s.dir = t.dir) (n ing eg first count : Nat) :
    (freeSpan n ing eg first count s).dir = (freeSpan n ing eg first count t).dir :=
  List.foldl_rel (r := fun a b : State => a.dir = b.dir) h fun _ _ _ _ hab =>
    freeSlot_dir_congr (freeSlot_dir_congr hab ..) ..

theorem lowerLive_dir_congr {s t : State} (h : s.dir = t.dir) (f n : Nat) :
    (lowerLive f n s).dir = (lowerLive f n t).dir := by simp only [lowerLive, State.modFace, h]

theorem spanFreed_dir_congr {s t : State} (h : s.dir = t.dir) (n : Nat) {c : Context} (hst : c.st ≠ .inService) :
    (spanFreed s n c).dir = (spanFreed t n c).dir := by
  have hspan := freeSpan_dir_congr h n c.ingress c.egress c.first c.count
  rw [spanFreed_of_active n c s hst, spanFreed_of_active n c t hst]
  split_ifs
  exacts [lowerLive_dir_congr hspan .., hspan]

/-- What a freeing keeps of the Directory: all but live slot counts and kinds of entries. -/
structure DirKept (s t : State) : Prop where
  faces   : ∀ f, t.face f = { s.face f with live := (t.face f).live }
  blocks  : t.dir.blocks = s.dir.blocks
  entries : ∀ k, t.dir.entries.get k = { s.dir.entries.get k with kind := (t.dir.entries.get k).kind }

theorem DirKept.of_eq {s t : State} (h : t.dir = s.dir) : DirKept s t :=
  ⟨fun f => by simp only [State.face, h], by rw [h], fun k => by rw [h]⟩

theorem DirKept.trans {s t u : State} (h : DirKept s t) (k : DirKept t u) : DirKept s u :=
  ⟨fun f => by rw [k.faces f, h.faces f], k.blocks.trans h.blocks, fun j => by rw [k.entries j, h.entries j]⟩

theorem DirKept.foldl {α : Type} {g : State → α → State} (hg : ∀ s a, DirKept s (g s a)) (l : List α) (s : State) :
    DirKept s (l.foldl g s) :=
  foldl_keeps (P := DirKept s) (fun _ _ _ ht => ht.trans (hg _ _)) (.of_eq rfl)

theorem freeSlot_dirKept (f n : Nat) (k : EntryKind) (s : State) : DirKept s (freeSlot f n k s) := by
  unfold freeSlot
  split
  · split_ifs
    · refine ⟨fun _ => rfl, rfl, fun j => ?_⟩
      rw [State.modEntry_entries]
      split_ifs with hj
      · rw [hj]
      · rfl
    · exact .of_eq rfl
  · exact .of_eq rfl

theorem spanFreed_dirKept (s : State) (n : Nat) (c : Context) : DirKept s (spanFreed s n c) := by
  have hspan : DirKept s (freeSpan n c.ingress c.egress c.first c.count s) :=
    .foldl (fun _ _ => (freeSlot_dirKept ..).trans (freeSlot_dirKept ..)) _ _
  refine hspan.trans ⟨fun f => ?_, ?_, fun k => ?_⟩
  · rw [spanFreed, liveChange_face]
  · rw [spanFreed, liveChange_blocks]
  · rw [spanFreed, liveChange_entries]

/-! ## The safety block and the FAULT frames (R150, R183) -/

theorem sendFault_eq (p : Option Nat) (d : Direction) (c : Context) (o : Nat) (s : State) :
    sendFault p d c .nodeReset o s = { s with ports := (sendFault p d c .nodeReset o s).ports } := sendOn_frame ..

/-- R128: the FAULT frame of an abort. -/
def abortFault (s : State) (c : Context) (d : Direction) : Frame :=
  adjacentFrame .fault (faultBody c.lpId .nodeReset s.switch.nodeId d) s

theorem sendFault_port (p : Option Nat) (d : Direction) (c : Context) (s : State) (q : Nat) :
    (sendFault p d c .nodeReset s.switch.nodeId s).port q =
      (if p = some q then [abortFault s c d] else []).foldl Port.hand (s.port q) := by
  cases p with
  | none => rfl
  | some p =>
    change (s.modPort p fun x => x.hand (abortFault s c d)).port q = _
    rw [State.modPort_port]
    by_cases hq : q = p
    · simp [hq]
    · rw [if_neg hq, if_neg fun e => hq (Option.some.inj e).symm]
      rfl

/-- R150: the safety block of an aborted context, by its stamp; none where it fails at once whatever is queued. -/
def abortBlock (s : State) (x : Nat × Context) : Option (Nat → Request) :=
  (s.faceSet x.2.egress).wss.bind fun e =>
    if (s.elem e).health = .failed then none
    else some fun stamp => ⟨.safety, stamp, e, .setBlock, x.2.work.dithering, x.2.first, x.2.count,
      .ctx x.1 x.2.inst .safety⟩

/-- The SAFETY queue and the hand-over sequence with one more block asked for (R148, R149). -/
def joinSafety (b : Option (Nat → Request)) (q : List Request × Nat) : List Request × Nat :=
  match b with
  | none => q
  | some r => if q.1.length < 16 then (q.1 ++ [r q.2], q.2 + 1) else q

theorem askSafety_bus (n : Nat) (c : Context) (s : State) :
    askSafety n c s = { s with bus := (askSafety n c s).bus, work := (askSafety n c s).work } ∧
    (askSafety n c s).bus = { s.bus with
      safetyQ := (joinSafety (abortBlock s (n, c)) (s.bus.safetyQ, s.bus.seq)).1
      seq := (joinSafety (abortBlock s (n, c)) (s.bus.safetyQ, s.bus.seq)).2 } := by
  unfold askSafety askWss handOver abortBlock
  cases (s.faceSet c.egress).wss with
  | none => exact ⟨rfl, rfl⟩
  | some e =>
    by_cases hf : (s.elem e).health = .failed
    · have hfails : failsAtOnce .safety (some e) s = true := by simp [failsAtOnce, hf]
      simp only [hfails, Option.bind_some, hf, if_true]
      exact ⟨rfl, rfl⟩
    · have hfails : failsAtOnce .safety (some e) s = decide (16 ≤ s.bus.safetyQ.length) := by
        simp only [failsAtOnce, beq_eq_false_iff_ne.2 hf, Bool.false_or]
        rfl
      by_cases hl : s.bus.safetyQ.length < 16
      · rw [decide_eq_false (by omega)] at hfails
        simp only [hfails, Option.bind_some, hf, if_false, Bool.false_eq_true, joinSafety, hl, if_true]
        exact ⟨rfl, rfl⟩
      · rw [decide_eq_true (by omega)] at hfails
        simp only [hfails, Option.bind_some, hf, if_false, joinSafety, hl, if_true]
        exact ⟨rfl, rfl⟩

/-! ## The abort of one context -/

/-- R183: the abort of the active record `x.2` at `x.1`. -/
def abortRecord (s : State) (x : Nat × Context) : State :=
  freeRecord x.1 x.2 (askSafety x.1 x.2 (sendFault x.2.downPort .downstream x.2 .nodeReset s.switch.nodeId
    (sendFault x.2.upPort .upstream x.2 .nodeReset s.switch.nodeId s)))

theorem CtxState.active_iff (st : CtxState) : st.active = true ↔ st ≠ .inService := by cases st <;> decide

theorem abortContext_of_active {s : State} {n : Nat} {c : Context} (hc : s.ctx n = some c) (hst : c.st ≠ .inService) :
    abortContext s n = abortRecord s (n, c) := by
  have hsw (p : Option Nat) : (sendFault p .upstream c .nodeReset s.switch.nodeId s).switch = s.switch := by
    rw [sendFault_eq]
  unfold abortContext abortRecord
  rw [hc]
  dsimp only
  rw [if_pos ((CtxState.active_iff _).2 hst), hsw]

theorem abortContext_of_idle {s : State} {n : Nat} (h : ∀ c, s.ctx n = some c → c.st = .inService) :
    abortContext s n = s := by
  unfold abortContext
  split
  · rfl
  · rename_i c hc
    rw [if_neg fun ha => (CtxState.active_iff _).1 ha (h c hc)]

section
variable (s : State) (x : Nat × Context)

/-- The state in which an abort frees its record: frames sent, safety block asked for. -/
def abortSent : State :=
  askSafety x.1 x.2 (sendFault x.2.downPort .downstream x.2 .nodeReset s.switch.nodeId
    (sendFault x.2.upPort .upstream x.2 .nodeReset s.switch.nodeId s))

theorem abortRecord_eq : abortRecord s x = freeRecord x.1 x.2 (abortSent s x) := rfl

/-- Ports, bus and work alone have changed when the record is freed. -/
theorem abortSent_eq : abortSent s x =
    { s with ports := (abortSent s x).ports, bus := (abortSent s x).bus, work := (abortSent s x).work } ∧
    (abortSent s x).ports = (sendFault x.2.downPort .downstream x.2 .nodeReset s.switch.nodeId
      (sendFault x.2.upPort .upstream x.2 .nodeReset s.switch.nodeId s)).ports ∧
    (abortSent s x).bus = { s.bus with
      safetyQ := (joinSafety (abortBlock s x) (s.bus.safetyQ, s.bus.seq)).1
      seq := (joinSafety (abortBlock s x) (s.bus.safetyQ, s.bus.seq)).2 } := by
  unfold abortSent
  have h1 := sendFault_eq x.2.upPort .upstream x.2 s.switch.nodeId s
  generalize sendFault x.2.upPort .upstream x.2 .nodeReset s.switch.nodeId s = u at h1 ⊢
  have h2 := sendFault_eq x.2.downPort .downstream x.2 s.switch.nodeId u
  generalize sendFault x.2.downPort .downstream x.2 .nodeReset s.switch.nodeId u = v at h2 ⊢
  obtain ⟨h3, h4⟩ := askSafety_bus x.1 x.2 v
  have hv : v = { s with ports := v.ports } := by rw [h2, h1]
  refine ⟨?_, ?_, ?_⟩
  · rw [h3, hv]
  · rw [h3]
  · rw [h4, hv]
    rfl

theorem abortRecord_abortOnly : AbortOnly s (abortRecord s x) := by
  obtain ⟨h, -, hb⟩ := abortSent_eq s x
  have hsent : AbortOnly s (abortSent s x) := by
    unfold AbortOnly
    rw [h, hb]
  exact hsent.trans (freeRecord_abortOnly ..)

theorem abortRecord_ctx (j : Nat) : (abortRecord s x).ctx j = if j = x.1 then none else s.ctx j := by
  rw [abortRecord_eq, freeRecord_ctx, (abortSent_eq s x).1]
  rfl

theorem abortRecord_wf (hw : s.table.recs.wf) : (abortRecord s x).table.recs.wf := by
  have hsent : (abortSent s x).table.recs.wf := by
    rw [(abortSent_eq s x).1]
    exact hw
  exact freeRecord_wf _ _ _ hsent

theorem abortRecord_audit (f : Nat) : ((abortRecord s x).auditFace f).timer = (s.auditFace f).timer ∧
    ((abortRecord s x).auditFace f).overruns = (s.auditFace f).overruns := by
  have h : (abortSent s x).auditFace f = s.auditFace f := by
    rw [(abortSent_eq s x).1]
    rfl
  rw [← h]
  exact freeRecord_audit ..

/-- The FAULT frames that an abort hands to port `p`. -/
def abortFrames (s : State) (p : Nat) (c : Context) : List Frame :=
  (if c.upPort = some p then [abortFault s c .upstream] else []) ++
    (if c.downPort = some p then [abortFault s c .downstream] else [])

theorem abortRecord_port (p : Nat) :
    (abortRecord s x).port p = (abortFrames s p x.2).foldl Port.hand (s.port p) := by
  rw [State.port, abortRecord_eq, freeRecord_ports, (abortSent_eq s x).2.1]
  have h1 := sendFault_eq x.2.upPort .upstream x.2 s.switch.nodeId s
  have h2 := sendFault_port x.2.upPort .upstream x.2 s p
  generalize sendFault x.2.upPort .upstream x.2 .nodeReset s.switch.nodeId s = u at h1 h2 ⊢
  have hsw : u.switch = s.switch := by rw [h1]
  have h3 := sendFault_port x.2.downPort .downstream x.2 u p
  have hframe : abortFault u x.2 .downstream = abortFault s x.2 .downstream := by
    simp only [abortFault, adjacentFrame, hsw]
  rw [hframe, hsw, h2] at h3
  rw [abortFrames, List.foldl_append]
  exact h3

theorem abortRecord_safety : ((abortRecord s x).bus.safetyQ, (abortRecord s x).bus.seq) =
    joinSafety (abortBlock s x) (s.bus.safetyQ, s.bus.seq) := by
  rw [abortRecord_eq, freeRecord_bus, (abortSent_eq s x).2.2]

theorem abortRecord_dir : (abortRecord s x).dir = (spanFreed (leaveRamp x.1 x.2 (abortSent s x)) x.1 x.2).dir := rfl

theorem leaveRamp_abortSent_dir : (leaveRamp x.1 x.2 (abortSent s x)).dir = s.dir := by
  rw [(leaveRamp_keeps ..).1, (abortSent_eq s x).1]

theorem abortRecord_dirKept : DirKept s (abortRecord s x) :=
  ((DirKept.of_eq (leaveRamp_abortSent_dir s x)).trans (spanFreed_dirKept _ x.1 x.2)).trans (.of_eq rfl)
end

end Sys2Proof.Machine
end

section
/-! CERTIFICATE. NODE RESET (O60). -/
namespace Sys2Proof.Machine

/-! ## Before the aborts -/

/-- A table after an idempotent change of its own at each key of a list. -/
theorem Tab.get_foldl_mod_at {α : Type} [DecidableEq α] {d : α} {g : Nat → α → α} {k : Nat}
    (hg : ∀ a, g k (g k a) = g k a) (l : List Nat) (t : Tab d) :
    (l.foldl (fun t j => t.mod j (g j)) t).get k = if k ∈ l then g k (t.get k) else t.get k := by
  induction l generalizing t with
  | nil => simp
  | cons j r ih =>
    rw [List.foldl_cons, ih, Tab.get_mod]
    by_cases hk : k = j
    · subst hk; by_cases hr : k ∈ r <;> simp [hr, hg]
    · simp [hk]

theorem Port.flush_flush (x : Port) : x.flush.flush = x.flush := by simp [Port.flush, raiseBy]

section
variable (s : State)

theorem beforeAborts_ctx (n : Nat) : (beforeAborts s).ctx n = s.ctx n := by rw [beforeAborts_eq]; rfl

theorem beforeAborts_recs : (beforeAborts s).table.recs = s.table.recs := by rw [beforeAborts_eq]

theorem beforeAborts_dir : (beforeAborts s).dir = s.dir := by rw [beforeAborts_eq]

theorem beforeAborts_switch : (beforeAborts s).switch = s.switch := by rw [beforeAborts_eq]

theorem beforeAborts_faceSet (f : Nat) : (beforeAborts s).faceSet f = s.faceSet f := by rw [beforeAborts_eq]; rfl

/-- R180, R182: queues flushed and counters cleared, the drops of the flush among them. -/
theorem beforeAborts_port {p : Nat} (hp : p ≤ 8) :
    (beforeAborts s).port p = { s.port p with urgent := [], bulk := [], counters := PortCounters.zero } := by
  have hm : p ∈ List.range 9 := List.mem_range.2 (by omega)
  rw [State.port, beforeAborts_eq]
  simp only
  rw [Tab.get_foldl_mod_at (fun _ => rfl), Tab.get_foldl_mod_at Port.flush_flush, if_pos hm, if_pos hm]
  rfl

theorem beforeAborts_elem (e : Nat) : (beforeAborts s).elem e =
    if e ≤ 31 then { s.elem e with health := .ok, failures := 0 } else s.elem e := by
  rw [State.elem, beforeAborts_eq]
  simp only
  rw [Tab.get_foldl_mod_at (fun _ => rfl), Tab.get_foldl_mod_at (fun _ => rfl)]
  simp only [List.mem_range]
  by_cases he : e ≤ 31
  · rw [if_pos (by omega), if_pos (by omega), if_pos he]
    rfl
  · rw [if_neg (by omega), if_neg (by omega), if_neg he]
    rfl

theorem beforeAborts_audit {f : Nat} (hf : f ≤ 11) :
    (beforeAborts s).auditFace f = { s.auditFace f with overruns := 0 } := by
  rw [State.auditFace, beforeAborts_eq]
  simp only
  rw [Tab.get_foldl_mod_at (fun _ => rfl), if_pos (List.mem_range.2 (by omega))]
  rfl

/-! ## After the aborts -/

/-- R143: what the reset does to the audit of a face. -/
def auditReset (s : State) (f : Nat) (a : AuditFace) : AuditFace :=
  { a with pending := false, running := false, list := [], pos := 0,
           timer := if 0 < (s.faceSet f).auditInterval then some (s.now + 1000 * (s.faceSet f).auditInterval)
             else a.timer }

theorem foldl_resetAudit (l : List Nat) :
    l.foldl resetAudit s = { s with audit := l.foldl (fun t f => t.mod f (auditReset s f)) s.audit } := by
  induction l generalizing s with
  | nil => rfl
  | cons f r ih => exact ih _

theorem afterAborts_eq : afterAborts s =
    { s with
      ramp := { s.ramp with faces := Tab.empty _ }
      audit := (List.range 12).foldl (fun t f => t.mod f (auditReset s f)) s.audit
      work := [] } := by
  rw [afterAborts, foldl_resetAudit]
  rfl

theorem afterAborts_audit {f : Nat} (hf : f ≤ 11) : (afterAborts s).auditFace f = auditReset s f (s.auditFace f) := by
  have hidem (a : AuditFace) : auditReset s f (auditReset s f a) = auditReset s f a := by
    unfold auditReset
    split_ifs <;> rfl
  rw [State.auditFace, afterAborts_eq]
  exact (Tab.get_foldl_mod_at hidem ..).trans (if_pos (List.mem_range.2 (by omega)))
end

/-! ## The aborts -/

/-- What holds before the aborts and is kept by each abort of an active record that stands holds after them. -/
theorem foldl_abortContext_keeps {P : State → Prop}
    (hP : ∀ t n c, P t → t.ctx n = some c → c.st ≠ .inService → P (abortRecord t (n, c))) {s : State} (hs : P s)
    (l : List Nat) : P (l.foldl abortContext s) := by
  refine foldl_keeps (fun t n _ ht => ?_) hs
  by_cases hidle : ∀ c, t.ctx n = some c → c.st = .inService
  · rw [abortContext_of_idle hidle]
    exact ht
  · push Not at hidle
    obtain ⟨c, hc, hst⟩ := hidle
    rw [abortContext_of_active hc hst]
    exact hP t n c ht hc hst

/-- A record as NODE RESET leaves it: whole in IN_SERVICE, freed in any other state. -/
def servedOnly (x : Option Context) : Option Context := x.filter fun c => c.st = .inService

theorem abortContext_ctx (s : State) (n j : Nat) :
    (abortContext s n).ctx j = if j = n then servedOnly (s.ctx j) else s.ctx j := by
  cases hc : s.ctx n with
  | none =>
    rw [abortContext_of_idle fun c h => by rw [hc] at h; cases h]
    split_ifs with hj
    · rw [hj, hc]; rfl
    · rfl
  | some c =>
    by_cases hst : c.st = .inService
    · rw [abortContext_of_idle fun d h => by rw [hc] at h; cases h; exact hst]
      split_ifs with hj
      · rw [hj, hc, servedOnly, Option.filter_some_pos (by simpa using hst)]
      · rfl
    · rw [abortContext_of_active hc hst, abortRecord_ctx]
      split_ifs with hj
      · rw [hj, hc, servedOnly, Option.filter_some_neg (by simpa using hst)]
      · rfl

theorem foldl_abortContext_ctx (l : List Nat) (s : State) (j : Nat) :
    (l.foldl abortContext s).ctx j = if j ∈ l then servedOnly (s.ctx j) else s.ctx j := by
  have hidem (x : Option Context) : servedOnly (servedOnly x) = servedOnly x := by
    simp [servedOnly, Option.filter_filter]
  induction l generalizing s with
  | nil => simp
  | cons n r ih =>
    rw [List.foldl_cons, ih, abortContext_ctx]
    by_cases hn : j = n
    · subst hn; by_cases hr : j ∈ r <;> simp [hr, hidem]
    · simp [hn]

/-- A record that stands is listed among the handles. -/
theorem mem_handles {s : State} {n : Nat} {c : Context} (hc : s.ctx n = some c) : n ∈ handles s := by
  have found (l : List (Nat × Option Context)) (hl : (Tab.lookup l n).getD none = some c) :
      n ∈ (l.filter fun x => x.2.isSome).map (·.1) := by
    induction l with
    | nil => simp [Tab.lookup] at hl
    | cons x r ih =>
      obtain ⟨k, v⟩ := x
      by_cases hk : k = n
      · subst hk
        simp only [Tab.lookup, if_true, Option.getD_some] at hl
        simp [hl]
      · simp only [Tab.lookup, hk, if_false] at hl
        have := ih hl
        simp only [List.mem_map, List.mem_filter] at this ⊢
        obtain ⟨y, ⟨hy, hs⟩, rfl⟩ := this
        exact ⟨y, ⟨List.mem_cons_of_mem _ hy, hs⟩, rfl⟩
  exact found _ hc

/-- R183: the active records, in increasing handle order. -/
def abortedRecords (s : State) : List (Nat × Context) :=
  s.table.recs.cells.filterMap fun x => x.2.bind fun c => if c.st = .inService then none else some (x.1, c)

theorem active_of_mem_abortedRecords {s : State} {x : Nat × Context} (hx : x ∈ abortedRecords s) :
    x.2.st ≠ .inService := by
  obtain ⟨y, -, hy⟩ := List.mem_filterMap.1 hx
  obtain ⟨c, -, hc⟩ := Option.bind_eq_some_iff.1 hy
  split_ifs at hc with hst
  obtain rfl := Option.some.inj hc
  exact hst

/-- R183: over a table in its canonical form the aborts are those of the active records as they stood. -/
theorem foldl_abortContext_eq {s : State} (hw : s.table.recs.wf) :
    (handles s).foldl abortContext s = (abortedRecords s).foldl abortRecord s := by
  have aborts (l : List (Nat × Option Context)) (hl : (l.map (·.1)).Nodup) (u : State)
      (hu : ∀ x ∈ l, u.ctx x.1 = x.2) : ((l.filter fun x => x.2.isSome).map (·.1)).foldl abortContext u =
        (l.filterMap fun x => x.2.bind fun c => if c.st = .inService then none else some (x.1, c)).foldl
          abortRecord u := by
    induction l generalizing u with
    | nil => rfl
    | cons x r ih =>
      obtain ⟨n, v⟩ := x
      obtain ⟨hn, hr⟩ := List.nodup_cons.1 hl
      have hv : u.ctx n = v := hu (n, v) List.mem_cons_self
      have rest (u' : State) (h' : ∀ j, j ≠ n → u'.ctx j = u.ctx j) : ∀ x ∈ r, u'.ctx x.1 = x.2 := fun x hx => by
        rw [h' _ fun e => hn (List.mem_map.2 ⟨x, hx, e⟩), hu x (List.mem_cons_of_mem _ hx)]
      cases v with
      | none => simpa using ih hr u (rest u fun _ _ => rfl)
      | some c =>
        by_cases hst : c.st = .inService
        · have := ih hr u (rest u fun _ _ => rfl)
          simpa [hst, abortContext_of_idle (s := u) (n := n) fun d h => by rw [hv] at h; cases h; exact hst] using this
        · have := ih hr (abortRecord u (n, c)) (rest _ fun j hj => by rw [abortRecord_ctx, if_neg hj])
          simpa [hst, abortContext_of_active hv hst] using this
  refine aborts s.table.recs.cells ?_ s fun x hx => ((Tab.mem_cells hw x.1 x.2).1 hx).1
  exact List.pairwise_map.2 (hw.1.imp fun h => h.ne)

/-! ### Field by field, over a table in its canonical form -/

theorem abortFrames_congr {s t : State} (h : t.switch = s.switch) (p : Nat) (c : Context) :
    abortFrames t p c = abortFrames s p c := by
  simp only [abortFrames, abortFault, adjacentFrame, h]

theorem foldl_abortRecord_port (l : List (Nat × Context)) (s : State) (p : Nat) :
    (l.foldl abortRecord s).port p = (l.flatMap fun x => abortFrames s p x.2).foldl Port.hand (s.port p) := by
  have hfold := get_foldl (P := AbortOnly s) (read := fun t => t.port p) (g := abortRecord)
    (φ := fun x a => (abortFrames s p x.2).foldl Port.hand a) (l := l) (s := s)
    (fun t x _ ht => ht.trans (abortRecord_abortOnly t x))
    (fun t x _ ht => by rw [abortRecord_port, abortFrames_congr ht.switch]) (.refl s)
  rw [hfold, List.foldl_flatMap]

theorem abortBlock_congr {s t : State} (h : AbortOnly s t) (x : Nat × Context) : abortBlock t x = abortBlock s x := by
  simp only [abortBlock, h.faceSet, h.elem]

/-- R148, R149: the blocks that find room in the queue, stamped in their order. -/
theorem foldl_joinSafety {α : Type} (b : α → Option (Nat → Request)) (l : List α) (q : List Request) (m k : Nat) :
    (l.foldl (fun a x => joinSafety (b x) a) (q, m + k)).1 =
      q ++ (((l.filterMap b).take (16 - q.length)).zipIdx k).map fun x => x.1 (m + x.2) := by
  induction l generalizing q k with
  | nil => simp
  | cons x r ih =>
    rw [List.foldl_cons]
    cases hb : b x with
    | none => rw [joinSafety, ih, List.filterMap_cons_none hb]
    | some g =>
      rw [joinSafety, List.filterMap_cons_some hb]
      split_ifs with hl
      · have hlen : 16 - q.length = (16 - (q ++ [g (m + k)]).length) + 1 := by
          rw [List.length_append, List.length_singleton]
          simp only at hl
          omega
        rw [Nat.add_assoc, ih, hlen, List.take_succ_cons, List.zipIdx_cons, List.map_cons, List.append_assoc]
        rfl
      · have hzero : 16 - q.length = 0 := by simp only at hl; omega
        rw [ih, hzero]
        rfl

theorem foldl_abortRecord_safety (l : List (Nat × Context)) (s : State) :
    (l.foldl abortRecord s).bus.safetyQ =
      (l.foldl (fun a x => joinSafety (abortBlock s x) a) (s.bus.safetyQ, s.bus.seq)).1 := by
  have hfold := get_foldl (P := AbortOnly s) (read := fun t => (t.bus.safetyQ, t.bus.seq)) (g := abortRecord)
    (φ := fun x a => joinSafety (abortBlock s x) a) (l := l) (s := s)
    (fun t x _ ht => ht.trans (abortRecord_abortOnly t x))
    (fun t x _ ht => by rw [abortRecord_safety, abortBlock_congr ht]) (.refl s)
  exact congrArg Prod.fst hfold

/-- R10, R12: the Directory after the aborts is that of the spans' freeings alone. -/
theorem foldl_abortRecord_dir {l : List (Nat × Context)} (hl : ∀ x ∈ l, x.2.st ≠ .inService) {s t : State}
    (h : s.dir = t.dir) :
    (l.foldl abortRecord s).dir = (l.foldl (fun u x =>
      if x.2.st = .settled then
        lowerLive x.2.egress x.2.count (freeSpan x.1 x.2.ingress x.2.egress x.2.first x.2.count u)
      else freeSpan x.1 x.2.ingress x.2.egress x.2.first x.2.count u) t).dir := by
  refine List.foldl_rel (r := fun a b : State => a.dir = b.dir) h fun x hx u u' hu => ?_
  rw [← spanFreed_of_active x.1 x.2 u' (hl x hx), abortRecord_dir]
  exact spanFreed_dir_congr ((leaveRamp_abortSent_dir u x).trans hu) _ (hl x hx)

/-! ### Over any table -/

/-- A port as NODE RESET leaves it: its link as it was, FAULT frames alone in its queues, no counter above 0 but those
of frames dropped at hand-over. -/
structure PortReset (x y : Port) : Prop where
  link      : y.link = x.link
  neighbour : y.neighbour = x.neighbour
  acq       : y.acq = x.acq
  hello     : y.helloTimer = x.helloTimer
  dead      : y.deadTimer = x.deadTimer
  bulk      : y.bulk = []
  urgent    : ∀ f ∈ y.urgent, f.kind = .fault
  counters  : y.counters =
    { rx := 0, tx := 0, crc := 0, malformed := 0, notUp := y.counters.notUp, drop := y.counters.drop, hopLimit := 0 }

theorem PortReset.startNext {x y : Port} (h : PortReset x y) : PortReset x y.startNext := by
  obtain ⟨h1, h2, h3, h4, h5, hbulk, hurgent, hcount⟩ := h
  unfold Port.startNext
  split
  · rename_i hu
    exact ⟨h1, h2, h3, h4, h5, hbulk, fun g hg => hurgent g (by rw [hu]; exact List.mem_cons_of_mem _ hg), hcount⟩
  · rename_i hb
    rw [hbulk] at hb
    cases hb
  · exact ⟨h1, h2, h3, h4, h5, hbulk, hurgent, hcount⟩

theorem PortReset.hand {x y : Port} (h : PortReset x y) {f : Frame} (hf : f.kind = .fault) :
    PortReset x (y.hand f) := by
  obtain ⟨h1, h2, h3, h4, h5, hbulk, hurgent, hcount⟩ := h
  have counted {c : PortCounters} (hc : c =
      { rx := 0, tx := 0, crc := 0, malformed := 0, notUp := c.notUp, drop := c.drop, hopLimit := 0 }) :
      PortReset x { y with counters := c } := ⟨h1, h2, h3, h4, h5, hbulk, hurgent, hc⟩
  unfold Port.hand
  rw [hf]
  split_ifs with htakes hurg hroom hroom'
  · exact counted (by rw [hcount])
  · refine PortReset.startNext ⟨h1, h2, h3, h4, h5, hbulk, fun g hg => ?_, hcount⟩
    rcases List.mem_append.1 hg with hg | hg
    · exact hurgent g hg
    · rw [List.mem_singleton.1 hg, hf]
  · exact counted (by rw [hcount])
  · exact absurd rfl hurg
  · exact absurd rfl hurg

theorem kind_of_mem_abortFrames {s : State} {p : Nat} {c : Context} {f : Frame} (hf : f ∈ abortFrames s p c) :
    f.kind = .fault := by
  unfold abortFrames at hf
  rcases List.mem_append.1 hf with hf | hf <;> split_ifs at hf <;>
    simp only [List.mem_singleton, List.not_mem_nil] at hf <;> rw [hf] <;> rfl

/-- A SAFETY request that an abort has placed: the block of an active record of `s`. -/
def BlocksRecord (s : State) (r : Request) : Prop :=
  r.txn = .setBlock ∧ ∃ n c, s.ctx n = some c ∧ c.st ≠ .inService ∧ r.first = c.first ∧ r.count = c.count ∧
    r.dither = c.work.dithering ∧ (s.faceSet c.egress).wss = some r.elem ∧ r.tag = .ctx n c.inst .safety

theorem mem_joinSafety {b : Option (Nat → Request)} {q : List Request × Nat} {r : Request}
    (hr : r ∈ (joinSafety b q).1) : r ∈ q.1 ∨ ∃ g, b = some g ∧ r = g q.2 := by
  unfold joinSafety at hr
  split at hr
  · exact Or.inl hr
  · split_ifs at hr
    · rcases List.mem_append.1 hr with hr | hr
      · exact Or.inl hr
      · exact Or.inr ⟨_, rfl, List.mem_singleton.1 hr⟩
    · exact Or.inl hr

theorem blocksRecord_of_abortBlock {s : State} {n m : Nat} {c : Context} {g : Nat → Request}
    (hg : abortBlock s (n, c) = some g) (hc : s.ctx n = some c) (hst : c.st ≠ .inService) : BlocksRecord s (g m) := by
  obtain ⟨e, he, hg⟩ := Option.bind_eq_some_iff.1 hg
  split_ifs at hg
  obtain rfl := Option.some.inj hg
  exact ⟨rfl, n, c, hc, hst, rfl, rfl, rfl, he, rfl⟩

/-- What the aborts keep, of the state `s` before them. -/
structure AbortsKept (s t : State) : Prop where
  only  : AbortOnly s t
  ctx   : ∀ n c, t.ctx n = some c → s.ctx n = some c
  dir   : DirKept s t
  audit : ∀ f, (t.auditFace f).timer = (s.auditFace f).timer ∧ (t.auditFace f).overruns = (s.auditFace f).overruns
  wf    : s.table.recs.wf → t.table.recs.wf
  queue : (∀ r ∈ s.bus.safetyQ, BlocksRecord s r) → ∀ r ∈ t.bus.safetyQ, BlocksRecord s r
  ports : ∀ x p, PortReset x (s.port p) → PortReset x (t.port p)

theorem abortRecord_kept {s t : State} {n : Nat} {c : Context} (h : AbortsKept s t) (hc : t.ctx n = some c)
    (hst : c.st ≠ .inService) : AbortsKept s (abortRecord t (n, c)) where
  only := h.only.trans (abortRecord_abortOnly ..)
  ctx j d hd := by
    rw [abortRecord_ctx] at hd
    split_ifs at hd
    exact h.ctx j d hd
  dir := h.dir.trans (abortRecord_dirKept ..)
  audit f := by
    rw [(abortRecord_audit t (n, c) f).1, (abortRecord_audit t (n, c) f).2]
    exact h.audit f
  wf hw := abortRecord_wf _ _ (h.wf hw)
  queue hq r hr := by
    have hjoin := congrArg Prod.fst (abortRecord_safety t (n, c))
    simp only at hjoin
    rw [hjoin] at hr
    rcases mem_joinSafety hr with hr | ⟨g, hg, rfl⟩
    · exact h.queue hq r hr
    · rw [abortBlock_congr h.only] at hg
      exact blocksRecord_of_abortBlock hg (h.ctx n c hc) hst
  ports x p hx := by
    rw [abortRecord_port]
    exact foldl_keeps (P := PortReset x) (fun _ _ hf hy => hy.hand (kind_of_mem_abortFrames hf)) (h.ports x p hx)

theorem foldl_abortContext_kept (l : List Nat) (s : State) : AbortsKept s (l.foldl abortContext s) :=
  foldl_abortContext_keeps (fun _ _ _ h hc hst => abortRecord_kept h hc hst)
    ⟨.refl s, fun _ _ h => h, .of_eq rfl, fun _ => ⟨rfl, rfl⟩, fun h => h, fun h => h, fun _ _ h => h⟩ l

/-! ## The request -/

/-- The state that NODE RESET leaves before it answers: `w` is the state after the aborts. -/
theorem exec_nodeReset {h : Hdr} {s : State} (hf : ForNode h s) :
    exec (.nodeReset h []) s =
      .next (arbitrate (respond h reqNodeReset .ok [] (nodeResetSteps (countRx h.port s)))) := by
  change Host.Outcome.next (arbitrate (onNodeReset h [] s)) = _
  rw [onNodeReset, show parseEmpty [] = some () from rfl, onRequest_forNode hf]
  rfl

/-- R155, R158: before the aborts the elements of the node are OK. -/
theorem beforeAborts_failed (s : State) (e : Nat) :
    ((beforeAborts s).elem e).health = .failed ↔ 31 < e ∧ (s.elem e).health = .failed := by
  rw [beforeAborts_elem]
  by_cases he : e ≤ 31
  · simp [he]
  · simp [he, show 31 < e by omega]

theorem abortBlock_beforeAborts (s : State) (x : Nat × Context) : abortBlock (beforeAborts s) x =
    (s.faceSet x.2.egress).wss.bind fun e =>
      if 31 < e ∧ (s.elem e).health = .failed then none
      else some fun stamp => ⟨.safety, stamp, e, .setBlock, x.2.work.dithering, x.2.first, x.2.count,
        .ctx x.1 x.2.inst .safety⟩ := by
  simp only [abortBlock, beforeAborts_faceSet, beforeAborts_failed]

/-- The state after the aborts. -/
def aborted (s : State) : State := (handles (beforeAborts s)).foldl abortContext (beforeAborts s)

theorem nodeResetSteps_aborted (s : State) : nodeResetSteps s = afterAborts (aborted s) := nodeResetSteps_eq s

theorem aborted_kept (s : State) : AbortsKept (beforeAborts s) (aborted s) := foldl_abortContext_kept ..

theorem aborted_ctx (s : State) (n : Nat) : (aborted s).ctx n = servedOnly (s.ctx n) := by
  rw [aborted, foldl_abortContext_ctx, beforeAborts_ctx]
  split_ifs with hn
  · rfl
  · cases hc : s.ctx n with
    | none => rfl
    | some c => exact absurd (mem_handles ((beforeAborts_ctx s n).trans hc)) hn

theorem aborted_eq {s : State} (hw : s.table.recs.wf) :
    aborted s = (abortedRecords s).foldl abortRecord (beforeAborts s) := by
  rw [aborted, foldl_abortContext_eq (by rw [beforeAborts_recs]; exact hw), abortedRecords, abortedRecords,
    beforeAborts_recs]

/-- R37: no context is active after the aborts. -/
theorem activeCount_aborted {s : State} (hw : s.table.recs.wf) : activeCount (aborted s) = 0 := by
  have hw' := (aborted_kept s).wf (by rw [beforeAborts_recs]; exact hw)
  refine List.length_eq_zero_iff.2 (List.filter_eq_nil_iff.2 fun x hx => ?_)
  obtain ⟨n, v⟩ := x
  have hv : servedOnly (s.ctx n) = v := (aborted_ctx s n).symm.trans ((Tab.mem_cells hw' n v).1 hx).1
  cases v with
  | none => simp
  | some c =>
    obtain ⟨-, hst⟩ := Option.filter_eq_some_iff.1 hv
    have hst : c.st = .inService := by simpa using hst
    simp [hst, CtxState.active]

end Sys2Proof.Machine
end

section
/-! CERTIFICATE. NODE RESET (O60): what the steps of the reset leave, and the statement put together from it. -/
namespace Sys2Proof.Machine

section
variable (s : State)

/-- R20, R112, R158, R174, R180: what NODE RESET clears, and that the rest stays but for what the aborts bring. -/
theorem nodeResetSteps_only : nodeResetSteps s =
    { s with
      dir := (nodeResetSteps s).dir
      table := { s.table with recs := (nodeResetSteps s).table.recs, closings := [] }
      ramp := { s.ramp with faces := Tab.empty _ }
      audit := (nodeResetSteps s).audit
      bus := { s.bus with
        elems := (beforeAborts s).bus.elems, safetyQ := (nodeResetSteps s).bus.safetyQ, rampQ := [], auditQ := [],
        mgmtQ := [], seq := (nodeResetSteps s).bus.seq, rr := .mgmt,
        onBus := s.bus.onBus.map fun b => { b with orphan := true } }
      ports := (nodeResetSteps s).ports
      stray := Tab.empty 0
      resp := { s.resp with counters := NodeCounters.zero }
      work := [] } := by
  rw [nodeResetSteps_aborted, afterAborts_eq]
  have honly := (aborted_kept s).only
  unfold AbortOnly at honly
  generalize aborted s = w at honly
  rw [honly, beforeAborts_eq]

theorem nodeResetSteps_table : (nodeResetSteps s).table = (aborted s).table := by
  rw [nodeResetSteps_aborted, afterAborts_eq]

theorem nodeResetSteps_dir : (nodeResetSteps s).dir = (aborted s).dir := by
  rw [nodeResetSteps_aborted, afterAborts_eq]

theorem nodeResetSteps_safetyQ : (nodeResetSteps s).bus.safetyQ = (aborted s).bus.safetyQ := by
  rw [nodeResetSteps_aborted, afterAborts_eq]

theorem nodeResetSteps_port (p : Nat) : (nodeResetSteps s).port p = (aborted s).port p := by
  rw [nodeResetSteps_aborted, afterAborts_eq]
  rfl

theorem nodeResetSteps_ctx (n : Nat) : (nodeResetSteps s).ctx n = servedOnly (s.ctx n) := by
  rw [State.ctx, nodeResetSteps_table]
  exact aborted_ctx s n

theorem nodeResetSteps_activeCount (hw : s.table.recs.wf) : activeCount (nodeResetSteps s) = 0 := by
  rw [activeCount, nodeResetSteps_table]
  exact activeCount_aborted hw

theorem nodeResetSteps_dirKept : DirKept s (nodeResetSteps s) :=
  ((DirKept.of_eq (beforeAborts_dir s)).trans (aborted_kept s).dir).trans (.of_eq (nodeResetSteps_dir s))

theorem nodeResetSteps_elem {e : Nat} (he : e ≤ 31) :
    (nodeResetSteps s).elem e = { s.elem e with health := .ok, failures := 0 } := by
  have h : (nodeResetSteps s).elem e = (aborted s).elem e := by
    rw [nodeResetSteps_aborted, afterAborts_eq]
    rfl
  rw [h, (aborted_kept s).only.elem, beforeAborts_elem, if_pos he]

/-- R143, R180: the audit of a face after the reset. -/
theorem nodeResetSteps_audit {f : Nat} (hf : f ≤ 11) : (nodeResetSteps s).auditFace f =
    { timer := if 0 < (s.faceSet f).auditInterval then some (s.now + 1000 * (s.faceSet f).auditInterval)
        else (s.auditFace f).timer,
      pending := false, running := false, list := [], pos := 0, overruns := 0 } := by
  have hk := aborted_kept s
  have hset : (aborted s).faceSet f = s.faceSet f := (hk.only.faceSet f).trans (beforeAborts_faceSet s f)
  have hnow : (aborted s).now = s.now := by rw [hk.only, beforeAborts_eq]
  rw [nodeResetSteps_aborted, afterAborts_audit _ hf, auditReset, hset, hnow, (hk.audit f).1, (hk.audit f).2,
    beforeAborts_audit s hf]

theorem nodeResetSteps_portReset {p : Nat} (hp : p ≤ 8) : PortReset (s.port p) ((nodeResetSteps s).port p) := by
  rw [nodeResetSteps_port]
  refine (aborted_kept s).ports _ _ ?_
  rw [beforeAborts_port s hp]
  exact ⟨rfl, rfl, rfl, rfl, rfl, rfl, fun _ hf => absurd hf List.not_mem_nil, rfl⟩

/-- R150, R183: only safety blocks of aborted contexts are queued. -/
theorem nodeResetSteps_blocks : ∀ r ∈ (nodeResetSteps s).bus.safetyQ, BlocksRecord s r := by
  rw [nodeResetSteps_safetyQ]
  intro r hr
  have hempty : ∀ r ∈ (beforeAborts s).bus.safetyQ, BlocksRecord (beforeAborts s) r := by
    rw [beforeAborts_eq]
    exact fun r hr => absurd hr List.not_mem_nil
  have h := (aborted_kept s).queue hempty r hr
  unfold BlocksRecord at h ⊢
  simpa only [beforeAborts_ctx, beforeAborts_faceSet] using h

/-! ### Over a canonical table -/

variable {s} (hw : s.table.recs.wf)
include hw

theorem nodeResetSteps_ports {p : Nat} (hp : p ≤ 8) : (nodeResetSteps s).port p =
    ((abortedRecords s).flatMap fun x => abortFrames s p x.2).foldl Port.hand
      { s.port p with urgent := [], bulk := [], counters := PortCounters.zero } := by
  rw [nodeResetSteps_port, aborted_eq hw, foldl_abortRecord_port, beforeAborts_port s hp]
  simp only [abortFrames_congr (beforeAborts_switch s)]

theorem nodeResetSteps_safety : (nodeResetSteps s).bus.safetyQ =
    (((abortedRecords s).filterMap fun x => (s.faceSet x.2.egress).wss.bind fun e =>
      if 31 < e ∧ (s.elem e).health = .failed then none
      else some fun stamp => ⟨.safety, stamp, e, .setBlock, x.2.work.dithering, x.2.first, x.2.count,
        .ctx x.1 x.2.inst .safety⟩).take 16).zipIdx.map fun x => x.1 (s.bus.seq + x.2) := by
  have hbus : (beforeAborts s).bus.safetyQ = [] ∧ (beforeAborts s).bus.seq = s.bus.seq := by
    rw [beforeAborts_eq]
    exact ⟨rfl, rfl⟩
  rw [nodeResetSteps_safetyQ, aborted_eq hw, foldl_abortRecord_safety, hbus.1, hbus.2]
  exact (foldl_joinSafety _ _ [] s.bus.seq 0).trans (by
    rw [List.nil_append, List.length_nil, Nat.sub_zero, funext (abortBlock_beforeAborts s)])

theorem nodeResetSteps_dir_eq {t : State} (ht : s.dir = t.dir) : (nodeResetSteps s).dir =
    ((abortedRecords s).foldl (fun u x =>
      if x.2.st = .settled then
        lowerLive x.2.egress x.2.count (freeSpan x.1 x.2.ingress x.2.egress x.2.first x.2.count u)
      else freeSpan x.1 x.2.ingress x.2.egress x.2.first x.2.count u) t).dir := by
  rw [nodeResetSteps_dir, aborted_eq hw]
  exact foldl_abortRecord_dir (fun _ hx => active_of_mem_abortedRecords hx) ((beforeAborts_dir s).trans ht)
end

/-- The count of the received frame is among the counters that are cleared. -/
theorem countRx_cleared (q p : Nat) (s : State) :
    ({ (countRx q s).port p with urgent := [], bulk := [], counters := PortCounters.zero } : Port) =
      { s.port p with urgent := [], bulk := [], counters := PortCounters.zero } := by
  rw [countRx, State.modPort_port]
  split_ifs with hp
  · rw [hp]
  · rfl

/-- A port that has been reset, of the port before the request was counted. -/
theorem portReset_of_countRx {q p : Nat} {s : State} {y : Port} (h : PortReset ((countRx q s).port p) y) :
    PortReset (s.port p) y := by
  obtain ⟨h1, h2, h3, h4, h5, h6, h7, h8⟩ := h
  rw [countRx, State.modPort_port] at h1 h2 h3 h4 h5
  split_ifs at h1 h2 h3 h4 h5 with hp
  · rw [hp]; exact ⟨h1, h2, h3, h4, h5, h6, h7, h8⟩
  · exact ⟨h1, h2, h3, h4, h5, h6, h7, h8⟩

/-- Settles O60: the steps of NODE RESET are a clearing before the aborts, the aborts, and a clearing after them; what
an abort keeps is kept by all of them, and over a canonical table they are the aborts of the active records as they stood,
so frames, safety blocks and Directory follow record by record. -/
theorem nodeResetAbortsActive : Obligations.NodeResetAbortsActive := by
  intro h s hf
  refine ⟨nodeResetSteps (countRx h.port s), exec_nodeReset hf, ?_⟩
  have honly := nodeResetSteps_only (countRx h.port s)
  have hctx := nodeResetSteps_ctx (countRx h.port s)
  have hcount := nodeResetSteps_activeCount (countRx h.port s)
  obtain ⟨hfaces, hblocks, hentries⟩ := nodeResetSteps_dirKept (countRx h.port s)
  have hreset (p : Nat) (hp : p ≤ 8) := portReset_of_countRx (nodeResetSteps_portReset (countRx h.port s) hp)
  have hports (hw : s.table.recs.wf) (p : Nat) (hp : p ≤ 8) := nodeResetSteps_ports (s := countRx h.port s) hw hp
  have hsafety (hw : s.table.recs.wf) := nodeResetSteps_safety (s := countRx h.port s) hw
  have hdir (hw : s.table.recs.wf) := nodeResetSteps_dir_eq (s := countRx h.port s) (t := s) hw rfl
  have helem (e : Nat) (he : e ≤ 31) := nodeResetSteps_elem (countRx h.port s) he
  have hqueue := nodeResetSteps_blocks (countRx h.port s)
  have haudit (f : Nat) (hf : f ≤ 11) := nodeResetSteps_audit (countRx h.port s) hf
  simp only [countRx_cleared] at hports
  generalize (beforeAborts (countRx h.port s)).bus.elems = elems at honly
  generalize nodeResetSteps (countRx h.port s) = t at *
  refine ⟨fun n => (hctx n).trans ?_, hcount, ?_, ?_, hfaces, hblocks, fun page i => hentries _, ?_, ?_, ?_, ?_, ?_, ?_,
    fun f => ?_, fun p hp => ?_, fun hw => ⟨hports hw, hsafety hw, hdir hw⟩, fun f => ?_, helem, ?_, ?_, ?_, ?_, ?_, ?_,
    hqueue, haudit⟩
  · change servedOnly (s.ctx n) = _
    cases hc : s.ctx n with
    | none => rfl
    | some c =>
      by_cases hst : c.st = .inService
      · rw [servedOnly, Option.filter_some_pos (by simpa using hst)]; exact (if_pos hst).symm
      · rw [servedOnly, Option.filter_some_neg (by simpa using hst)]; exact (if_neg hst).symm
  · rw [honly]; rfl
  · rw [honly]
  · rw [honly]; rfl
  · rw [honly]; rfl
  · rw [honly]; rfl
  · rw [honly]; rfl
  · rw [honly]; rfl
  · rw [honly]; rfl
  · rw [honly]; rfl
  · obtain ⟨h1, h2, h3, h4, h5, h6, h7, h8⟩ := hreset p hp
    exact ⟨h1, h2, h3, h4, h5, h6, h7, h8⟩
  · rw [honly]; rfl
  · rw [honly]; rfl
  · rw [honly]; rfl
  · rw [honly]
  · rw [honly]
  · rw [honly]
  · rw [honly]

end Sys2Proof.Machine
end

section
/-! SUPPORT. What Laws 3, 5, 6, 7 and 8 read of a state: a record's facts, the requests and results under way; and
the states that agree in all of it. -/
namespace Sys2Proof.Machine

/-! ## What the laws read -/

/-- All that Laws 3 and 5 to 8 read of a state: the Context Table's records, the profiles, the overlay, the requests
queued and on the bus, and what is still to be done in the take. -/
def State.view (s : State) :
    Tab (none : Option Context) × Tab Profile.initial × Overlay × List Request × Option OnBus × List Work :=
  (s.table.recs, s.ramp.profiles, s.resp.overlay, s.bus.queued, s.bus.onBus, s.work)

theorem State.view_eq_iff {s t : State} : t.view = s.view ↔
    t.table.recs = s.table.recs ∧ t.ramp.profiles = s.ramp.profiles ∧ t.resp.overlay = s.resp.overlay ∧
      t.bus.queued = s.bus.queued ∧ t.bus.onBus = s.bus.onBus ∧ t.work = s.work := by simp [State.view]

theorem DirOnly.view {s t : State} (h : DirOnly s t) : t.view = s.view := by rw [h]; rfl

/-- A record with the fields that no law of a record's progress reads put to rest: flags, timers, the optional parts
and what the Controller keeps. -/
def Context.facts (c : Context) : Context :=
  { c with guardHeld := false, pilotValidated := false, setupAcked := false, deadline := none, hopReports := none,
           watch := none, faultRec := none, drift := none, probeTimer := none, work := ProbeWork.none,
           carried := none, rampHeld := false, rampDwell := none }

/-- The instance, identity and path of a record, and its adopted flag (R26, R28). -/
def Context.identity (c : Context) : Context :=
  { c.facts with st := .reserved, target := 0, atten := .blocked, lastReading := none, readingsUsed := 0,
                 settledRun := 0, probeLevel := 0 }

/-- R27: what Laws 5 and 6 ask of one record, with the profile it names. -/
def Context.Fit (p : Profile) (c : Context) : Prop :=
  ((∀ a, c.atten = .db a → a ≤ 2500) ∧ (-4000 ≤ c.target ∧ c.target ≤ 1500) ∧
    ∀ r, c.lastReading = some r → -6000 ≤ r ∧ r ≤ 2000) ∧
  (c.st ≠ .inService → c.st ≠ .withdrawing → c.readingsUsed ≤ p.maxSteps) ∧
  c.settledRun ≤ 4 ∧ c.probeLevel ≤ 3 ∧
  ((c.st = .reserved ∨ c.st = .probing ∨ c.st = .armed) → c.readingsUsed = 0 ∧ c.settledRun = 0) ∧
  (c.st = .ramping → c.readingsUsed < p.maxSteps ∧ c.settledRun < p.settleCount)

/-- R27: the attenuation that the success of a request with this tag records is in range. -/
def Tag.Bounded (t : Tag) : Prop := ∀ h i p a, t = .ctx h i p → p.setting = some a → a ≤ 2500

/-- R146: a request sets, and has recorded, attenuations in range. -/
def Request.Bounded (r : Request) : Prop := (∀ a, r.txn = .setAtten a → a ≤ 2500) ∧ r.tag.Bounded

/-- A result to hand back stands for a setting in range. -/
def Work.Bounded (w : Work) : Prop := ∀ t r, w = .result t r → t.Bounded

/-- Every request on the element bus, and every result still to be handed back, is in range. -/
def AsksBounded (s : State) : Prop :=
  (∀ r ∈ s.bus.queued, r.Bounded) ∧ (∀ b, s.bus.onBus = some b → b.req.Bounded) ∧ ∀ w ∈ s.work, w.Bounded

/-- R90: every profile is within its ranges. -/
def Ranged (s : State) : Prop := ∀ n, (s.profile n).InRange

/-- Laws 5 and 6 with the ranges they rest on, inside a take. -/
def Sound (s : State) : Prop :=
  Ranged s ∧ AsksBounded s ∧ ∀ h c, s.ctx h = some c → c.Fit (s.profile c.profile)

theorem settingsSound_iff (s : State) : SettingsSound s ↔
    (∀ r ∈ s.bus.queued, r.Bounded) ∧ ∀ b, s.bus.onBus = some b → b.req.Bounded := by
  constructor
  · exact fun h => ⟨fun r hr => h r (.inl hr), fun b hb => h _ (.inr ⟨b, hb, rfl⟩)⟩
  · rintro ⟨hq, hb⟩ r (hr | ⟨b, hob, rfl⟩)
    exacts [hq r hr, hb b hob]

/-- Laws 5 and 6 as the obligation states them are soundness between takes. -/
theorem progressLaws_iff (s : State) : ProgressLaws s ↔ s.work = [] ∧ s.table.recs.wf ∧ Sound s := by
  unfold ProgressLaws Sound AsksBounded
  rw [settingsSound_iff]
  constructor
  · rintro ⟨hw, hwf, hr, ⟨hq, hb⟩, h5, h6, hp⟩
    exact ⟨hw, hwf, hr, ⟨hq, hb, by simp [hw]⟩, fun h c hc => ⟨h5 h c hc, h6 h c hc, hp h c hc⟩⟩
  · rintro ⟨hw, hwf, hr, ⟨hq, hb, -⟩, hfit⟩
    exact ⟨hw, hwf, hr, ⟨hq, hb⟩, fun h c hc => (hfit h c hc).1, fun h c hc => (hfit h c hc).2.1,
      fun h c hc => (hfit h c hc).2.2⟩

/-! ## States that agree in it -/

section
variable {s t : State} (h : t.view = s.view)
include h

theorem ctx_of_view (n : Nat) : t.ctx n = s.ctx n := by rw [State.ctx, (State.view_eq_iff.1 h).1]; rfl

theorem profile_of_view (n : Nat) : t.profile n = s.profile n := by rw [State.profile, (State.view_eq_iff.1 h).2.1]; rfl

theorem activeCount_of_view : activeCount t = activeCount s := by rw [activeCount, (State.view_eq_iff.1 h).1]; rfl

theorem asksBounded_of_view (ha : AsksBounded s) : AsksBounded t := by
  obtain ⟨-, -, -, hq, hb, hw⟩ := State.view_eq_iff.1 h
  rw [AsksBounded, hq, hb, hw]
  exact ha

theorem law3_of_view (hl : Law3 s) : Law3 t := by
  obtain ⟨hr, -, ho, -⟩ := State.view_eq_iff.1 h
  rw [Law3, hr, ho, activeCount_of_view h]
  exact hl

theorem law8_of_view (hl : Law8 s) : Law8 t := by
  rw [Law8, (State.view_eq_iff.1 h).1]
  simp only [ctx_of_view h]
  exact hl

theorem sound_of_view (hs : Sound s) : Sound t := by
  obtain ⟨hr, ha, hf⟩ := hs
  refine ⟨fun n => profile_of_view h n ▸ hr n, asksBounded_of_view h ha, fun n c hc => ?_⟩
  rw [profile_of_view h]
  exact hf n c (ctx_of_view h n ▸ hc)

end

/-! ## Active contexts (R37) -/

/-- The handles of the contexts in a state other than FREE and IN_SERVICE. -/
def activeHandles (s : State) : List Nat :=
  (s.table.recs.cells.filter fun x => (x.2.map fun c => c.st.active).getD false).map (·.1)

theorem activeCount_eq (s : State) : activeCount s = (activeHandles s).length := (List.length_map ..).symm

theorem nodup_activeHandles {s : State} (hw : s.table.recs.wf) : (activeHandles s).Nodup := by
  have hp : (s.table.recs.cells.map (·.1)).Pairwise (· < ·) := List.pairwise_map.2 hw.1
  exact (hp.imp ne_of_lt).sublist (List.Sublist.map _ List.filter_sublist)

theorem mem_activeHandles {s : State} (hw : s.table.recs.wf) (h : Nat) :
    h ∈ activeHandles s ↔ ∃ c, s.ctx h = some c ∧ c.st.active = true := by
  simp only [activeHandles, List.mem_map, List.mem_filter, Prod.exists]
  constructor
  · rintro ⟨j, x, ⟨hm, ha⟩, rfl⟩
    obtain ⟨hx, -⟩ := (Tab.mem_cells hw j x).1 hm
    cases x with
    | none => cases ha
    | some c => exact ⟨c, hx, ha⟩
  · rintro ⟨c, hc, ha⟩
    exact ⟨h, some c, ⟨(Tab.mem_cells hw h _).2 ⟨hc, by simp⟩, ha⟩, rfl⟩

/-- Active contexts that were active before, but for those at the handles of `l`. -/
theorem activeCount_le {s t : State} (hs : s.table.recs.wf) (ht : t.table.recs.wf) (l : List Nat)
    (h : ∀ j y, t.ctx j = some y → y.st.active = true → j ∈ l ∨ ∃ x, s.ctx j = some x ∧ x.st.active = true) :
    activeCount t ≤ l.length + activeCount s := by
  rw [activeCount_eq, activeCount_eq, ← List.length_append]
  refine ((nodup_activeHandles ht).subperm fun j hj => ?_).length_le
  obtain ⟨y, hy, ha⟩ := (mem_activeHandles ht j).1 hj
  rw [List.mem_append, mem_activeHandles hs]
  exact h j y hy ha

end Sys2Proof.Machine
end

section
/-! SUPPORT. How one record moves on while it holds its instance, and the relations between states that differ in no
record's facts or in those of one record. -/
namespace Sys2Proof.Machine

/-! ## One record -/

/-- What stays of a record while it holds its instance: identity and path, a probe level that does not fall from a
state that keeps RESERVED records at level 0 (Law 7), and no return to RESERVED or PROBING. -/
structure Context.Next (c d : Context) : Prop where
  identity : d.identity = c.identity
  level    : (c.st = .reserved → c.probeLevel = 0) → (d.st = .reserved → d.probeLevel = 0) ∧ c.probeLevel ≤ d.probeLevel
  early    : (d.st = .reserved ∨ d.st = .probing) → (c.st = .reserved ∨ c.st = .probing)

theorem Context.Next.refl (c : Context) : c.Next c := ⟨rfl, fun h => ⟨h, le_rfl⟩, id⟩

theorem Context.Next.trans {c d e : Context} (h : c.Next d) (k : d.Next e) : c.Next e where
  identity := k.identity.trans h.identity
  level h0 := ⟨(k.level (h.level h0).1).1, (h.level h0).2.trans (k.level (h.level h0).1).2⟩
  early he := h.early (k.early he)

/-- A record moves on as its facts do. -/
theorem Context.Next.of_facts {c d : Context} (h : c.facts.Next d.facts) : c.Next d := ⟨h.identity, h.level, h.early⟩

theorem Context.next_of_facts_eq {c d : Context} (h : d.facts = c.facts) : c.Next d := .of_facts (h ▸ .refl _)

theorem Context.fit_of_facts_eq {p : Profile} {c d : Context} (h : d.facts = c.facts) (hf : c.Fit p) : d.Fit p := by
  change c.facts.Fit p at hf
  rw [← h] at hf
  exact hf

/-- The fields of a record that its facts determine. -/
theorem Context.st_of_facts {c d : Context} (h : d.facts = c.facts) : d.st = c.st :=
  (congrArg Context.st h : d.facts.st = c.facts.st)

theorem Context.profile_of_facts {c d : Context} (h : d.facts = c.facts) : d.profile = c.profile :=
  (congrArg Context.profile h : d.facts.profile = c.facts.profile)

/-- R34: the changes of state other than those of a withdrawal. -/
def CtxState.leads : CtxState → CtxState → Bool
  | .reserved, .probing | .probing, .armed | .armed, .ramping | .ramping, .settled | .settled, .inService => true
  | a, .faulted => a.faultable
  | _, _ => false

/-- The record in another state. -/
def Context.inState (st : CtxState) (c : Context) : Context := { c with st := st }

/-- The record at another probe level. -/
def Context.atLevel (k : Nat) (c : Context) : Context := { c with probeLevel := k }

theorem Context.next_enter (c : Context) {st : CtxState} (h : c.st.leads st = true) : c.Next (c.inState st) where
  identity := rfl
  level _ := by
    cases hc : c.st <;> cases st <;> simp_all [CtxState.leads, CtxState.faultable, Context.inState]
  early := by
    change (st = .reserved ∨ st = .probing) → _
    cases hc : c.st <;> cases st <;> simp_all [CtxState.leads, CtxState.faultable]

theorem active_of_leads {a b : CtxState} (h : a.leads b = true) (_ : b.active = true) : a.active = true := by
  cases a <;> cases b <;> simp_all [CtxState.leads, CtxState.faultable, CtxState.active]

/-- A record entering a state has used no reading before RAMPING, and room is left when RAMPING begins. -/
theorem Context.Fit.enter {p : Profile} {c : Context} (hf : c.Fit p) (hp : p.InRange) {st : CtxState}
    (h : c.st.leads st = true) : (c.inState st).Fit p := by
  obtain ⟨h5, h6, hrun, hlevel, hearly, hramp⟩ := hf
  obtain ⟨-, -, hsc, -, -, hms, -⟩ := hp
  refine ⟨h5, fun _ _ => ?_, hrun, hlevel, fun _ => ?_, fun _ => ?_⟩
  all_goals
    revert h6 hearly hramp
    simp only [Context.inState] at *
    cases hc : c.st <;> cases st <;> simp_all [CtxState.leads, CtxState.faultable]
    try omega

/-! ## States that differ in no record's facts, or in those of one -/

/-- The states agree but for the facts of records; where `full` says so, what is asked of the bus stays in range. -/
structure Beside (full : Prop) (s t : State) : Prop where
  overlay  : t.resp.overlay = s.resp.overlay
  profiles : t.ramp.profiles = s.ramp.profiles
  wf       : s.table.recs.wf → t.table.recs.wf
  asks     : full → Ranged s → AsksBounded s → AsksBounded t

/-- The states agree in the facts of every record. -/
structure Quiet (full : Prop) (s t : State) : Prop extends Beside full s t where
  facts : ∀ j, (t.ctx j).map Context.facts = (s.ctx j).map Context.facts

/-- The states agree in the facts of every record but the one at `h`, whose facts `g` has changed. -/
structure Turns (full : Prop) (h : Nat) (g : Context → Context) (s t : State) : Prop extends Beside full s t where
  facts : ∀ j, (t.ctx j).map Context.facts =
    if j = h then ((s.ctx h).map Context.facts).map g else (s.ctx j).map Context.facts

/-- The record at `h` has the facts of `c`. -/
def Stands (h : Nat) (c : Context) (s : State) : Prop := (s.ctx h).map Context.facts = some c.facts

section
variable {full : Prop} {s t u : State} {h : Nat} {g k : Context → Context}

theorem Beside.ranged (b : Beside full s t) (hr : Ranged s) : Ranged t := fun n => by
  rw [State.profile, b.profiles]; exact hr n

theorem Beside.trans (b : Beside full s t) (c : Beside full t u) : Beside full s u where
  overlay := c.overlay.trans b.overlay
  profiles := c.profiles.trans b.profiles
  wf hw := c.wf (b.wf hw)
  asks hf hr ha := c.asks hf (b.ranged hr) (b.asks hf hr ha)

theorem Beside.of_view (h : t.view = s.view) : Beside full s t := by
  obtain ⟨hr, hp, ho, -⟩ := State.view_eq_iff.1 h
  exact ⟨ho, hp, fun hw => hr ▸ hw, fun _ _ ha => asksBounded_of_view h ha⟩

theorem Quiet.of_view (h : t.view = s.view) : Quiet full s t :=
  ⟨.of_view h, fun j => by rw [ctx_of_view h]⟩

theorem Quiet.refl (s : State) : Quiet full s s := .of_view rfl

theorem Quiet.trans (h : Quiet full s t) (k : Quiet full t u) : Quiet full s u :=
  ⟨h.toBeside.trans k.toBeside, fun j => (k.facts j).trans (h.facts j)⟩

/-- Of two operations in a row, named from the last one back. -/
theorem Quiet.after (k : Quiet full t u) (h : Quiet full s t) : Quiet full s u := h.trans k

theorem Quiet.ite {p : Prop} [Decidable p] (ht : Quiet full s t) (hu : Quiet full s u) :
    Quiet full s (if p then t else u) := by split_ifs <;> assumption

theorem Quiet.foldl {α : Type} {g : State → α → State} (hg : ∀ s a, Quiet full s (g s a)) (l : List α) (s : State) :
    Quiet full s (l.foldl g s) :=
  foldl_keeps (P := Quiet full s) (fun _ _ _ ht => ht.trans (hg _ _)) (.refl s)

/-- The record at a handle is written, its fields beside the records' facts as they stood. -/
theorem Beside.setCtx (s : State) (h : Nat) (c : Option Context) : Beside full s (s.setCtx h c) :=
  ⟨rfl, rfl, fun hw => Tab.wf_set hw h c, fun _ _ ha => ha⟩

theorem Turns.modCtx {g' : Context → Context} (hg : ∀ c, (g' c).facts = g c.facts) : Turns full h g s (s.modCtx h g') where
  toBeside := .setCtx ..
  facts j := by
    rw [State.modCtx_ctx]
    split_ifs with hj
    · simp only [Option.map_map]
      exact congrArg (Option.map · (s.ctx h)) (funext hg)
    · rfl

theorem Quiet.modCtx (hg : ∀ c, (g c).facts = c.facts) : Quiet full s (s.modCtx h g) := by
  refine ⟨.setCtx .., fun j => ?_⟩
  rw [State.modCtx_ctx]
  split_ifs with hj
  · rw [Option.map_map, hj, show Context.facts ∘ g = Context.facts from funext hg]
  · rfl

theorem Turns.same (a : Turns full h g s t) (b : Quiet full t u) : Turns full h g s u :=
  ⟨a.toBeside.trans b.toBeside, fun j => (b.facts j).trans (a.facts j)⟩

theorem Quiet.turns (a : Quiet full s t) (b : Turns full h g t u) : Turns full h g s u :=
  ⟨a.toBeside.trans b.toBeside, fun j => by rw [b.facts, a.facts, a.facts]⟩

theorem Turns.trans (a : Turns full h g s t) (b : Turns full h k t u) : Turns full h (fun c => k (g c)) s u where
  toBeside := a.toBeside.trans b.toBeside
  facts j := by
    rw [b.facts, a.facts, a.facts, if_pos rfl]
    split_ifs
    · rw [Option.map_map]; rfl
    · rfl

theorem Stands.of_some {c : Context} (hc : s.ctx h = some c) : Stands h c s := by rw [Stands, hc]; rfl

theorem Stands.of_current {i : Nat} {c : Context} (hc : current s h i = some c) : Stands h c s :=
  .of_some (Option.filter_eq_some_iff.1 hc).1

theorem Stands.same {c : Context} (hc : Stands h c s) (k : Quiet full s t) : Stands h c t := (k.facts h).trans hc

theorem Stands.turned {c d : Context} (hc : Stands h c s) (k : Turns full h g s t) (hd : d.facts = g c.facts) :
    Stands h d t := by
  rw [Stands, k.facts, if_pos rfl, hc, hd]
  rfl

theorem Stands.some {c : Context} (hc : Stands h c s) : ∃ x, s.ctx h = some x ∧ x.facts = c.facts :=
  Option.map_eq_some_iff.1 hc

end

end Sys2Proof.Machine
end

section
/-! SUPPORT. The operations of a take that leave the facts of every record, in the order of the model's files. -/
namespace Sys2Proof.Machine

variable {full : Prop}

/-! ## What leaves the view as it was -/

theorem sendOn_view (p : Option Nat) (k : FrameKind) (b : List Byte) (s : State) : (sendOn p k b s).view = s.view := by
  rw [sendOn_frame]; rfl

theorem relay_view (p : Option Nat) (k : FrameKind) (h : Hdr) (b : List Byte) (s : State) :
    (relay p k h b s).view = s.view := by
  rw [relay_frame]; rfl

theorem event_view (b : List Byte) (s : State) : (event b s).view = s.view := by
  rw [event_frame]; rfl

theorem sendTold_view (s : State) : (sendTold s).view = s.view := by
  obtain ⟨p, r, h⟩ := sendTold_frame s
  rw [h]; rfl

theorem forwardFrame_view (p : Nat) (f : Frame) (s : State) : (forwardFrame p f s).view = s.view := by
  rw [forwardFrame_frame]; rfl

theorem sendOn_quiet (p : Option Nat) (k : FrameKind) (b : List Byte) (s : State) : Quiet full s (sendOn p k b s) :=
  .of_view (sendOn_view ..)

theorem relay_quiet (p : Option Nat) (k : FrameKind) (h : Hdr) (b : List Byte) (s : State) :
    Quiet full s (relay p k h b s) := .of_view (relay_view ..)

theorem tellEvent_quiet (h : Nat) (b : List Byte) (s : State) : Quiet full s (tellEvent h b s) := .of_view rfl

theorem stray_quiet (s : State) : Quiet full s (stray s) := .of_view rfl

theorem markModified_quiet (h eg first count : Nat) (s : State) : Quiet full s (markModified h eg first count s) :=
  .of_view (markModified_dirOnly ..).view

/-! ## Work of the take -/

theorem judgeGrant_bounded (f : Nat) : (Work.judgeGrant f).Bounded := fun _ _ e => by cases e

theorem measure_bounded (f : Nat) : (Work.measure f).Bounded := fun _ _ e => by cases e

theorem push_quiet {ws : List Work} {s : State} (hw : full → Ranged s → AsksBounded s → ∀ w ∈ ws, w.Bounded) :
    Quiet full s (s.push ws) where
  overlay := rfl
  profiles := rfl
  wf := id
  asks hf hr ha := ⟨ha.1, ha.2.1, fun w hm => (List.mem_append.1 hm).elim (hw hf hr ha w) (ha.2.2 w)⟩
  facts _ := rfl

theorem push_grant_quiet (f : Nat) (s : State) : Quiet full s (s.push [.judgeGrant f]) :=
  push_quiet fun _ _ _ => by simpa using judgeGrant_bounded f

theorem push_measure_quiet (f : Nat) (s : State) : Quiet full s (s.push [.measure f]) :=
  push_quiet fun _ _ _ => by simpa using measure_bounded f

/-! ## Places in the ramp (R97, R137) -/

theorem modRamp_quiet (f : Nat) (g : RampFace → RampFace) (s : State) : Quiet full s (s.modRamp f g) := .of_view rfl

theorem judgeAudit_quiet (f : Nat) (s : State) : Quiet full s (judgeAudit f s) :=
  .ite (.after (push_measure_quiet ..) (.of_view rfl)) (.refl s)

theorem clearStep_quiet (f : Nat) (s : State) : Quiet full s (clearStep f s) :=
  .ite (.after (judgeAudit_quiet ..) (.of_view rfl)) (.refl s)

theorem releaseTurn_quiet (f h : Nat) (s : State) : Quiet full s (releaseTurn f h s) := by
  unfold releaseTurn
  dsimp only
  exact .after (.modCtx fun _ => rfl) (.after (modRamp_quiet ..) (.after (clearStep_quiet ..) (push_grant_quiet ..)))

theorem leaveRamp_quiet (h : Nat) (c : Context) (s : State) : Quiet full s (leaveRamp h c s) :=
  .ite (releaseTurn_quiet ..) (.ite (.after (push_grant_quiet ..) (.of_view rfl)) (.refl s))

theorem joinRamp_quiet (h : Nat) (c : Context) (s : State) : Quiet full s (joinRamp h c s) :=
  .after (push_grant_quiet ..) (.of_view rfl)

/-! ## The element bus -/

theorem mem_queued {b : ElementBus} {r : Request} : r ∈ b.queued ↔ ∃ cl, r ∈ b.queue cl := by
  simp only [ElementBus.queued, List.mem_append]
  constructor
  · rintro (((h | h) | h) | h)
    exacts [⟨.safety, h⟩, ⟨.ramp, h⟩, ⟨.audit, h⟩, ⟨.mgmt, h⟩]
  · rintro ⟨cl, h⟩
    cases cl <;> simp_all [ElementBus.queue]

theorem queue_setQueue (b : ElementBus) (cl d : BusClass) (q : List Request) :
    (b.setQueue cl q).queue d = if d = cl then q else b.queue d := by
  cases cl <;> cases d <;> rfl

theorem mem_queued_setQueue {b : ElementBus} {cl : BusClass} {q : List Request} {r : Request}
    (h : r ∈ (b.setQueue cl q).queued) : r ∈ q ∨ r ∈ b.queued := by
  obtain ⟨d, hd⟩ := mem_queued.1 h
  rw [queue_setQueue] at hd
  split_ifs at hd
  exacts [.inl hd, .inr (mem_queued.2 ⟨d, hd⟩)]

/-- A setting asked of the bus, or a request that sets and records nothing. -/
theorem handOver_quiet {cl : BusClass} {e : Option Nat} {t : Txn} {d : Bool} {f n : Nat} {tag : Tag} {s : State}
    (hb : full → Ranged s → (∀ a, t = .setAtten a → a ≤ 2500) ∧ tag.Bounded) :
    Quiet full s (handOver cl e t d f n tag s) := by
  have failed : Quiet full s (s.push [.result tag .failed]) := push_quiet fun hf hr _ => by
    simp only [List.mem_singleton, forall_eq]
    intro _ _ e
    cases e
    exact (hb hf hr).2
  have placed (e : Nat) : Quiet full s (place cl e t d f n tag s) := by
    refine ⟨⟨rfl, rfl, id, fun hf hr ha => ⟨fun r hr' => ?_, fun b hob => ha.2.1 b ?_, ha.2.2⟩⟩, fun _ => rfl⟩
    · rcases mem_queued_setQueue (b := s.bus) hr' with hq | hq
      · rcases List.mem_append.1 hq with hq | hq
        · exact ha.1 r (mem_queued.2 ⟨cl, hq⟩)
        · rw [List.mem_singleton.1 hq]
          exact hb hf hr
      · exact ha.1 r hq
    · rw [← hob]; cases cl <;> rfl
  unfold handOver
  split
  · exact failed
  · exact .ite failed (placed _)

theorem askWss_quiet {cl : BusClass} {t : Txn} {d : Bool} {p : Purpose} {h : Nat} {c : Context} {s : State}
    (hb : full → Ranged s → (∀ a, t = .setAtten a → a ≤ 2500) ∧ ∀ a, p.setting = some a → a ≤ 2500) :
    Quiet full s (askWss cl t d p h c s) :=
  handOver_quiet fun hf hr => ⟨(hb hf hr).1, fun _ _ _ a e => by cases e; exact (hb hf hr).2 a⟩

/-- A setting of one attenuation that is in range. -/
theorem askAtten_quiet {cl : BusClass} {a : Nat} {d : Bool} {p : Purpose} {h : Nat} {c : Context} {s : State}
    (hp : p.setting = some a) (ha : full → Ranged s → a ≤ 2500) : Quiet full s (askWss cl (.setAtten a) d p h c s) :=
  askWss_quiet fun hf hr => ⟨fun _ e => by cases e; exact ha hf hr, fun _ e => by
    rw [hp] at e; cases e; exact ha hf hr⟩

/-- A request that sets and records no attenuation. -/
theorem askBare_quiet {cl : BusClass} {t : Txn} {d : Bool} {p : Purpose} {h : Nat} {c : Context} {s : State}
    (ht : ∀ a, t ≠ .setAtten a) (hp : p.setting = none) : Quiet full s (askWss cl t d p h c s) :=
  askWss_quiet fun _ _ => ⟨fun a e => absurd e (ht a), fun _ e => by rw [hp] at e; cases e⟩

theorem askMonitor_quiet {cl : BusClass} {p : Purpose} {h : Nat} {c : Context} {s : State} (hp : p.setting = none) :
    Quiet full s (askMonitor cl p h c s) :=
  handOver_quiet fun _ _ => ⟨fun _ e => by (cases e), fun _ _ _ a e k => by cases e; rw [hp] at k; cases k⟩

theorem askSafety_quiet (h : Nat) (c : Context) (s : State) : Quiet full s (askSafety h c s) :=
  askBare_quiet (fun _ e => by cases e) rfl

theorem chosen_mem {b : ElementBus} {r : Request} (h : chosen b = some r) : r ∈ b.queued := by
  obtain ⟨cl, -, hcl⟩ := List.exists_of_findSome?_eq_some h
  exact mem_queued.2 ⟨cl, List.mem_of_find?_eq_some hcl⟩

theorem dequeue_bounded {r x : Request} {q : List Request} (hq : ∀ y ∈ q, y.Bounded) (hx : x ∈ dequeue r q) :
    x.Bounded := by
  unfold dequeue at hx
  split_ifs at hx
  · obtain ⟨y, hy, rfl⟩ := List.mem_map.1 hx
    split_ifs
    exacts [hq y hy, hq y hy]
  · exact hq x (List.mem_of_mem_filter hx)

theorem startTxn_quiet {r : Request} {s : State} (hr : r ∈ s.bus.queued) : Quiet full s (startTxn r s) := by
  refine ⟨⟨rfl, rfl, id, fun _ _ ha => ⟨fun x hx => ?_, fun b hb => ?_, ha.2.2⟩⟩, fun _ => rfl⟩
  · rcases mem_queued_setQueue (b := s.bus) hx with hq | hq
    · exact dequeue_bounded (fun y hy => ha.1 y (mem_queued.2 ⟨r.cls, hy⟩)) hq
    · exact ha.1 x hq
  · cases hb
    exact ha.1 r hr

theorem arbitrate_quiet (s : State) : Quiet full s (arbitrate s) := by
  unfold arbitrate
  split
  · rename_i h
    exact startTxn_quiet (chosen_mem h)
  · exact .refl s

theorem failQueued_quiet (e : Nat) (s : State) : Quiet full s (failQueued e s) := by
  refine ⟨⟨rfl, rfl, id, fun _ _ ha => ⟨fun r hr => ha.1 r ?_, ha.2.1, fun w hw => ?_⟩⟩, fun _ => rfl⟩
  · simp only [failQueued, ElementBus.queued, State.push, ← List.filter_append] at hr
    exact List.mem_of_mem_filter hr
  · rcases List.mem_append.1 hw with hw | hw
    · obtain ⟨r, hr, rfl⟩ := List.mem_map.1 hw
      intro _ _ e
      cases e
      exact (ha.1 r (List.mem_of_mem_filter hr)).2
    · exact ha.2.2 w hw

theorem healthStep_quiet (e : Nat) (good : Bool) (s : State) : Quiet full s (healthStep e good s) := by
  have healed : Quiet full s (s.modElem e fun x => x.afterOutcome good) := .of_view rfl
  unfold healthStep
  dsimp only
  exact .ite (.after (failQueued_quiet ..) (.after (.of_view (event_view ..)) healed)) healed

/-- The transaction on the bus ends; its outcome is handed back to the tag it stood on the bus with. -/
theorem endTxn_quiet {b : OnBus} {r : Result} {s : State} (hb : s.bus.onBus = some b) : Quiet full s (endTxn b r s) := by
  have settled (e : Nat) (t : Txn) (u : State) : Quiet full u (startSettle e t u) := .ite (.of_view rfl) (.refl u)
  unfold endTxn
  refine .after (settled ..) (.after (healthStep_quiet ..) ?_)
  refine ⟨⟨rfl, rfl, id, fun _ _ ha => ⟨ha.1, fun _ e => (by cases e), fun w hw => ?_⟩⟩, fun _ => rfl⟩
  rcases List.mem_append.1 hw with hw | hw
  · split_ifs at hw
    · cases hw
    · rw [List.mem_singleton.1 hw]
      intro _ _ e
      cases e
      exact (ha.2.1 b hb).2
  · exact ha.2.2 w hw

/-! ## Probe work (R70, R86) -/

theorem Profile.InRange.ladder_le {p : Profile} (hp : p.InRange) (k : Nat) : p.ladder k ≤ 2500 := by
  obtain ⟨-, -, -, -, -, -, ⟨h0, h1, h2, h3⟩, -⟩ := hp
  unfold Profile.ladder
  split <;> omega

theorem pumpProbe_quiet (h : Nat) (s : State) : Quiet full s (pumpProbe h s) := by
  unfold pumpProbe
  split
  · exact .refl s
  refine .ite (.refl s) ?_
  split
  · exact .after (askAtten_quiet rfl fun _ hr => (hr _).ladder_le _) (.modCtx fun _ => rfl)
  · exact .ite (.after (askBare_quiet (fun _ e => by cases e) rfl) (.modCtx fun _ => rfl))
      (.ite (.after (askBare_quiet (fun _ e => by cases e) rfl) (.modCtx fun _ => rfl)) (.refl s))

theorem setClosing_quiet (h i : Nat) (g : Closing → Option Closing) (s : State) : Quiet full s (setClosing h i g s) :=
  .of_view rfl

theorem pumpClosing_quiet (h i : Nat) (s : State) : Quiet full s (pumpClosing h i s) := by
  have ask {t : Txn} (ht : ∀ a, t ≠ .setAtten a) (e : Option Nat) (f n : Nat) (g : Closing → Option Closing) :
      Quiet full s (handOver .ramp e t false f n (.ctx h i .closing) (setClosing h i g s)) :=
    .after (handOver_quiet fun _ _ => ⟨fun a e => absurd e (ht a), fun _ _ _ _ e k => by cases e; cases k⟩)
      (setClosing_quiet ..)
  unfold pumpClosing
  split
  · exact .refl s
  · exact .ite (.refl s) (.ite (ask (fun _ e => by cases e) ..)
      (.ite (ask (fun _ e => by cases e) ..) (setClosing_quiet ..)))

/-! ## The ramp and the audit -/

theorem startDwell_quiet (h : Nat) (c : Context) (s : State) : Quiet full s (startDwell h c s) :=
  .after (clearStep_quiet ..) (.modCtx fun _ => rfl)

theorem handGet_quiet (f h : Nat) (c : Context) (s : State) : Quiet full s (handGet f h c s) :=
  .after (askMonitor_quiet rfl) (modRamp_quiet ..)

theorem startStep_quiet (h : Nat) (c : Context) (s : State) : Quiet full s (startStep h c s) := by
  have walked {g : Context → Context} (hg : ∀ c, (g c).facts = c.facts) :
      Quiet full s ((stepWalk c.egress c.first c.count s).2.modCtx h g) :=
    .after (.modCtx hg) (.of_view (stepWalk_dirOnly ..).view)
  unfold startStep
  dsimp only
  exact .ite (.after (startDwell_quiet ..) (walked fun _ => rfl))
    (.ite (.after (modRamp_quiet ..) (walked fun _ => rfl)) (.after (handGet_quiet ..) (walked fun _ => rfl)))

theorem withdrawStep_quiet (h : Nat) (c : Context) (s : State) : Quiet full s (withdrawStep h c s) := by
  have blocked : Quiet full s (askWss .ramp .setBlock false .withdrawBlock h c s) :=
    askBare_quiet (fun _ e => by cases e) rfl
  unfold withdrawStep
  split
  · exact blocked
  · exact .ite blocked (askAtten_quiet rfl fun _ _ => min_le_right ..)

/-- R106: the setting of a step from an attenuation in range. -/
theorem stepSetting_quiet {h : Nat} {c : Context} {e : Int} {s : State} (ha : full → c.atten.asNumber ≤ 2500) :
    Quiet full s (stepSetting h c e s) :=
  askAtten_quiet rfl fun hf _ => by
    have := ha hf
    unfold stepAtten
    split_ifs <;> omega

theorem finishEntry_quiet (f : Nat) (s : State) : Quiet full s (finishEntry f s) :=
  .after (push_measure_quiet ..) (.of_view rfl)

theorem endPass_quiet (f : Nat) (s : State) : Quiet full s (endPass f s) := by
  unfold endPass
  dsimp only
  refine .ite ?_ (.of_view rfl)
  split
  · exact .of_view rfl
  · split
    · exact .of_view rfl
    · exact .after (handGet_quiet ..) (.of_view rfl)

theorem measure_quiet (f : Nat) (s : State) : Quiet full s (measure f s) := by
  unfold measure
  refine .ite (.refl s) ?_
  split
  · exact endPass_quiet ..
  split
  · exact finishEntry_quiet ..
  · exact .ite (askMonitor_quiet rfl) (finishEntry_quiet ..)

theorem clampInt_bounds {lo hi : Int} (h : lo ≤ hi) (n : Int) : lo ≤ clampInt lo hi n ∧ clampInt lo hi n ≤ hi := by
  unfold clampInt
  split_ifs <;> omega

theorem trimAtten_le (c : Context) (d : Int) : trimAtten c d ≤ 2500 := by
  have := (clampInt_bounds (lo := 0) (hi := 2500) (by decide) ((c.atten.asNumber : Int) + trimChange d)).2
  unfold trimAtten
  omega

theorem takeAuditReading_quiet (f h : Nat) (c : Context) (p : Int) (s : State) :
    Quiet full s (takeAuditReading f h c p s) := by
  have told (b : Prop) [Decidable b] (e : List Byte) {g : Context → Context} (hg : ∀ c, (g c).facts = c.facts) :
      Quiet full s (if b then s.modCtx h g else tellEvent h e (s.modCtx h g)) :=
    .ite (.modCtx hg) (.after (tellEvent_quiet ..) (.modCtx hg))
  unfold takeAuditReading
  dsimp only
  exact .ite (.after (askAtten_quiet rfl fun _ _ => trimAtten_le ..) (told _ _ fun _ => rfl))
    (.after (finishEntry_quiet ..) (told _ _ fun _ => rfl))

theorem takeAuditGet_quiet (f h i : Nat) (r : Result) (s : State) : Quiet full s (takeAuditGet f h i r s) := by
  unfold takeAuditGet
  split
  · exact finishEntry_quiet ..
  refine .ite (finishEntry_quiet ..) ?_
  split
  · exact takeAuditReading_quiet ..
  · exact finishEntry_quiet ..

theorem answerRead_quiet (p src : Nat) (tag : Byte) (r : Result) (s : State) : Quiet full s (answerRead p src tag r s) := by
  unfold answerRead
  split <;> exact .of_view rfl

end Sys2Proof.Machine
end

section
/-! SUPPORT. What a take has made of the records since it began: each record that stands has moved on from the one that
stood at its handle, the active contexts have not come to exceed the limit, and Laws 5 and 6 hold as they did. -/
namespace Sys2Proof.Machine

/-- What every state of a take that began in `b` keeps. -/
structure Since (b s : State) : Prop where
  wf       : s.table.recs.wf
  overlay  : s.resp.overlay = b.resp.overlay
  profiles : s.ramp.profiles = b.ramp.profiles
  recs     : ∀ j y, s.ctx j = some y → ∃ x, b.ctx j = some x ∧ x.Next y
  active   : activeCount b ≤ Config.activeMax → activeCount s ≤ Config.activeMax
  sound    : Sound b → Sound s

theorem Since.refl {s : State} (hw : s.table.recs.wf) : Since s s :=
  ⟨hw, rfl, rfl, fun _ y hy => ⟨y, hy, .refl y⟩, id, id⟩

/-- A change of record `c` to `d` that the laws allow, where `full` says that they hold. -/
structure Context.Steps (full : Prop) (p : Profile) (c d : Context) : Prop where
  next : c.Next d
  fit  : full → p.InRange → c.Fit p → d.Fit p

section
variable {b s t : State} {h : Nat} {c : Context} {g : Context → Context}

/-- Of states that differ in facts of records, each record's change allowed. -/
theorem Since.step (hi : Since b s) (hb : Beside (Sound b) s t)
    (hr : ∀ j y, t.ctx j = some y → ∃ x, s.ctx j = some x ∧ x.Steps (Sound b) (s.profile x.profile) y)
    (ha : activeCount s ≤ Config.activeMax → activeCount t ≤ Config.activeMax) : Since b t where
  wf := hb.wf hi.wf
  overlay := hb.overlay.trans hi.overlay
  profiles := hb.profiles.trans hi.profiles
  recs j y hy := by
    obtain ⟨x, hx, hxy⟩ := hr j y hy
    obtain ⟨w, hw, hwx⟩ := hi.recs j x hx
    exact ⟨w, hw, hwx.trans hxy.next⟩
  active h0 := ha (hi.active h0)
  sound h0 := by
    obtain ⟨hr', has, hf⟩ := hi.sound h0
    refine ⟨hb.ranged hr', hb.asks h0 hr' has, fun j y hy => ?_⟩
    obtain ⟨x, hx, hxy⟩ := hr j y hy
    have hp : y.profile = x.profile :=
      (congrArg Context.profile hxy.next.identity : y.identity.profile = x.identity.profile)
    rw [State.profile, hb.profiles, hp]
    exact hxy.fit h0 (hr' _) (hf j x hx)

theorem Context.Steps.of_facts {full : Prop} {p : Profile} {c d : Context} (h : c.facts.Steps full p d.facts) :
    c.Steps full p d := ⟨.of_facts h.next, h.fit⟩

theorem Context.Steps.of_facts_eq {full : Prop} {p : Profile} {c d : Context} (h : d.facts = c.facts) :
    c.Steps full p d := ⟨Context.next_of_facts_eq h, fun _ _ => Context.fit_of_facts_eq h⟩

theorem Since.same (hi : Since b s) (k : Quiet (Sound b) s t) : Since b t := by
  have back {j : Nat} {y : Context} (hy : t.ctx j = some y) : ∃ x, s.ctx j = some x ∧ x.facts = y.facts := by
    have := k.facts j
    rw [hy] at this
    exact Option.map_eq_some_iff.1 this.symm
  refine hi.step k.toBeside (fun j y hy => ?_) fun h0 => le_trans ?_ h0
  · obtain ⟨x, hx, hf⟩ := back hy
    exact ⟨x, hx, .of_facts_eq hf.symm⟩
  · refine (activeCount_le hi.wf (k.wf hi.wf) [] fun j y hy hact => ?_).trans (by simp)
    obtain ⟨x, hx, hf⟩ := back hy
    exact .inr ⟨x, hx, by rw [Context.st_of_facts hf]; exact hact⟩

/-- The facts of one record change; an IN_SERVICE record becomes active only below the limit (R37). -/
theorem Since.turn (hi : Since b s) (k : Turns (Sound b) h g s t)
    (hx : ∀ x, s.ctx h = some x → x.facts.Steps (Sound b) (s.profile x.profile) (g x.facts))
    (ha : ∀ x, s.ctx h = some x → (g x.facts).st.active = true →
      x.st.active = true ∨ activeCount s < Config.activeMax) : Since b t := by
  have back {j : Nat} {y : Context} (hy : t.ctx j = some y) :
      ∃ x, s.ctx j = some x ∧ y.facts = if j = h then g x.facts else x.facts := by
    have hj := k.facts j
    rw [hy] at hj
    split_ifs at hj ⊢ with e
    · subst e
      obtain ⟨x, hx, he⟩ := Option.map_eq_some_iff.1 hj.symm
      obtain ⟨w, hw, rfl⟩ := Option.map_eq_some_iff.1 hx
      exact ⟨w, hw, he.symm⟩
    · obtain ⟨x, hx, he⟩ := Option.map_eq_some_iff.1 hj.symm
      exact ⟨x, hx, he.symm⟩
  refine hi.step k.toBeside (fun j y hy => ?_) fun h0 => ?_
  · obtain ⟨x, hxj, hf⟩ := back hy
    refine ⟨x, hxj, .of_facts ?_⟩
    split_ifs at hf with e
    · rw [hf]; exact hx x (e ▸ hxj)
    · exact .of_facts_eq (by rw [hf])
  · have others {j : Nat} {y : Context} (hj : j ≠ h) (hy : t.ctx j = some y) (hact : y.st.active = true) :
        ∃ x, s.ctx j = some x ∧ x.st.active = true := by
      obtain ⟨x, hxj, hf⟩ := back hy
      rw [if_neg hj] at hf
      exact ⟨x, hxj, Context.st_of_facts hf ▸ hact⟩
    by_cases hlt : activeCount s < Config.activeMax
    · refine (activeCount_le hi.wf (k.wf hi.wf) [h] fun j y hy hact => ?_).trans ?_
      · by_cases hj : j = h
        exacts [.inl (by simp [hj]), .inr (others hj hy hact)]
      · simp only [List.length_singleton]; omega
    · refine (activeCount_le hi.wf (k.wf hi.wf) [] fun j y hy hact => .inr ?_).trans (by simpa using h0)
      by_cases hj : j = h
      · obtain ⟨x, hxj, hf⟩ := back hy
        rw [if_pos hj] at hf
        have hst : y.st = (g x.facts).st := (congrArg Context.st hf : y.facts.st = _)
        exact ⟨x, hxj, (ha x (hj ▸ hxj) (hst ▸ hact)).resolve_right hlt⟩
      · exact others hj hy hact

/-- The record at `h`, with the facts of `c`, changes in its facts. -/
theorem Since.turned (hi : Since b s) (hc : Stands h c s) (k : Turns (Sound b) h g s t)
    (hx : c.facts.Steps (Sound b) (s.profile c.profile) (g c.facts))
    (ha : (g c.facts).st.active = true → c.st.active = true ∨ activeCount s < Config.activeMax) : Since b t := by
  obtain ⟨d, hd, hdc⟩ := hc.some
  refine hi.turn k (fun x hxh => ?_) fun x hxh => ?_
  all_goals
    obtain rfl : d = x := Option.some.inj (hd.symm.trans hxh)
    rw [hdc]
  · rw [Context.profile_of_facts hdc]; exact hx
  · rw [Context.st_of_facts hdc]; exact ha

/-- R25: the record at a handle is gone. -/
theorem Since.erased (hi : Since b s) (h : Nat) : Since b (s.setCtx h none) := by
  have back {j : Nat} {y : Context} (hy : (s.setCtx h none).ctx j = some y) : s.ctx j = some y := by
    rw [State.setCtx_ctx] at hy
    split_ifs at hy
    exact hy
  refine hi.step (.setCtx ..) (fun j y hy => ⟨y, back hy, .of_facts_eq rfl⟩) fun h0 => le_trans ?_ h0
  exact (activeCount_le hi.wf (Tab.wf_set hi.wf h none) [] fun j y hy ha => .inr ⟨y, back hy, ha⟩).trans (by simp)

/-! ## Records found -/

theorem Since.stands_of_mem (hi : Since b s) (hm : (h, some c) ∈ s.table.recs.cells) : Stands h c s :=
  .of_some ((Tab.mem_cells hi.wf h (some c)).1 hm).1

/-- R24: the record that a frame or request names by its lightpath ID. -/
theorem findLp_mem {id : Nat} (hl : findLp s id = some (h, c)) : (h, some c) ∈ s.table.recs.cells ∧ c.lpId = id := by
  unfold findLp at hl
  split_ifs at hl
  obtain ⟨⟨m, x⟩, hm, hx⟩ := List.exists_of_findSome?_eq_some hl
  obtain ⟨d, hd, he⟩ := Option.bind_eq_some_iff.1 hx
  split_ifs at he with hid
  obtain ⟨rfl, rfl⟩ : m = h ∧ d = c := by simpa using he
  exact ⟨by rw [← hd]; exact hm, hid⟩

theorem Since.found (hi : Since b s) {id : Nat} (hl : findLp s id = some (h, c)) : Stands h c s :=
  hi.stands_of_mem (findLp_mem hl).1

/-- R81: the PROBING record whose watch a burst matches. -/
theorem Since.watched (hi : Since b s) {code : Nat} {w : Watch} (hl : watchOf s code = some (h, c, w)) :
    Stands h c s ∧ c.st = .probing := by
  unfold watchOf at hl
  split_ifs at hl
  obtain ⟨⟨m, x⟩, hm, hx⟩ := List.exists_of_findSome?_eq_some hl
  obtain ⟨d, hd, he⟩ := Option.bind_eq_some_iff.1 hx
  obtain ⟨v, -, he⟩ := Option.bind_eq_some_iff.1 he
  split_ifs at he with hst
  obtain ⟨rfl, rfl, -⟩ : m = h ∧ d = c ∧ v = w := by simpa using he
  exact ⟨hi.stands_of_mem (by rw [← hd]; exact hm), hst.1⟩

/-! ## Changes of one record's facts -/

theorem liveChange_view (f n : Nat) (was now : Bool) (s : State) : (liveChange f n was now s).view = s.view :=
  (liveChange_dirOnly ..).view

/-- R35: a change of state changes the state alone among the record's facts. -/
theorem changeState_turns {full : Prop} (h : Nat) (c : Context) (st : CtxState) (s : State) :
    Turns full h (Context.inState st) s (changeState h c st s) := by
  unfold changeState
  exact .same (.modCtx fun _ => rfl) (.of_view (liveChange_view ..))

theorem Context.steps_enter {full : Prop} {p : Profile} {c : Context} {st : CtxState} (h : c.st.leads st = true) :
    c.facts.Steps full p (c.facts.inState st) :=
  ⟨Context.next_enter c.facts h, fun _ hp hf => hf.enter hp h⟩

/-- R34, R35: the record enters a state that follows its own. -/
theorem Since.entered (hi : Since b s) (hc : Stands h c s) {st : CtxState} (hst : c.st.leads st = true)
    (k : Turns (Sound b) h (Context.inState st) s t) : Since b t :=
  hi.turned hc k (Context.steps_enter hst) fun ha => .inl (active_of_leads hst ha)

theorem Stands.entered (hc : Stands h c s) (d : Context) (st : CtxState) :
    Stands h (c.inState st) (changeState h d st s) := hc.turned (changeState_turns (full := True) ..) rfl

/-- R27: an attenuation is recorded. -/
theorem Since.attenuated (hi : Since b s) (h : Nat) {a : Atten} (ha : Sound b → ∀ n, a = .db n → n ≤ 2500) :
    Since b (s.modCtx h fun c => { c with atten := a }) := by
  refine hi.turn (g := fun c => { c with atten := a }) (.modCtx fun _ => rfl) (fun x _ => ⟨⟨rfl, fun h0 => ⟨h0, le_rfl⟩, id⟩, ?_⟩)
    fun x _ hact => .inl hact
  rintro hs - ⟨⟨-, h5⟩, h6⟩
  exact ⟨⟨ha hs, h5⟩, h6⟩

theorem takeLevel_turns {full : Prop} (h k : Nat) (s : State) : Turns full h (Context.atLevel k) s (takeLevel h k s) :=
  .same (.modCtx fun _ => rfl) (pumpProbe_quiet ..)

/-- R75, R80: a record that is past RESERVED takes a probe level that is not lower. -/
theorem Since.levelled (hi : Since b s) (hc : Stands h c s) {k : Nat} (hst : c.st ≠ .reserved) (hk : c.probeLevel ≤ k)
    (h3 : k ≤ 3) : Since b (takeLevel h k s) := by
  refine hi.turned hc (takeLevel_turns ..) ⟨⟨rfl, fun _ => ⟨fun e => absurd e hst, hk⟩, id⟩, ?_⟩ .inl
  rintro - - ⟨h5, h6, hrun, -, h7⟩
  exact ⟨h5, h6, hrun, h3, h7⟩

/-- R96: a target is set. -/
theorem Since.targeted (hi : Since b s) (h : Nat) (d : Int) (n : Nat) (trim : Int) :
    Since b (s.modCtx h fun c => { c with target := targetOf d n trim, rampHeld := false }) := by
  refine hi.turn (g := fun c => { c with target := targetOf d n trim }) (.modCtx fun _ => rfl)
    (fun x _ => ⟨⟨rfl, fun h0 => ⟨h0, le_rfl⟩, id⟩, ?_⟩) fun x _ => .inl
  rintro - - ⟨⟨ha, -, hr⟩, h6⟩
  exact ⟨⟨ha, clampInt_bounds (by decide) _, hr⟩, h6⟩

end

end Sys2Proof.Machine
end

section
/-! SUPPORT. What each operation of a take makes of the records, in the order of the model's files. -/
namespace Sys2Proof.Machine

variable {b s t : State} {h : Nat} {c : Context}

/-! ## Freeing and faults -/

theorem freeRecord_since (hi : Since b s) (h : Nat) (c : Context) : Since b (freeRecord h c s) := by
  unfold freeRecord
  dsimp only
  refine Since.erased (Since.same (hi.same (leaveRamp_quiet h c s)) (.of_view ?_)) h
  rw [liveChange_view]
  exact (freeSpan_dirOnly ..).view

/-- R126: of the records' facts, a fault entry changes the state of its own record alone. -/
theorem enterFaulted_turns {full : Prop} (h : Nat) (c : Context) (cause : Cause) (origin : Nat) (d : Direction)
    (up down : Bool) (s : State) :
    Turns full h (Context.inState .faulted) s (enterFaulted h c cause origin d up down s) := by
  have left : Quiet full s ((leaveRamp h c s).modCtx h Context.dropWork) :=
    .after (.modCtx fun _ => rfl) (leaveRamp_quiet ..)
  refine (left.turns (changeState_turns h c .faulted _)).same ?_
  unfold enterFaulted
  dsimp only
  generalize changeState h c .faulted _ = t
  have asked (o : FaultRec) : Quiet full t ((askSafety h c (t.modCtx h fun c => { c with faultRec := some o })).modCtx h
      fun c => { c with work := { c.work with dithering := false } }) :=
    .after (.modCtx fun _ => rfl) (.after (askSafety_quiet ..) (.modCtx fun _ => rfl))
  have send (b : Bool) (p : Option Nat) (d : Direction) {u v : State} (k : Quiet full u v) :
      Quiet full u (if b = true then sendFault p d c cause origin v else v) := .ite (.after (sendOn_quiet ..) k) k
  exact .ite (.after (tellEvent_quiet ..) (send _ _ _ (send _ _ _ (asked _)))) (send _ _ _ (send _ _ _ (asked _)))

theorem leads_faulted {st : CtxState} : st.leads .faulted = st.faultable := by cases st <;> rfl

theorem enterFaulted_since {cause : Cause} {origin : Nat} {d : Direction} {up down : Bool} (hi : Since b s)
    (hc : Stands h c s) (hst : c.st.faultable = true) : Since b (enterFaulted h c cause origin d up down s) :=
  hi.entered hc (leads_faulted.trans hst) (enterFaulted_turns ..)

theorem endWithdrawal_since (hi : Since b s) (h : Nat) (c : Context) : Since b (endWithdrawal h c s) :=
  freeRecord_since (hi.same (.after (sendOn_quiet ..) (askBare_quiet (fun _ e => by cases e) rfl))) ..

theorem localFaultOn_since {cause : Cause} {up down : Bool} (hi : Since b s) (hc : Stands h c s) :
    Since b (localFaultOn h c cause up down s) := by
  unfold localFaultOn
  split_ifs with hst
  · exact (enterFaulted_since hi hc hst).same (.of_view rfl)
  · exact (endWithdrawal_since hi h c).same (.of_view rfl)
  · exact hi

theorem localFault_since {cause : Cause} (hi : Since b s) (hc : Stands h c s) : Since b (localFault h c cause s) :=
  localFaultOn_since hi hc

theorem linkLossFault_since {p h : Nat} (hi : Since b s) : Since b (linkLossFault p h s) := by
  unfold linkLossFault
  split
  · exact hi
  · rename_i c hc
    split_ifs
    exacts [localFaultOn_since hi (.of_some hc), hi]

theorem takeFault_since {port id : Nat} {cause : Cause} {origin : Nat} {d : Direction} (hi : Since b s) :
    Since b (takeFault port id cause origin d s) := by
  unfold takeFault
  split
  · exact hi.same (.of_view rfl)
  · rename_i n c hl
    split_ifs with hst
    · exact (enterFaulted_since hi (hi.found hl) (Bool.and_eq_true_iff.1 hst).1).same (.of_view rfl)
    · exact (endWithdrawal_since hi n c).same (.of_view rfl)
    · exact hi.same (.of_view rfl)

/-! ## The probe phase -/

theorem closeMaint_since (hi : Since b s) (h : Nat) (c : Context) : Since b (closeMaint h c s) := by
  unfold closeMaint
  dsimp only
  refine Since.same (freeRecord_since (hi.same ?_) h c) (pumpClosing_quiet ..)
  exact .of_view rfl

theorem takeProbeResult_since {h i : Nat} {a : Option Nat} {r : Result} (hi : Since b s)
    (ha : Sound b → ∀ n, a = some n → n ≤ 2500) : Since b (takeProbeResult h i a r s) := by
  unfold takeProbeResult
  split
  · rename_i c hcur
    have answered : Quiet (Sound b) s (s.modCtx h fun c => { c with work := { c.work with outstanding := false } }) :=
      .modCtx fun _ => rfl
    split_ifs
    · exact localFault_since (hi.same answered) ((Stands.of_current hcur).same answered)
    · have hi := hi.same answered
      dsimp only
      generalize hp : pumpProbe h _ = t
      have pumped : Since b t := by
        rw [← hp]
        refine Since.same ?_ (pumpProbe_quiet ..)
        split
        · exact hi
        · exact (hi.attenuated h fun hs n e => by cases e; exact ha hs _ rfl).same (markModified_quiet ..)
      split
      · exact pumped
      · split_ifs
        exacts [pumped.same (push_grant_quiet ..), pumped]
    · exact hi
  · exact hi.same (.after (pumpClosing_quiet ..) (setClosing_quiet ..))

/-- R71: a head that begins the probe phase is PROBING at level 0. -/
theorem beginProbe_turns {full : Prop} (h : Nat) (c : Context) (s : State) :
    Turns full h (fun x => (x.inState .probing).atLevel 0) s (beginProbe h c s) := by
  have timed (t : State) : Quiet full t (t.modCtx h fun c => { c with
      probeTimer := some (t.now + (t.profile c.profile).probeDwell), work := { c.work with start := true } }) :=
    .modCtx fun _ => rfl
  exact (((changeState_turns h c .probing s).same (timed _)).trans (takeLevel_turns h 0 _)).same (sendOn_quiet ..)

theorem beginProbe_since (hi : Since b s) (hc : Stands h c s) (hst : c.st = .reserved) : Since b (beginProbe h c s) := by
  have hst' : c.facts.st = .reserved := hst
  refine hi.turned hc (beginProbe_turns ..) ⟨⟨rfl, fun h0 => ⟨fun e => (by cases e), (h0 hst).le⟩, fun _ => .inl hst⟩, ?_⟩
    fun _ => .inl (by rw [hst]; rfl)
  rintro - - ⟨h5, h6, hrun, -, h7, -⟩
  refine ⟨h5, fun _ _ => h6 ?_ ?_, hrun, Nat.zero_le 3, fun _ => h7 (.inl hst), fun e => (by cases e)⟩ <;> simp [hst']

theorem stepLadder_since (hi : Since b s) (hc : Stands h c s) (hst : c.st = .probing) :
    Since b (stepLadder h c s) := by
  have timed : Quiet (Sound b) s
      (s.modCtx h fun c => { c with probeTimer := some (s.now + (s.profile c.profile).probeDwell) }) :=
    .modCtx fun _ => rfl
  unfold stepLadder
  split_ifs with hl
  · exact ((hi.same timed).levelled (hc.same timed) (by simp [hst]) (Nat.le_succ _) hl).same (sendOn_quiet ..)
  · exact localFault_since hi hc

theorem armHead_since (hi : Since b s) (hc : Stands h c s) (hst : c.st = .probing) : Since b (armHead h c s) :=
  (hi.entered hc (by rw [hst]; rfl) (changeState_turns h c .armed s)).same
    (.after (joinRamp_quiet ..) (.after (pumpProbe_quiet ..) (.modCtx fun _ => rfl)))

theorem takeProbe_since {hd : Hdr} {body : List Byte} {k : Nat} (hi : Since b s) (hc : Stands h c s)
    (hst : c.st = .reserved ∨ c.st = .probing) (hk : c.probeLevel ≤ k) (h3 : k ≤ 3) :
    Since b (takeProbe hd body h c k s) := by
  have probing : Since b (if c.st = .reserved then changeState h c .probing s else s) ∧
      Stands h (c.inState .probing) (if c.st = .reserved then changeState h c .probing s else s) := by
    split_ifs with hr
    · exact ⟨hi.entered hc (by rw [hr]; rfl) (changeState_turns h c .probing s), hc.entered ..⟩
    · have hp := hst.resolve_left hr
      exact ⟨hi, by rw [Context.inState, ← hp]; exact hc⟩
  unfold takeProbe
  dsimp only
  generalize (if c.st = .reserved then changeState h c .probing s else s) = t at probing
  have taken : Since b (takeLevel h k t) := probing.1.levelled probing.2 nofun hk h3
  split_ifs
  exacts [taken.same (relay_quiet ..), taken, taken.same (.modCtx fun _ => rfl)]

theorem answerArmed_since {hd : Hdr} {body : List Byte} {k : Nat} (hi : Since b s) (hc : Stands h c s)
    (hst : c.st = .armed) (h3 : k ≤ 3) : Since b (answerArmed hd body h c k s) := by
  have taken : Since b (if c.probeLevel < k then takeLevel h k s else s) := by
    split_ifs with hk
    exacts [hi.levelled hc (by simp [hst]) hk.le h3, hi]
  unfold answerArmed
  dsimp only
  split
  exacts [taken.same (relay_quiet ..), taken.same (sendOn_quiet ..), taken]

theorem validate_since (hi : Since b s) (hc : Stands h c s) (hst : c.st = .probing) : Since b (validate h c s) := by
  have validated : Quiet (Sound b) s
      (s.modCtx h fun c => { c with watch := none, pilotValidated := true, probeTimer := none }) := .modCtx fun _ => rfl
  have hi := hi.same validated
  have hc := hc.same validated
  unfold validate
  dsimp only
  generalize s.modCtx h _ = t at hi hc ⊢
  split
  · exact closeMaint_since (hi.same (sendOn_quiet ..)) h c
  · exact (hi.same (sendOn_quiet ..)).entered (hc.same (full := True) (sendOn_quiet ..)) (by rw [hst]; rfl)
      (changeState_turns ..)
  · exact hi.same (sendOn_quiet ..)

theorem takeBurst_since {g code : Nat} (hi : Since b s) : Since b (takeBurst g code s) := by
  have watching (h : Nat) (w : Watch) : Quiet (Sound b) s (s.modCtx h fun c => { c with watch := some w }) :=
    .modCtx fun _ => rfl
  unfold takeBurst
  dsimp only
  split
  · exact hi.same (.of_view rfl)
  · rename_i hl
    obtain ⟨hc, hst⟩ := hi.watched hl
    split_ifs
    · exact validate_since hi hc hst
    · exact hi.same (watching ..)
    · exact localFault_since (hi.same (watching ..)) (hc.same (watching ..))
    · exact hi.same (watching ..)

/-! ## The ramp -/

theorem grant_since {f : Nat} {e : QEntry} (hi : Since b s) (hc : Stands e.handle c s) : Since b (grant f e c s) := by
  have hr : Quiet (Sound b) s (s.modRamp f fun r => { r with queue := r.queue.tail, turn := some (e.handle, e.inst) }) :=
    modRamp_quiet ..
  have held := (hi.same hr).targeted e.handle (s.faceSet f).density c.count c.trim
  have hheld : Stands e.handle { c with target := targetOf (s.faceSet f).density c.count c.trim }
      ((s.modRamp f fun r => { r with queue := r.queue.tail, turn := some (e.handle, e.inst) }).modCtx e.handle
        fun x => { x with target := targetOf (s.faceSet f).density c.count c.trim, rampHeld := false }) :=
    (hc.same hr).turned (full := True)
      (g := fun x => { x with target := targetOf (s.faceSet f).density c.count c.trim }) (.modCtx fun _ => rfl) rfl
  unfold grant
  dsimp only
  split
  · rename_i hst
    exact (held.entered hheld (by change c.st.leads .ramping = true; rw [hst]; rfl) (changeState_turns ..)).same
      (startStep_quiet ..)
  · exact held.same (withdrawStep_quiet ..)
  · exact hi

theorem judgeGrant_since {f : Nat} (hi : Since b s) : Since b (judgeGrant f s) := by
  unfold judgeGrant
  split
  · split
    · rename_i hcur
      split_ifs
      exacts [grant_since hi (.of_current hcur), hi]
    · exact hi
  · exact hi

/-- R107, R115: a settling passes through SETTLED, a tail's on to IN_SERVICE; no fact but the state changes. -/
theorem settle_turns {full : Prop} (h : Nat) (c : Context) (s : State) :
    ∃ st, (st = .settled ∨ st = .inService) ∧ Turns full h (Context.inState st) s (settle h c s) := by
  have settled := changeState_turns (full := full) h c .settled s
  unfold settle
  dsimp only
  generalize changeState h c .settled s = t at settled ⊢
  have left : Quiet full t (leaveRamp h c t) := leaveRamp_quiet h c t
  have dropped : Quiet full t ((leaveRamp h c t).modCtx h fun c => { c with carried := none }) :=
    .after (.modCtx fun _ => rfl) left
  split
  · exact ⟨_, .inl rfl, settled.same (.ite left (.after (sendOn_quiet ..) left))⟩
  · exact ⟨_, .inl rfl, settled.same (.after (sendOn_quiet ..) dropped)⟩
  · exact ⟨_, .inr rfl, (settled.same (.after (sendOn_quiet ..) dropped)).trans (changeState_turns ..)⟩

end Sys2Proof.Machine
end

section
/-! SUPPORT. What the readings of a ramp and the results of a take make of the records; the whole of a take. -/
namespace Sys2Proof.Machine

variable {b s t : State} {h : Nat} {c : Context}

/-! ## Readings (R102, R104, R105) -/

/-- R102: the record with one more reading used. -/
def Context.withReading (p : Int) (run : Nat) (c : Context) : Context :=
  { c with lastReading := some p, readingsUsed := c.readingsUsed + 1, settledRun := run }

theorem setCtx_turns {full : Prop} {d : Context} {g : Context → Context} (hc : s.ctx h = some c)
    (hd : d.facts = g c.facts) : Turns full h g s (s.setCtx h (some d)) where
  toBeside := .setCtx ..
  facts j := by
    rw [State.setCtx_ctx]
    split_ifs
    · rw [hc]; exact congrArg some hd
    · rfl

theorem reading_bounds {r : Result} {p : Int} (hr : reading r = some p) : -6000 ≤ p ∧ p ≤ 2000 := by
  cases r <;> simp only [reading, Option.some.injEq, reduceCtorEq] at hr <;> subst hr
  · exact clampInt_bounds (by decide) _
  · decide

theorem runAfter_le (pr : Profile) (ceiling target : Int) (run : Nat) (p : Int) :
    runAfter pr ceiling target run p ≤ run + 1 := by
  unfold runAfter
  split_ifs <;> omega

/-- R104, R105: a record that goes on ramping has room for a reading and for a step of its settled run. -/
theorem judgeReading_room {pr : Profile} (hp : pr.InRange) {ceiling target p : Int} {run used att : Nat}
    (hj : judgeReading pr ceiling target (runAfter pr ceiling target run p) used att p = .dwell ∨
      judgeReading pr ceiling target (runAfter pr ceiling target run p) used att p = .set) :
    used < pr.maxSteps ∧ runAfter pr ceiling target run p < pr.settleCount := by
  obtain ⟨-, -, ⟨hsc, -⟩, -⟩ := hp
  have hout (hc : ¬ceiling < p) (hb : ¬(target - p).natAbs ≤ pr.deadband) : runAfter pr ceiling target run p = 0 := by
    simp [runAfter, hc, hb]
  unfold judgeReading at hj
  dsimp only at hj
  split_ifs at hj with h1 h2 h3 h4 h5 h6 h7 <;> simp only [or_false, or_self] at hj
  · omega
  · rw [hout h1 h2]; omega

section
variable {full : Prop} {pr : Profile} {p : Int} {run : Nat} (hst : c.st = .ramping) (hp : -6000 ≤ p ∧ p ≤ 2000)
include hst hp

/-- R102: a reading with which a record leaves RAMPING. -/
theorem Context.steps_readingOut (hrun : run ≤ c.settledRun + 1) {st : CtxState}
    (hl : st = .faulted ∨ st = .settled ∨ st = .inService) :
    c.facts.Steps full pr ((c.facts.withReading p run).inState st) := by
  have hst' : c.facts.st = .ramping := hst
  have early : ¬(st = .reserved ∨ st = .probing) ∧ st ≠ .armed ∧ st ≠ .ramping := by
    rcases hl with rfl | rfl | rfl <;> simp
  refine ⟨⟨rfl, fun _ => ⟨fun e => absurd (.inl e) early.1, le_rfl⟩, fun e => absurd e early.1⟩, fun _ hpr hf => ?_⟩
  obtain ⟨⟨ha, ht, -⟩, -, -, hlevel, -, hramp⟩ := hf
  obtain ⟨hu, hr⟩ := hramp hst'
  obtain ⟨-, -, ⟨-, h4⟩, -⟩ := hpr
  have hr' : c.settledRun < pr.settleCount := hr
  refine ⟨⟨ha, ht, fun r e => ?_⟩, fun _ _ => hu, ?_, hlevel, fun e => ?_, fun e => absurd e early.2.2⟩
  · obtain rfl : p = r := Option.some.inj e
    exact hp
  · change run ≤ 4; omega
  · rcases e with e | e | e
    exacts [absurd (.inl e) early.1, absurd (.inr e) early.1, absurd e early.2.1]

/-- R102: a reading with which a record goes on ramping. -/
theorem Context.steps_readingOn (hroom : full → pr.InRange → c.readingsUsed + 1 < pr.maxSteps ∧ run < pr.settleCount) :
    c.facts.Steps full pr (c.facts.withReading p run) := by
  refine ⟨⟨rfl, fun h0 => ⟨h0, le_rfl⟩, id⟩, fun hf hpr hc => ?_⟩
  obtain ⟨⟨ha, ht, -⟩, -, -, hlevel, -, -⟩ := hc
  obtain ⟨hu, hr⟩ := hroom hf hpr
  obtain ⟨-, -, ⟨-, h4⟩, -⟩ := hpr
  refine ⟨⟨ha, ht, fun r e => ?_⟩, fun _ _ => hu.le, (by change run ≤ 4; omega), hlevel, fun e => ?_, fun _ => ⟨hu, hr⟩⟩
  · obtain rfl : p = r := Option.some.inj e
    exact hp
  · change c.st = _ ∨ c.st = _ ∨ c.st = _ at e
    rw [hst] at e; simp at e

end

theorem asNumber_le {p : Profile} (hf : c.Fit p) : c.atten.asNumber ≤ 2500 := by
  obtain ⟨⟨ha, -⟩, -⟩ := hf
  cases hc : c.atten with
  | blocked => exact le_rfl
  | db n => exact ha n hc

theorem takeReading_since {p : Int} (hi : Since b s) (hc : s.ctx h = some c) (hst : c.st = .ramping)
    (hp : -6000 ≤ p ∧ p ≤ 2000) : Since b (takeReading h c p s) := by
  have hrun := runAfter_le (s.profile c.profile) (s.faceSet c.egress).ceilingPower c.target c.settledRun p
  have room := judgeReading_room (pr := s.profile c.profile) (ceiling := (s.faceSet c.egress).ceilingPower)
    (target := c.target) (p := p) (run := c.settledRun) (used := c.readingsUsed + 1) (att := c.atten.asNumber)
  unfold takeReading
  dsimp only
  generalize runAfter (s.profile c.profile) (s.faceSet c.egress).ceilingPower c.target c.settledRun p = run at hrun room ⊢
  generalize judgeReading _ _ _ _ _ _ _ = v at room ⊢
  have applied : Turns (Sound b) h (Context.withReading p run) s (s.setCtx h (some (c.withReading p run))) :=
    setCtx_turns hc rfl
  have stands : Stands h (c.withReading p run) (s.setCtx h (some (c.withReading p run))) := .of_some (by simp)
  have out {st : CtxState} {u : State} (hl : st = .faulted ∨ st = .settled ∨ st = .inService)
      (k : Turns (Sound b) h (Context.inState st) (s.setCtx h (some (c.withReading p run))) u) : Since b u :=
    hi.turned (.of_some hc) (applied.trans k) (Context.steps_readingOut hst hp hrun hl) fun _ => .inl (by rw [hst]; rfl)
  have on (hv : v = .dwell ∨ v = .set) : Since b (s.setCtx h (some (c.withReading p run))) :=
    hi.turned (.of_some hc) applied (Context.steps_readingOn hst hp fun _ hpr => room hpr hv)
      fun _ => .inl (by rw [hst]; rfl)
  split
  · rename_i cause
    have hfault : localFault h (c.withReading p run) cause (s.setCtx h (some (c.withReading p run))) =
        countLocalFault (enterFaulted h (c.withReading p run) cause s.switch.nodeId .here true true
          (s.setCtx h (some (c.withReading p run)))) :=
      if_pos (by change c.st.faultable = true; rw [hst]; rfl)
    exact (congrArg (Since b) hfault).mpr ((out (.inl rfl) (enterFaulted_turns ..)).same (.of_view rfl))
  · obtain ⟨st, hs, k⟩ := settle_turns (full := Sound b) h (c.withReading p run) (s.setCtx h (some (c.withReading p run)))
    exact out (.inr hs) k
  · exact (on (.inl rfl)).same (startDwell_quiet ..)
  · have hi' := on (.inr rfl)
    refine hi'.same (stepSetting_quiet fun hb => ?_)
    exact asNumber_le (c := c.withReading p run) ((hi'.sound hb).2.2 h _ (by simp))

/-! ## Results of settings (R106, R109, R111, R127, R139, R140) -/

theorem takeSetting_since {a : Nat} (hi : Since b s) (h : Nat) (c : Context) (ha : Sound b → a ≤ 2500) :
    Since b (takeSetting h c (.db a) s) :=
  (hi.attenuated h fun hs n e => by cases e; exact ha hs).same
    (.after (startDwell_quiet ..) (markModified_quiet ..))

theorem finishWithdrawal_since (hi : Since b s) (h : Nat) (c : Context) : Since b (finishWithdrawal h c s) :=
  freeRecord_since ((hi.attenuated h fun _ _ e => by cases e).same
    (.after (sendOn_quiet ..) (markModified_quiet ..))) h c

theorem takeRampResult_since {h i : Nat} {p : Purpose} {r : Result} (hi : Since b s)
    (hp : Sound b → ∀ a, p.setting = some a → a ≤ 2500) : Since b (takeRampResult h i p r s) := by
  unfold takeRampResult
  split
  · exact hi
  rename_i c hcur
  have hc : Stands h c s := .of_current hcur
  split
  · rename_i hst
    split
    · rename_i hr
      exact takeReading_since hi (Option.filter_eq_some_iff.1 hcur).1 hst (reading_bounds hr)
    · exact localFault_since hi hc
  · exact localFault_since hi hc
  · exact takeSetting_since hi h c fun hs => hp hs _ rfl
  · exact localFault_since hi hc
  · exact takeSetting_since hi h c fun hs => hp hs _ rfl
  · exact localFault_since hi hc
  · exact finishWithdrawal_since hi h c
  · exact hi

theorem takeSafetyResult_since {h i : Nat} {r : Result} (hi : Since b s) : Since b (takeSafetyResult h i r s) := by
  unfold takeSafetyResult
  split
  · exact hi
  · split_ifs
    exacts [hi, hi.same (.modCtx fun _ => rfl), hi.attenuated h fun _ _ e => by cases e]

theorem takeAuditSet_since {f h i a : Nat} {r : Result} (hi : Since b s) (ha : Sound b → a ≤ 2500) :
    Since b (takeAuditSet f h i a r s) := by
  unfold takeAuditSet
  split
  · exact hi.same (finishEntry_quiet ..)
  · split_ifs
    · exact hi.same (finishEntry_quiet ..)
    · exact (hi.attenuated h fun hs n e => by cases e; exact ha hs).same
        (.after (finishEntry_quiet ..) (markModified_quiet ..))

/-! ## The whole of a take -/

theorem takeResult_since {t : Tag} {r : Result} (hi : Since b s) (ht : Sound b → t.Bounded) :
    Since b (takeResult t r s) := by
  unfold takeResult
  split
  · exact hi.same (answerRead_quiet ..)
  rename_i h i p
  have hp (hs : Sound b) (a : Nat) (e : p.setting = some a) : a ≤ 2500 := ht hs h i p a rfl e
  cases p with
  | level a => exact takeProbeResult_since hi fun hs n e => by cases e; exact hp hs a rfl
  | ditherStart | ditherStop | closing => exact takeProbeResult_since hi nofun
  | rampGet | rampSet | withdrawSet | withdrawBlock => exact takeRampResult_since hi hp
  | safety => exact takeSafetyResult_since hi
  | auditGet => exact hi.same (takeAuditGet_quiet ..)
  | auditSet f a => exact takeAuditSet_since hi fun hs => hp hs a rfl

theorem doWork_since {w : Work} (hi : Since b s) (hw : Sound b → w.Bounded) : Since b (doWork w s) := by
  cases w with
  | result t r => exact takeResult_since hi fun hs => hw hs t r rfl
  | judgeGrant => exact judgeGrant_since hi
  | measure => exact hi.same (measure_quiet ..)

/-- What is still to be done may be taken off the list, or dropped. -/
theorem dropWork_quiet {full : Prop} {ws : List Work} (hs : ∀ w ∈ ws, w ∈ s.work) : Quiet full s { s with work := ws } where
  overlay := rfl
  profiles := rfl
  wf := id
  asks _ _ ha := ⟨ha.1, ha.2.1, fun w hw => ha.2.2 w (hs w hw)⟩
  facts _ := rfl

theorem runWork_since {n : Nat} (hi : Since b s) : Since b (runWork n s) := by
  induction n generalizing s with
  | zero => exact hi
  | succ n ih =>
    unfold runWork
    split
    · exact hi
    · rename_i w ws hws
      have hpop : Quiet (Sound b) s { s with work := ws } := dropWork_quiet fun x hx => by rw [hws]; exact .tail _ hx
      exact ih (doWork_since (hi.same hpop) fun hs => (hi.sound hs).2.1.2.2 w (by rw [hws]; exact .head _))

theorem settleWork_since (hi : Since b s) : Since b (settleWork s) := (runWork_since hi).same (dropWork_quiet nofun)

theorem endTake_since (hi : Since b s) : Since b (endTake s) :=
  (settleWork_since hi).same (.after (arbitrate_quiet ..) (.of_view (sendTold_view ..)))

theorem arbitrate_work (s : State) : (arbitrate s).work = s.work := by
  unfold arbitrate
  split <;> rfl

theorem sendTold_work (s : State) : (sendTold s).work = s.work := (State.view_eq_iff.1 (sendTold_view s)).2.2.2.2.2

/-- Nothing outlives a take. -/
theorem endTake_work (s : State) : (endTake s).work = [] := by
  rw [endTake, arbitrate_work, sendTold_work]
  rfl

end Sys2Proof.Machine
end

section
/-! SUPPORT. What each command makes of the records: those that only move records on. -/
namespace Sys2Proof.Machine

variable {b s : State}

/-! ## Reception -/

/-- What holds of every state with the view of `s`, and of what `k` makes of one, holds of what is received. -/
theorem receive_of {P : State → Prop} {p : Nat} {e : Bool} {k : State → State} (h0 : ∀ t, t.view = s.view → P t)
    (hk : ∀ t, t.view = s.view → P (k t)) : P (receive p e k s) := by
  unfold receive
  dsimp only
  split_ifs
  exacts [h0 _ rfl, hk _ rfl]

theorem commissioning_of {P : State → Prop} {α : Type} {hd : Hdr} {x : Option α} {k : α → State → State}
    (h0 : ∀ t, t.view = s.view → P t) (hk : ∀ y t, x = some y → t.view = s.view → P (k y t)) :
    P (receive hd.port false (commissioning hd x k) s) := by
  refine receive_of h0 fun t ht => ?_
  unfold commissioning
  split
  · exact h0 _ ht
  · split_ifs
    exacts [h0 _ ht, hk _ _ rfl ht]

theorem onMgmt_of {P : State → Prop} {h : Hdr} {k : FrameKind} {body : List Byte} {own adj : State → State}
    (h0 : ∀ t, t.view = s.view → P t) (hown : ∀ t, t.view = s.view → P (own t))
    (hadj : ∀ t, t.view = s.view → P (adj t)) : P (onMgmt h k body own adj s) := by
  refine receive_of h0 fun t ht => ?_
  dsimp only
  split_ifs
  exacts [hown _ ht, hadj _ ht, h0 _ ht, h0 _ ((forwardFrame_view ..).trans ht)]

theorem onRequest_of {P : State → Prop} {α : Type} {h : Hdr} {code : Nat} {rest : List Byte} {x : Option α}
    {k : α → State → State} (h0 : ∀ t, t.view = s.view → P t) (hk : ∀ y t, x = some y → t.view = s.view → P (k y t)) :
    P (onRequest h code rest x k s) := by
  cases x with
  | none => exact onMgmt_of h0 (fun _ ht => h0 _ ht) fun _ ht => h0 _ ht
  | some y => exact onMgmt_of h0 (fun t ht => hk y t rfl ht) fun t ht => hk y t rfl ht

theorem Since.view {t : State} (hi : Since b s) (h : t.view = s.view) : Since b t := hi.same (.of_view h)

/-! ## Path setup -/

theorem awaitsReply_reserved {c : Context} {p : Nat} (h : awaitsReply c p = true) : c.st = .reserved := by
  simp only [awaitsReply, Bool.and_eq_true, beq_iff_eq] at h
  exact h.1.1

theorem takeSetupAck_since {h : Hdr} {body : List Byte} {id : Nat} (hi : Since b s) :
    Since b (takeSetupAck h body id s) := by
  unfold takeSetupAck
  split
  · exact hi.same (stray_quiet ..)
  rename_i n c hl
  have acked : Quiet (Sound b) s (s.modCtx n fun c => { c with setupAcked := true }) := .modCtx fun _ => rfl
  split_ifs with hst
  · dsimp only
    split
    · exact beginProbe_since (hi.same acked) ((hi.found hl).same acked) (awaitsReply_reserved hst)
    · exact (hi.same acked).same (relay_quiet ..)
    · exact hi.same (stray_quiet ..)
  · exact hi.same (stray_quiet ..)

theorem takeSetupReject_since {h : Hdr} {body : List Byte} {x : Nat × Reason × Nat} (hi : Since b s) :
    Since b (takeSetupReject h body x s) := by
  unfold takeSetupReject
  split
  · exact hi.same (stray_quiet ..)
  rename_i n c hl
  have freed := freeRecord_since hi n c
  split_ifs
  · split
    exacts [freed.same (tellEvent_quiet ..), freed.same (relay_quiet ..), hi.same (stray_quiet ..)]
  · exact hi.same (stray_quiet ..)

/-! ## The probe phase -/

theorem takeProbeFrame_since {h : Hdr} {body : List Byte} {x : Nat × Nat} (hi : Since b s) (h3 : x.2 ≤ 3) :
    Since b (takeProbeFrame h body x s) := by
  unfold takeProbeFrame
  split
  · exact hi.same (stray_quiet ..)
  rename_i n c hl
  have hc := hi.found hl
  split_ifs with hfit
  · obtain ⟨-, -, hk⟩ := hfit
    split
    · rename_i hst; exact takeProbe_since hi hc (.inl hst) hk h3
    · rename_i hst; exact takeProbe_since hi hc (.inr hst) hk h3
    · rename_i hst; exact answerArmed_since hi hc hst h3
    · exact hi.same (stray_quiet ..)
  · exact hi.same (stray_quiet ..)

theorem takeProbeAck_since {h : Hdr} {body : List Byte} {x : Nat × Nat × Bool} (hi : Since b s) :
    Since b (takeProbeAck h body x s) := by
  unfold takeProbeAck
  split
  · exact hi.same (stray_quiet ..)
  rename_i n c hl
  have hc := hi.found hl
  split
  · split
    · exact (closeMaint_since hi n c).same (tellEvent_quiet ..)
    · rename_i hst _; exact armHead_since hi hc hst
    · split_ifs
      exacts [(closeMaint_since hi n c).same (relay_quiet ..), hi.same (stray_quiet ..)]
    · rename_i hst _
      split_ifs
      · exact (hi.entered hc (by rw [hst]; rfl) (changeState_turns n c .armed s)).same (relay_quiet ..)
      · exact hi.same (stray_quiet ..)
    · exact hi.same (stray_quiet ..)
    · exact hi.same (relay_quiet ..)
    · exact hi.same (stray_quiet ..)
  · exact hi.same (stray_quiet ..)

theorem takeProbeNak_since {h : Hdr} {body : List Byte} {x : Nat × Nat × Nat} (hi : Since b s) :
    Since b (takeProbeNak h body x s) := by
  unfold takeProbeNak
  split
  · exact hi.same (stray_quiet ..)
  rename_i n c hl
  split
  · rename_i hst
    split
    · exact hi.same (relay_quiet ..)
    · split_ifs
      exacts [stepLadder_since hi (hi.found hl) hst.2, hi.same (stray_quiet ..)]
    · exact hi.same (stray_quiet ..)
  · exact hi.same (stray_quiet ..)

theorem probeDwellExpired_since {n i : Nat} (hi : Since b s) : Since b (probeDwellExpired n i s) := by
  unfold probeDwellExpired
  split
  · exact hi
  · rename_i hcur
    split_ifs with hst
    exacts [stepLadder_since hi (.of_current hcur) hst.1, hi]

theorem probeWindowExpired_quiet {full : Prop} (n i : Nat) (s : State) : Quiet full s (probeWindowExpired n i s) := by
  unfold probeWindowExpired
  split
  · exact .refl s
  · exact .ite (.after (sendOn_quiet ..) (.modCtx fun _ => rfl)) (.refl s)

theorem probeWindowExpired_work (n i : Nat) (s : State) : (probeWindowExpired n i s).work = s.work := by
  unfold probeWindowExpired
  split
  · rfl
  · split_ifs
    · rw [sendOn_frame]; rfl
    · rfl

/-! ## Service, withdrawal and faults -/

theorem takeAdvance_since {h : Hdr} {x : Nat × List HopReport} (hi : Since b s) : Since b (takeAdvance h x s) := by
  unfold takeAdvance
  split
  · exact hi.same (stray_quiet ..)
  · split_ifs
    exacts [hi.same (.after (joinRamp_quiet ..) (.modCtx fun _ => rfl)), hi.same (stray_quiet ..)]

theorem takeReady_since {h : Hdr} {body : List Byte} {x : Nat × List HopReport} (hi : Since b s) :
    Since b (takeReady h body x s) := by
  unfold takeReady
  split
  · exact hi.same (stray_quiet ..)
  rename_i n c hl
  split_ifs with hst
  · obtain ⟨-, hst, -⟩ := hst
    have served := hi.entered (hi.found hl) (by rw [hst]; rfl) (changeState_turns n c .inService s)
    split
    · exact served.same (relay_quiet ..)
    · exact served.same (.after (tellEvent_quiet ..) (.modCtx fun _ => rfl))
    · exact hi.same (stray_quiet ..)
  · exact hi.same (stray_quiet ..)

theorem passTeardown_view (h : Hdr) (x : TeardownBody) (e : Hop) (rec : Option Nat) (s : State) :
    (passTeardown h x e rec s).view = s.view := by
  unfold passTeardown
  split_ifs
  · split
    exacts [rfl, relay_view ..]
  · split
    exacts [event_view .., rfl]

theorem takeTeardown_since {h : Hdr} {x : TeardownBody} (hi : Since b s) : Since b (takeTeardown h x s) := by
  unfold takeTeardown
  split
  · exact hi.view rfl
  split_ifs
  · exact hi.same (stray_quiet ..)
  split
  · exact hi.view (passTeardown_view ..)
  · rename_i n c _
    split_ifs
    · exact hi.same (stray_quiet ..)
    · exact (freeRecord_since (hi.same (askBare_quiet (fun _ e => by cases e) rfl)) n c).view (passTeardown_view ..)

theorem deadlineExpired_since {n i : Nat} (hi : Since b s) : Since b (deadlineExpired n i s) := by
  unfold deadlineExpired
  split
  · exact hi
  rename_i c hcur
  have hc : Stands n c s := .of_current hcur
  split_ifs
  · split
    exacts [localFault_since hi hc, localFault_since hi hc, localFault_since hi hc, localFault_since hi hc,
      freeRecord_since hi n c, hi]
  · exact hi

theorem stepDwellExpired_quiet {full : Prop} (n i : Nat) (s : State) : Quiet full s (stepDwellExpired n i s) := by
  unfold stepDwellExpired
  split
  · exact .refl s
  refine .ite ?_ (.refl s)
  dsimp only
  split
  · exact .after (startStep_quiet ..) (.modCtx fun _ => rfl)
  · exact .after (withdrawStep_quiet ..) (.modCtx fun _ => rfl)
  · exact .refl s

theorem auditExpired_quiet {full : Prop} (f : Nat) (s : State) : Quiet full s (auditExpired f s) :=
  .ite (.ite (.of_view rfl) (.after (judgeAudit_quiet ..) (.of_view rfl))) (.refl s)

/-! ## Ports -/

theorem linkLoss_since {p : Nat} (hi : Since b s) : Since b (linkLoss p s) :=
  (settleWork_since (foldl_keeps (P := Since b) (fun _ _ _ hi => linkLossFault_since hi) hi)).view (sendTold_view _)

theorem leaveUp_since {p : Nat} {l : LinkState} {a : Option Acq} (hi : Since b s) : Since b (leaveUp p l a s) := by
  unfold leaveUp
  dsimp only
  refine Since.view ?_ (event_view ..)
  split
  · refine linkLoss_since (hi.view ?_)
    rfl
  · exact hi.view rfl

theorem lineHello_since {p n np : Nat} (hi : Since b s) : Since b (lineHello p n np s) := by
  unfold lineHello
  dsimp only
  split
  · exact hi
  · split
    · split_ifs
      exacts [hi.view (event_view ..), hi.view rfl, hi.view rfl]
    · exact hi.view rfl
  · split_ifs
    exacts [hi.view rfl, leaveUp_since hi]

theorem takeHello_since {p : Nat} {body : List Byte} (hi : Since b s) : Since b (takeHello p body s) := by
  unfold takeHello
  split_ifs
  · exact hi.view rfl
  · split
    · exact hi.view rfl
    · split_ifs
      exacts [hi.view rfl, lineHello_since hi]

/-! ## Management -/

/-- R120: an IN_SERVICE record begins its withdrawal below the limit of active contexts (R37). -/
theorem startWithdrawal_since {n : Nat} {c : Context} (hi : Since b s) (hc : Stands n c s) (hst : c.st = .inService)
    (hroom : activeCount s < Config.activeMax) : Since b (startWithdrawal n c s) := by
  have hst' : c.facts.st = .inService := hst
  refine (hi.turned hc (changeState_turns n c .withdrawing s) ⟨⟨rfl, fun _ => ⟨nofun, le_rfl⟩, ?_⟩, ?_⟩
    fun _ => .inr hroom).same (joinRamp_quiet ..)
  · rintro (e | e) <;> cases e
  · rintro - - ⟨h5, -, hrun, hlevel, -⟩
    exact ⟨h5, fun _ hn => absurd rfl hn, hrun, hlevel, (by rintro (e | e | e) <;> cases e), nofun⟩

theorem withdraw_since {h : Hdr} {id : Nat} (hi : Since b s) : Since b (withdraw h id s) := by
  unfold withdraw
  split
  · exact hi.view rfl
  rename_i n c hl
  split
  · exact hi.view rfl
  split
  · rename_i hst
    split
    · exact hi.view rfl
    · rename_i hroom
      exact (startWithdrawal_since hi (hi.found hl) hst (by omega)).view rfl
  · exact hi.view rfl
  · refine Since.view (s := abortLightpath n c s) ?_ rfl
    exact freeRecord_since (hi.same (.after (sendOn_quiet ..) (askSafety_quiet ..))) n c

theorem contextDiscard_since {h : Hdr} {id : Nat} (hi : Since b s) : Since b (contextDiscard h id s) := by
  unfold contextDiscard
  split
  · exact hi.view rfl
  · rename_i n c _
    have freed : Since b (respond h reqContextDiscard .ok [] (freeRecord n c s)) := (freeRecord_since hi n c).view rfl
    split
    exacts [freed, freed, hi.view rfl]

theorem elementRead_quiet {full : Prop} (h : Hdr) (x : Nat × Nat × Nat) (s : State) :
    Quiet full s (elementRead h x s) := by
  unfold elementRead
  split
  · exact .of_view rfl
  · refine ⟨⟨rfl, rfl, id, fun _ _ ha => ⟨fun r hr => ?_, ha.2⟩⟩, fun _ => rfl⟩
    rcases mem_queued_setQueue (b := s.bus) (cl := .mgmt) hr with hq | hq
    · rcases List.mem_append.1 hq with hq | hq
      · exact ha.1 r (mem_queued.2 ⟨.mgmt, hq⟩)
      · rw [List.mem_singleton.1 hq]
        exact ⟨nofun, nofun⟩
    · exact ha.1 r hq

theorem abortContext_since {n : Nat} (hi : Since b s) : Since b (abortContext s n) := by
  unfold abortContext
  split
  · exact hi
  split_ifs
  · exact freeRecord_since (((hi.same (sendOn_quiet ..)).same (sendOn_quiet ..)).same (askSafety_quiet ..)) ..
  · exact hi

theorem nodeResetSteps_since (hi : Since b s) : Since b (nodeResetSteps s) := by
  have before : Quiet (Sound b) s (beforeAborts s) := by
    rw [beforeAborts_eq]
    refine ⟨⟨rfl, rfl, id, fun _ _ ha => ⟨nofun, fun o ho => ?_, ha.2.2⟩⟩, fun _ => rfl⟩
    obtain ⟨o', ho', rfl⟩ := Option.map_eq_some_iff.1 ho
    exact ha.2.1 o' ho'
  have after (t : State) : Quiet (Sound b) t (afterAborts t) := by
    have ramps : Quiet (Sound b) t (clearRamps t) := .of_view rfl
    have audits (f : Nat) (u : State) : Quiet (Sound b) u (resetAudit u f) := .of_view rfl
    exact (ramps.trans (.foldl (fun u f => audits f u) _ _)).trans
      (dropWork_quiet fun _ hw => absurd hw List.not_mem_nil)
  rw [nodeResetSteps_eq]
  exact (foldl_keeps (P := Since b) (fun _ _ _ hu => abortContext_since hu) (hi.same before)).same (after _)

end Sys2Proof.Machine
end

section
/-! SUPPORT. What a command makes of the state: records move on, or one record is made, or a profile, the overlay or
everything is written; every command and every step is one of these. -/
namespace Sys2Proof.Machine

variable {b s t u : State}

/-- What a new record is when it is admitted in `s`: under no ID and no pilot code in use, below the concurrency limit if
it is active, and with its progress at rest. -/
structure Admitted (s : State) (c : Context) : Prop where
  ids    : ∀ n d, s.ctx n = some d → d.lpId ≠ c.lpId
  pilots : (c.st = .reserved ∨ c.st = .probing) →
    ∀ n d, s.ctx n = some d → (d.st = .reserved ∨ d.st = .probing) → d.pilot ≠ c.pilot
  room   : c.st.active = true → activeCount s < s.resp.overlay.concurrency
  level  : c.probeLevel = 0
  fit    : ∀ p : Profile, p.InRange → c.Fit p

/-- What a command may make of the state `s`. -/
inductive Taken (s t : State) : Prop
  | kept (h : Since s t) (hw : s.work = [] → t.work = [])
  | made (n : Nat) (c : Context) (hn : s.ctx n = none) (hc : Admitted s c) (hv : t.view = (s.setCtx n (some c)).view)
  | profiled (n : Nat) (p : Profile) (hp : p.InRange) (hn : profileInUse s n = false)
      (hv : t.view = (s.setProfile n p).view)
  | overlaid (o : Overlay) (ho : o.concurrency ≤ Config.activeMax) (hv : t.view = (setOverlay o s).view)
  | reset (hv : t.view = State.reset.view)

theorem work_of_view (h : t.view = s.view) : t.work = s.work := (State.view_eq_iff.1 h).2.2.2.2.2

theorem wf_of_view (h : t.view = s.view) (hw : s.table.recs.wf) : t.table.recs.wf := (State.view_eq_iff.1 h).1 ▸ hw

theorem Taken.of_view (hw : s.table.recs.wf) (h : t.view = s.view) : Taken s t :=
  .kept ((Since.refl hw).view h) fun h0 => (work_of_view h).trans h0

theorem Since.trans (hi : Since b s) (k : Since s t) : Since b t where
  wf := k.wf
  overlay := k.overlay.trans hi.overlay
  profiles := k.profiles.trans hi.profiles
  recs j y hy := by
    obtain ⟨x, hx, hxy⟩ := k.recs j y hy
    obtain ⟨w, hw, hwx⟩ := hi.recs j x hx
    exact ⟨w, hw, hwx.trans hxy⟩
  active h := k.active (hi.active h)
  sound h := k.sound (hi.sound h)

theorem setCtx_view (h : t.view = s.view) (n : Nat) (c : Option Context) : (t.setCtx n c).view = (s.setCtx n c).view := by
  obtain ⟨hr, hv⟩ := State.view_eq_iff.1 h
  exact State.view_eq_iff.2 ⟨by rw [State.setCtx, State.setCtx, hr], hv⟩

theorem setProfile_view (h : t.view = s.view) (n : Nat) (p : Profile) :
    (t.setProfile n p).view = (s.setProfile n p).view := by
  obtain ⟨hr, hp, hv⟩ := State.view_eq_iff.1 h
  exact State.view_eq_iff.2 ⟨hr, by simp only [State.setProfile, hp], hv⟩

theorem setOverlay_view (h : t.view = s.view) (o : Overlay) : (setOverlay o t).view = (setOverlay o s).view := by
  obtain ⟨hr, hp, -, hv⟩ := State.view_eq_iff.1 h
  exact State.view_eq_iff.2 ⟨hr, hp, rfl, hv⟩

theorem profileInUse_of_view (h : t.view = s.view) (n : Nat) : profileInUse t n = profileInUse s n := by
  rw [profileInUse, (State.view_eq_iff.1 h).1]; rfl

theorem Admitted.of_view (h : t.view = s.view) {c : Context} (ha : Admitted t c) : Admitted s c where
  ids n d hd := ha.ids n d ((ctx_of_view h n).trans hd)
  pilots hc n d hd := ha.pilots hc n d ((ctx_of_view h n).trans hd)
  room hc := by rw [← activeCount_of_view h, ← (State.view_eq_iff.1 h).2.2.1]; exact ha.room hc
  level := ha.level
  fit := ha.fit

/-- A command may count or refuse before it takes what it has received. -/
theorem Taken.after_view (hw : s.table.recs.wf) (h : u.view = s.view) (k : Taken u t) : Taken s t := by
  cases k with
  | kept k hk => exact .kept (((Since.refl hw).view h).trans k) fun h0 => hk ((work_of_view h).trans h0)
  | made n c hn hc hv => exact .made n c ((ctx_of_view h n).symm.trans hn) (hc.of_view h) (hv.trans (setCtx_view h ..))
  | profiled n p hp hn hv =>
    exact .profiled n p hp ((profileInUse_of_view h n).symm.trans hn) (hv.trans (setProfile_view h ..))
  | overlaid o ho hv => exact .overlaid o ho (hv.trans (setOverlay_view h o))
  | reset hv => exact .reset hv

theorem Taken.before_view (k : Taken s u) (h : t.view = u.view) : Taken s t := by
  cases k with
  | kept k hk => exact .kept (k.view h) fun h0 => (work_of_view h).trans (hk h0)
  | made n c hn hc hv => exact .made n c hn hc (h.trans hv)
  | profiled n p hp hn hv => exact .profiled n p hp hn (h.trans hv)
  | overlaid o ho hv => exact .overlaid o ho (h.trans hv)
  | reset hv => exact .reset (h.trans hv)

/-! ## Records made (R21, R41, R55) -/

theorem findLp_none (hw : s.table.recs.wf) {id : Nat} (h0 : id ≠ 0) (h : findLp s id = none) {n : Nat} {d : Context}
    (hd : s.ctx n = some d) : d.lpId ≠ id := by
  intro e
  rw [findLp, if_neg h0, List.findSome?_eq_none_iff] at h
  simpa [e] using h (n, some d) ((Tab.mem_cells hw n _).2 ⟨hd, by simp⟩)

theorem pilotInUse_false (hw : s.table.recs.wf) {code : Nat} (h : pilotInUse s code = false) {n : Nat} {d : Context}
    (hd : s.ctx n = some d) (hst : d.st = .reserved ∨ d.st = .probing) : d.pilot ≠ code := by
  intro e
  rw [pilotInUse, List.any_eq_false] at h
  simpa [e, hst] using h (n, some d) ((Tab.mem_cells hw n _).2 ⟨hd, by simp⟩)

theorem targetOf_bounds (d : Int) (n : Nat) (t : Int) : -4000 ≤ targetOf d n t ∧ targetOf d n t ≤ 1500 :=
  clampInt_bounds (by decide) _

theorem newContext_admitted (hw : s.table.recs.wf) {x : SetupBody} (h0 : x.id ≠ 0) (h : admissionFailure s x = none)
    (role : Role) (ing eg i : Nat) : Admitted s (newContext s role ing eg x i) := by
  unfold admissionFailure at h
  dsimp only at h
  split_ifs at h with hid _ _ hroom _ _ hpilot
  exact
    { ids := fun n d hd => findLp_none hw h0 (by simpa using hid) hd
      pilots := fun _ n d hd => pilotInUse_false hw (Bool.eq_false_iff.2 hpilot) hd
      room := fun _ => not_le.1 hroom
      level := rfl
      fit := fun p hp => ⟨⟨nofun, targetOf_bounds .., nofun⟩, fun _ _ => Nat.zero_le _, Nat.zero_le _, Nat.zero_le _,
        fun _ => ⟨rfl, rfl⟩, nofun⟩ }

theorem admission_taken (hw : s.table.recs.wf) {x : SetupBody} (h0 : x.id ≠ 0) (role : Role) (ing eg i : Nat) :
    Taken s (admission role ing eg i x s).2 := by
  have hj : (judgeSpan ing eg x.first x.count x.cls s).2.view = s.view := (judgeSpan_dirOnly ..).view
  unfold admission
  dsimp only
  split
  · exact .of_view hw hj
  · exact .of_view hw hj
  · exact .of_view hw hj
  · exact .of_view hw hj
  · rename_i n hearly _ _ hn
    refine .made n _ (lowestFree_ctx hn) (newContext_admitted hw h0 hearly role ing eg i) ?_
    refine ((reserveSpan_dirOnly n ing eg x.first x.count (allocate n (newContext s role ing eg x i)
      (judgeSpan ing eg x.first x.count x.cls s).2)).view).trans ?_
    exact setCtx_view hj n (some (newContext s role ing eg x i))

theorem takeSetup_taken (hw : s.table.recs.wf) {h : Hdr} {x : SetupBody} (h0 : x.id ≠ 0) : Taken s (takeSetup h x s) := by
  unfold takeSetup
  split
  · exact .of_view hw rfl
  split
  · exact .of_view hw rfl
  · rename_i role _
    have tried := admission_taken hw h0 role
    split <;> rename_i heq
    all_goals have ended := congrArg Prod.snd heq ▸ tried _ _ _
    · exact ended.before_view rfl
    · split
      exacts [ended.before_view (sendOn_view ..), ended.before_view (relay_view ..)]

theorem parseSetup_id {l : List Byte} {x : SetupBody} (h : parseSetup l = some x) : x.id ≠ 0 := by
  have := (Option.filter_eq_some_iff.1 h).2
  simp only [SetupBody.sound, Bool.and_eq_true, decide_eq_true_eq] at this
  exact this.1.1.2

theorem onSetup_taken (hw : s.table.recs.wf) {h : Hdr} {body : List Byte} : Taken s (onSetup h body s) :=
  commissioning_of (P := Taken s) (fun _ ht => .of_view hw ht) fun _ _ hx ht =>
    (takeSetup_taken (wf_of_view ht hw) (parseSetup_id hx)).after_view hw ht

theorem commission_taken (hw : s.table.recs.wf) {h : Hdr} {x : SetupBody} : Taken s (commission h x s) := by
  unfold commission
  split
  · exact .of_view hw rfl
  rename_i hrange
  split
  · exact .of_view hw rfl
  split
  · exact .of_view hw rfl
  have h0 : x.id ≠ 0 := by
    simp only [commissionInRange, Bool.not_eq_true', Bool.not_eq_false, Bool.and_eq_true, bne_iff_ne] at hrange
    exact hrange.1.1
  have tried := admission_taken hw h0 .head
  split <;> rename_i heq
  all_goals have ended := congrArg Prod.snd heq ▸ tried _ _ _
  · exact ended.before_view rfl
  · exact ended.before_view (sendOn_view ..)

theorem adoptedContext_admitted (hw : s.table.recs.wf) {x : AdoptBody} (h0 : x.id ≠ 0) (h : adoptFailure s x = none) :
    Admitted s (adoptedContext s x) := by
  unfold adoptFailure at h
  split_ifs at h with hrange _ _ hid
  simp only [adoptInRange, Bool.not_eq_true', Bool.not_eq_false, Bool.and_eq_true, Bool.or_eq_true, beq_iff_eq,
    decide_eq_true_eq] at hrange
  refine
    { ids := fun n d hd => findLp_none hw h0 (by simpa using hid) hd
      pilots := by rintro (e | e) <;> cases e
      room := nofun
      level := rfl
      fit := fun p hp => ⟨⟨fun a ha => ?_, targetOf_bounds .., nofun⟩, fun hn => absurd rfl hn, Nat.zero_le _,
        Nat.zero_le _, fun _ => ⟨rfl, rfl⟩, nofun⟩ }
  change Atten.ofCode x.atten = _ at ha
  unfold Atten.ofCode at ha
  split_ifs at ha with hb
  cases ha
  exact hrange.2.resolve_left hb

theorem adopt_taken (hw : s.table.recs.wf) {h : Hdr} {x : AdoptBody} : Taken s (adopt h x s) := by
  have hd := judgeSpan_dirOnly x.ingress x.egress x.first x.count x.cls s
  unfold adopt
  split
  · exact .of_view hw rfl
  rename_i hchecks
  dsimp only
  split
  · exact .of_view hw hd.view
  · exact .of_view hw hd.view
  rename_i n _ hn
  split_ifs with h0
  · exact .of_view hw hd.view
  · generalize (judgeSpan x.ingress x.egress x.first x.count x.cls s).2 = t at hd ⊢
    refine .made n _ (lowestFree_ctx hn) (adoptedContext_admitted hw h0 hchecks) ?_
    have hc : adoptedContext t x = adoptedContext s x := by rw [hd]; rfl
    refine (reserveSpan_dirOnly n x.ingress x.egress x.first x.count (allocate n (adoptedContext t x) t)).view.trans ?_
    rw [hc]
    exact setCtx_view hd.view n (some (adoptedContext s x))

/-! ## Profiles, the overlay, power-on reset -/

theorem clampNat_bounds {lo hi : Nat} (h : lo ≤ hi) (n : Nat) : lo ≤ clampNat lo hi n ∧ clampNat lo hi n ≤ hi := by
  unfold clampNat
  split_ifs <;> omega

/-- R91: a written profile is brought within its ranges, and refused where its ladder rises. -/
theorem clamped_inRange {w : Profile} (h : w.clamped.ladderFalls = true) : w.clamped.InRange := by
  simp only [Profile.ladderFalls, Bool.and_eq_true, decide_eq_true_eq] at h
  obtain ⟨⟨h1, h2⟩, h3⟩ := h
  exact ⟨clampNat_bounds (by decide) _, clampNat_bounds (by decide) _, clampNat_bounds (by decide) _,
    clampNat_bounds (by decide) _, clampNat_bounds (by decide) _, clampNat_bounds (by decide) _,
    ⟨(clampNat_bounds (Nat.zero_le 2500) _).2, h1, h2, h3⟩, clampNat_bounds (by decide) _, clampNat_bounds (by decide) _,
    clampNat_bounds (by decide) _, clampNat_bounds (by decide) _, clampNat_bounds (by decide) _,
    (clampNat_bounds (Nat.zero_le 3600) _).2, clampNat_bounds (by decide) _⟩

theorem writeProfile_taken (hw : s.table.recs.wf) {h : Hdr} {x : (Nat × Nat) × Profile} :
    Taken s (writeProfile h x s) := by
  unfold writeProfile
  dsimp only
  split
  · exact .of_view hw rfl
  split
  · exact .of_view hw rfl
  rename_i hladder
  split
  · exact .of_view hw rfl
  · rename_i huse
    exact .profiled _ _ (clamped_inRange (by simpa using hladder)) (Bool.eq_false_iff.2 huse) rfl

theorem capabilitySet_taken (hw : s.table.recs.wf) {h : Hdr} {w : Overlay} : Taken s (capabilitySet h w s) := by
  unfold capabilitySet
  split_ifs
  · exact .of_view hw rfl
  · exact .overlaid w.judged (min_le_right ..) rfl
  · exact .overlaid w.judged (min_le_right ..) rfl

theorem capabilityRestore_taken (hw : s.table.recs.wf) {h : Hdr} {x : Unit} : Taken s (capabilityRestore h x s) := by
  unfold capabilityRestore
  split_ifs
  · exact .of_view hw rfl
  · exact .overlaid Overlay.factory le_rfl rfl

theorem powerOnLine_view (p : Nat) (s : State) : (powerOnLine p s).view = s.view := by
  unfold powerOnLine
  split_ifs <;> rfl

theorem powerOn_taken {straps : Nat} : Taken s (powerOn straps s) := by
  have lines (t : State) : ((List.range 8).foldl (fun t p => powerOnLine p t) t).view = t.view :=
    foldl_keeps (P := fun u : State => u.view = t.view) (fun u p _ hu => (powerOnLine_view p u).trans hu) rfl
  refine .reset ?_
  unfold powerOn
  dsimp only
  generalize hu : (List.range 8).foldl (fun t p => powerOnLine p t) _ = u
  have hv : u.view = State.reset.view := by rw [← hu, lines]; rfl
  have hl : (localUp u).view = u.view := event_view ..
  split
  exacts [hl.trans hv, hv]

end Sys2Proof.Machine
end

section
/-! SUPPORT. Every command and every step, as what it makes of the records. -/
namespace Sys2Proof.Machine

/-! ## Requests that leave what the laws read -/

theorem respond_view (h : Hdr) (code : Nat) (st : Status) (r : List Byte) (s : State) :
    (respond h code st r s).view = s.view := rfl

theorem respondWrite_view (h : Hdr) (t : Nat) (ix : Nat × Nat) (st : Status) (r : List Byte) (s : State) :
    (respondWrite h t ix st r s).view = s.view := rfl

theorem writeFace_view (h : Hdr) (x : (Nat × Nat) × FaceWrite) (s : State) : (writeFace h x s).view = s.view := by
  unfold writeFace
  dsimp only
  split_ifs <;> rfl

theorem writeBlock_view (h : Hdr) (x : (Nat × Nat) × BlockWrite) (s : State) : (writeBlock h x s).view = s.view := by
  unfold writeBlock
  dsimp only
  split
  · rfl
  split
  · rfl
  split
  · rfl
  · refine (respondWrite_view ..).trans ?_
    split
    exacts [(clearPage_dirOnly ..).view, rfl]

theorem writeSlot_view (h : Hdr) (x : (Nat × Nat) × Nat) (s : State) : (writeSlot h x s).view = s.view := by
  have written (f slot : Nat) (a k : EntryKind) : (writeLive f a k (setKind f slot k s)).view = s.view :=
    (liveChange_view ..).trans (setKind_dirOnly ..).view
  unfold writeSlot
  dsimp only
  split
  · rfl
  split
  · rfl
  split
  · rfl
  split
  exacts [rfl, rfl, (respondWrite_view ..).trans (written ..)]

theorem writeSettings_view (h : Hdr) (x : (Nat × Nat) × SettingsWrite) (s : State) :
    (writeSettings h x s).view = s.view := by
  have retimed (f old new : Nat) (t : State) : (retimeAudit f old new t).view = t.view := by
    unfold retimeAudit
    split_ifs <;> rfl
  unfold writeSettings
  dsimp only
  split_ifs
  exacts [rfl, rfl, rfl, (respondWrite_view ..).trans (retimed ..), (respondWrite_view ..).trans (retimed ..)]

theorem writeElement_view (h : Hdr) (x : (Nat × Nat) × ElementWrite) (s : State) :
    (writeElement h x s).view = s.view := by
  unfold writeElement
  dsimp only
  split
  · rfl
  split
  · rfl
  split <;> rfl

theorem writeRoute_view (h : Hdr) (x : (Nat × Nat) × Route) (s : State) : (writeRoute h x s).view = s.view := by
  unfold writeRoute
  dsimp only
  split_ifs <;> rfl

theorem writeNode_view (h : Hdr) (x : (Nat × Nat) × NodeWrite) (s : State) : (writeNode h x s).view = s.view := by
  unfold writeNode
  dsimp only
  split_ifs <;> rfl

theorem flagsClear_view (h : Hdr) (x : Nat × Nat) (s : State) : (flagsClear h x s).view = s.view := by
  have cleared (t : State) : ((List.range 24).foldl (fun u b => clearBlockFlags x.1 b u) t).view = t.view :=
    (DirOnly.foldl (fun u b => clearBlockFlags_dirOnly x.1 b u) (List.range 24) t).view
  have face : (s.modFace x.1 fun y => { y with used := false }).view = s.view := rfl
  unfold flagsClear
  split
  · rfl
  split
  · exact (respond_view ..).trans ((cleared _).trans face)
  · exact (respond_view ..).trans (clearBlockFlags_dirOnly x.1 x.2 s).view

theorem contextRead_view (h : Hdr) (id : Nat) (s : State) : (contextRead h id s).view = s.view := by
  unfold contextRead
  split <;> rfl

theorem contextList_view (h : Hdr) (n : Nat) (s : State) : (contextList h n s).view = s.view := by
  unfold contextList
  split_ifs <;> rfl

theorem elementRevive_view (h : Hdr) (e : Nat) (s : State) : (elementRevive h e s).view = s.view := by
  unfold elementRevive
  split_ifs <;> rfl

theorem capabilityFreeze_view (h : Hdr) (x : Unit) (s : State) : (capabilityFreeze h x s).view = s.view := by
  unfold capabilityFreeze
  split_ifs <;> rfl

theorem clearCounters_view (s : State) : (clearCounters s).view = s.view := by
  rw [clearCounters_eq]
  exact State.view_eq_iff.2 ⟨rfl, rfl, rfl, by simp only [ElementBus.queued], rfl, rfl⟩

theorem countersRead_view (h : Hdr) (c : Bool) (s : State) : (countersRead h c s).view = s.view := by
  refine (respond_view ..).trans ?_
  split_ifs
  exacts [clearCounters_view s, rfl]

theorem nodeResetSteps_work (s : State) : (nodeResetSteps s).work = [] := by
  have ended (t : State) : (afterAborts t).work = [] := by simp only [afterAborts]
  rw [nodeResetSteps_eq, ended]

theorem parseProbe_level {l : List Byte} {x : Nat × Nat} (hx : parseProbe l = some x) : x.2 ≤ 3 := by
  simp only [parseProbe, Option.bind_eq_bind, Option.bind_eq_some_iff] at hx
  obtain ⟨_, -, k, -, hk⟩ := hx
  split_ifs at hk with h3
  cases hk
  exact h3

/-! ## Commands -/

/-- Every state that a command answers is one that it may make of `s`. -/
def Takes (s : State) (o : Host.Outcome State Fault Refusal) : Prop := ∀ t, o = .next t → Taken s t

section
variable {s t : State} (hw : s.table.recs.wf)

theorem Takes.next (h : Taken s t) : Takes s (.next t) := fun _ e => by cases e; exact h

theorem Takes.ite {p : Prop} [Decidable p] {a b : Host.Outcome State Fault Refusal} (ha : Takes s a)
    (hb : Takes s b) : Takes s (if p then a else b) := by split_ifs <;> assumption

include hw

theorem Takes.same : Takes s (.next s) := .next (.of_view hw rfl)

theorem Takes.of_view (h : t.view = s.view) : Takes s (.next t) := .next (.of_view hw h)

/-- A command whose records move on and that runs to the end of a take. -/
theorem Takes.endTake (h : Since s s → Since s t) : Takes s (.next (endTake t)) :=
  .next (.kept (endTake_since (h (.refl hw))) fun _ => endTake_work t)

/-- A commissioning frame whose records move on. -/
theorem Takes.commissioning {α : Type} {hd : Hdr} {x : Option α} {k : α → State → State}
    (hk : ∀ y t, x = some y → Since s t → Since s (k y t)) :
    Takes s (.next (Machine.endTake (receive hd.port false (Machine.commissioning hd x k) s))) :=
  .endTake hw fun hi => commissioning_of (fun _ ht => hi.view ht) fun y t hx ht => hk y t hx (hi.view ht)

/-- A request that does one of the things a command may do. -/
theorem Takes.request {α : Type} {h : Hdr} {code : Nat} {rest : List Byte} {x : Option α} {k : α → State → State}
    (hk : ∀ y t, t.table.recs.wf → Taken t (k y t)) : Takes s (.next (onRequest h code rest x k s)) :=
  .next (onRequest_of (P := Taken s) (fun _ ht => .of_view hw ht) fun y t _ ht =>
    (hk y t (wf_of_view ht hw)).after_view hw ht)

/-- A request that leaves all that the laws read as it was. -/
theorem Takes.request_view {α : Type} {h : Hdr} {code : Nat} {rest : List Byte} {x : Option α} {k : α → State → State}
    (hk : ∀ y t, (k y t).view = t.view) : Takes s (.next (onRequest h code rest x k s)) :=
  .request hw fun y t ht => .of_view ht (hk y t)

/-- A request whose records move on, run to the end of a take. -/
theorem Takes.request_endTake {α : Type} {h : Hdr} {code : Nat} {rest : List Byte} {x : Option α}
    {k : α → State → State} (hk : ∀ y t, Since s t → Since s (k y t)) :
    Takes s (.next (Machine.endTake (onRequest h code rest x k s))) :=
  .endTake hw fun hi => onRequest_of (fun _ ht => hi.view ht) fun y t _ ht => hk y t (hi.view ht)

/-! ## Pins, timers, the element bus -/

theorem execSignalPresent_takes {p : Fin 8} : Takes s (execSignalPresent p s) :=
  .ite (.of_view hw rfl) (.of_view hw rfl)

theorem execSignalLost_takes {p : Fin 8} : Takes s (execSignalLost p s) := by
  unfold execSignalLost
  dsimp only
  split
  · exact .of_view hw rfl
  · exact .of_view hw rfl
  · exact .endTake hw fun hi => leaveUp_since (hi.view rfl)

theorem execCarrierPresent_takes : Takes s (execCarrierPresent s) :=
  .ite (.of_view hw ((event_view ..).trans rfl)) (.of_view hw rfl)

theorem execCarrierLost_takes : Takes s (execCarrierLost s) :=
  .ite (.of_view hw ((event_view ..).trans rfl)) (.of_view hw rfl)

theorem execHelloTimerExpiry_takes {p : Fin 8} : Takes s (execHelloTimerExpiry p s) :=
  .ite (.of_view hw rfl) (.same hw)

theorem execDeadTimerExpiry_takes {p : Fin 8} : Takes s (execDeadTimerExpiry p s) :=
  .ite (.endTake hw leaveUp_since) (.same hw)

theorem execTransmissionEnd_takes {p : Fin 9} : Takes s (execTransmissionEnd p s) := by
  unfold execTransmissionEnd
  split
  exacts [.same hw, .of_view hw rfl]

theorem execSettlePeriodEnd_takes {e : Fin 32} : Takes s (execSettlePeriodEnd e s) := by
  have calm : Since s (s.modElem e fun x => { x with settleUntil := none }) := (Since.refl hw).view rfl
  exact .ite (.next (.kept (calm.same (arbitrate_quiet _)) fun h0 => (arbitrate_work _).trans h0)) (.same hw)

theorem execTurnaroundEnd_takes : Takes s (execTurnaroundEnd s) := by
  unfold execTurnaroundEnd
  split
  · rename_i o ho
    split
    · refine .next (.kept ((Since.refl hw).same ⟨⟨rfl, rfl, id, fun _ _ ha => ⟨ha.1, ?_, ha.2.2⟩⟩, fun _ => rfl⟩) id)
      rintro _ ⟨⟩
      exact ha.2.1 o ho
    · exact .same hw
  · exact .same hw

theorem execElementAnswer_takes {txn : Nat} {a : Answer} : Takes s (execElementAnswer txn a s) := by
  unfold execElementAnswer
  split
  · rename_i ho
    split
    · exact .ite (.endTake hw fun hi => hi.same (endTxn_quiet ho)) (.same hw)
    · exact .same hw
  · exact .same hw

theorem execResponseTimeout_takes : Takes s (execResponseTimeout s) := by
  unfold execResponseTimeout
  split
  · rename_i ho
    split
    · exact .ite (.endTake hw fun hi => hi.same (endTxn_quiet ho)) (.same hw)
    · exact .same hw
  · exact .same hw

/-! ## Frames -/

section
variable {h : Hdr} {body params : List Byte}

theorem execHello_takes : Takes s (execHello h body s) :=
  .endTake hw fun hi => receive_of (fun _ ht => hi.view ht) fun _ ht => takeHello_since (hi.view ht)

theorem execSetupAck_takes : Takes s (execSetupAck h body s) :=
  .commissioning hw fun _ _ _ hi => takeSetupAck_since hi

theorem execSetupReject_takes : Takes s (execSetupReject h body s) :=
  .commissioning hw fun _ _ _ hi => takeSetupReject_since hi

theorem execProbe_takes : Takes s (execProbe h body s) :=
  .commissioning hw fun _ _ hx hi => takeProbeFrame_since hi (parseProbe_level hx)

theorem execProbeAck_takes : Takes s (execProbeAck h body s) :=
  .commissioning hw fun _ _ _ hi => takeProbeAck_since hi

theorem execProbeNak_takes : Takes s (execProbeNak h body s) :=
  .commissioning hw fun _ _ _ hi => takeProbeNak_since hi

theorem execAdvance_takes : Takes s (execAdvance h body s) :=
  .commissioning hw fun _ _ _ hi => takeAdvance_since hi

theorem execReady_takes : Takes s (execReady h body s) :=
  .commissioning hw fun _ _ _ hi => takeReady_since hi

theorem execFault_takes : Takes s (execFault h body s) :=
  .commissioning hw fun _ _ _ hi => takeFault_since hi

theorem execTeardown_takes : Takes s (execTeardown h body s) :=
  .commissioning hw fun _ _ _ hi => takeTeardown_since hi

/-! ## Requests -/

/-- R173: a TABLE WRITE by its table code. -/
theorem tableWriteAs_takes : Takes s (tableWriteAs h body s) := by
  have nothing {code : Nat} {rest : List Byte} :
      Takes s (.next (onRequest h code rest (none : Option Unit) (fun _ s => s) s)) := .request_view hw fun _ _ => rfl
  unfold tableWriteAs
  split
  · exact nothing
  split
  · exact .request_view hw fun _ _ => writeFace_view ..
  · exact .request_view hw fun _ _ => writeBlock_view ..
  · exact .request_view hw fun _ _ => writeSlot_view ..
  · exact .request_view hw fun _ _ => writeSettings_view ..
  · exact .request hw fun _ _ ht => writeProfile_taken ht
  · exact .request_view hw fun _ _ => writeElement_view ..
  · exact .request_view hw fun _ _ => writeRoute_view ..
  · exact .request_view hw fun _ _ => writeNode_view ..
  · exact nothing

theorem execCommission_takes : Takes s (execCommission h params s) := .request hw fun _ _ ht => commission_taken ht

theorem execAdopt_takes : Takes s (execAdopt h params s) := .request hw fun _ _ ht => adopt_taken ht

theorem execWithdraw_takes : Takes s (execWithdraw h params s) :=
  .request_endTake hw fun _ _ hi => withdraw_since hi

theorem execContextDiscard_takes : Takes s (execContextDiscard h params s) :=
  .request_endTake hw fun _ _ hi => contextDiscard_since hi

theorem execElementRead_takes : Takes s (execElementRead h params s) :=
  .request_endTake hw fun _ _ hi => hi.same (elementRead_quiet ..)

theorem execNodeReset_takes : Takes s (execNodeReset h params s) := by
  have reset : Since s (onNodeReset h params s) ∧ (s.work = [] → (onNodeReset h params s).work = []) :=
    onRequest_of (P := fun t => Since s t ∧ (s.work = [] → t.work = []))
      (fun _ ht => ⟨(Since.refl hw).view ht, (work_of_view ht).trans⟩)
      fun _ t _ ht => ⟨(nodeResetSteps_since ((Since.refl hw).view ht)).view (respond_view ..),
        fun _ => (work_of_view (respond_view ..)).trans (nodeResetSteps_work t)⟩
  exact .next (.kept (reset.1.same (arbitrate_quiet ..)) fun h0 => (arbitrate_work _).trans (reset.2 h0))

/-- R172: a MGMT-REQUEST by its request code. -/
theorem requestAs_takes : Takes s (requestAs h body s) := by
  unfold requestAs
  split
  · exact .next (onMgmt_of (P := Taken s) (fun _ ht => .of_view hw ht) (fun _ ht => .of_view hw ht)
      fun _ ht => .of_view hw ht)
  split
  · exact .request_view hw fun _ _ => rfl
  · exact tableWriteAs_takes hw
  · exact .request_view hw fun _ _ => flagsClear_view ..
  · exact execCommission_takes hw
  · exact execWithdraw_takes hw
  · exact execAdopt_takes hw
  · exact .request_view hw fun _ _ => contextRead_view ..
  · exact .request_view hw fun _ _ => contextList_view ..
  · exact execContextDiscard_takes hw
  · exact execElementRead_takes hw
  · exact .request_view hw fun _ _ => elementRevive_view ..
  · exact .request_view hw fun _ _ => rfl
  · exact .request hw fun _ _ ht => capabilitySet_taken ht
  · exact .request hw fun _ _ ht => capabilityRestore_taken ht
  · exact .request_view hw fun _ _ => capabilityFreeze_view ..
  · exact .request_view hw fun _ _ => countersRead_view ..
  · exact execNodeReset_takes hw
  · exact .request_view hw fun _ _ => rfl

theorem managementRequest_takes : Takes s (managementRequest h body s) :=
  .ite (requestAs_takes hw) (.next (onMgmt_of (P := Taken s) (fun _ ht => .of_view hw ht) (fun _ ht => .of_view hw ht)
    fun _ ht => .of_view hw ht))

theorem onReply_takes {k : FrameKind} : Takes s (.next (onReply h k body s)) :=
  .next (onMgmt_of (P := Taken s) (fun _ ht => .of_view hw ht) (fun _ ht => .of_view hw ht) fun _ ht => .of_view hw ht)

theorem execForwarding_takes {k : MgmtKind} : Takes s (execForwarding h k body s) := by
  cases k
  exacts [managementRequest_takes hw, onReply_takes hw, onReply_takes hw]

end

/-- R166: a received frame, as the command of its kind. -/
theorem frameAs_takes {p : Fin 9} {f : Frame} : Takes s (frameAs p f s) := by
  unfold frameAs
  dsimp only
  split
  · exact execHello_takes hw
  · exact .next (onSetup_taken hw)
  · exact execSetupAck_takes hw
  · exact execSetupReject_takes hw
  · exact execProbe_takes hw
  · exact execProbeAck_takes hw
  · exact execProbeNak_takes hw
  · exact execAdvance_takes hw
  · exact execReady_takes hw
  · exact execFault_takes hw
  · exact execTeardown_takes hw
  · exact managementRequest_takes hw
  · exact onReply_takes hw
  · exact onReply_takes hw

theorem execRxFrameRejected_takes {p : Fin 9} {bytes : List Byte} : Takes s (execRxFrameRejected p bytes s) := by
  unfold execRxFrameRejected
  split
  exacts [.of_view hw rfl, .of_view hw rfl, frameAs_takes hw]

/-- What every command makes of a state whose Context Table is in its canonical form. -/
theorem exec_takes (i : Instr) : Takes s (exec i s) := by
  cases i with
  | powerOnReset => exact .next powerOn_taken
  | signalPresent => exact execSignalPresent_takes hw
  | signalLost => exact execSignalLost_takes hw
  | carrierPresent => exact execCarrierPresent_takes hw
  | carrierLost => exact execCarrierLost_takes hw
  | burstReport => exact .endTake hw takeBurst_since
  | rxFrameRejected => exact execRxFrameRejected_takes hw
  | hello => exact execHello_takes hw
  | setup => exact .next (onSetup_taken hw)
  | setupAck => exact execSetupAck_takes hw
  | setupReject => exact execSetupReject_takes hw
  | probe => exact execProbe_takes hw
  | probeAck => exact execProbeAck_takes hw
  | probeNak => exact execProbeNak_takes hw
  | advance => exact execAdvance_takes hw
  | ready => exact execReady_takes hw
  | fault => exact execFault_takes hw
  | teardown => exact execTeardown_takes hw
  | forwarding => exact execForwarding_takes hw
  | responseEventDelivery => exact onReply_takes hw
  | unknownRequestCode => exact requestAs_takes hw
  | tableRead => exact .request_view hw fun _ _ => rfl
  | faceDescriptorWrite => exact .request_view hw fun _ _ => writeFace_view ..
  | blockDescriptorWrite => exact .request_view hw fun _ _ => writeBlock_view ..
  | slotEntryWrite => exact .request_view hw fun _ _ => writeSlot_view ..
  | faceSettingsWrite => exact .request_view hw fun _ _ => writeSettings_view ..
  | profileWrite => exact .request hw fun _ _ ht => writeProfile_taken ht
  | elementWrite => exact .request_view hw fun _ _ => writeElement_view ..
  | routeWrite => exact .request_view hw fun _ _ => writeRoute_view ..
  | nodeSettingsWrite => exact .request_view hw fun _ _ => writeNode_view ..
  | flagsClear => exact .request_view hw fun _ _ => flagsClear_view ..
  | commission => exact execCommission_takes hw
  | withdraw => exact execWithdraw_takes hw
  | adopt => exact execAdopt_takes hw
  | contextRead => exact .request_view hw fun _ _ => contextRead_view ..
  | contextList => exact .request_view hw fun _ _ => contextList_view ..
  | contextDiscard => exact execContextDiscard_takes hw
  | elementRead => exact execElementRead_takes hw
  | elementRevive => exact .request_view hw fun _ _ => elementRevive_view ..
  | capabilityIdentify => exact .request_view hw fun _ _ => rfl
  | capabilitySet => exact .request hw fun _ _ ht => capabilitySet_taken ht
  | capabilityRestore => exact .request hw fun _ _ ht => capabilityRestore_taken ht
  | capabilityFreeze => exact .request_view hw fun _ _ => capabilityFreeze_view ..
  | countersRead => exact .request_view hw fun _ _ => countersRead_view ..
  | nodeReset => exact execNodeReset_takes hw
  | helloTimerExpiry => exact execHelloTimerExpiry_takes hw
  | deadTimerExpiry => exact execDeadTimerExpiry_takes hw
  | deadlineExpiry => exact .endTake hw deadlineExpired_since
  | probeDwellExpiry => exact .endTake hw probeDwellExpired_since
  | probeWindowExpiry n i =>
    exact .next (.kept ((Since.refl hw).same (probeWindowExpired_quiet ..)) (probeWindowExpired_work n i s).trans)
  | stepDwellExpiry => exact .endTake hw fun hi => hi.same (stepDwellExpired_quiet ..)
  | auditTimerExpiry => exact .endTake hw fun hi => hi.same (auditExpired_quiet ..)
  | settlePeriodEnd => exact execSettlePeriodEnd_takes hw
  | turnaroundEnd => exact execTurnaroundEnd_takes hw
  | elementAnswer => exact execElementAnswer_takes hw
  | responseTimeout => exact execResponseTimeout_takes hw
  | transmissionEnd => exact execTransmissionEnd_takes hw

/-- What every step makes of such a state: the command at the front of the queue, or the passing of a millisecond. -/
theorem step_takes : Takes s (step s) := by
  unfold step
  split
  · exact .of_view hw rfl
  · rename_i i rest _
    have same : ({ s with pending := rest } : State).view = s.view := rfl
    exact fun t ht => (exec_takes (wf_of_view same hw) i t ht).after_view hw same

end

end Sys2Proof.Machine
end

section
/-! CERTIFICATE. Laws 3 and 8, and what a record keeps (O19, O20, O21), from what a step makes of the records. -/
namespace Sys2Proof.Machine

variable {s t : State}

theorem setCtx_recs_wf (hw : s.table.recs.wf) (n : Nat) (c : Option Context) : (s.setCtx n c).table.recs.wf :=
  Tab.wf_set hw n c

/-! ## Law 3 (R37) -/

/-- One record more makes one active context more at most. -/
theorem activeCount_setCtx (hw : s.table.recs.wf) (n : Nat) (c : Context) :
    activeCount (s.setCtx n (some c)) ≤ (if c.st.active = true then 1 else 0) + activeCount s := by
  have others {j : Nat} {y : Context} (hj : j ≠ n) (hy : (s.setCtx n (some c)).ctx j = some y)
      (ha : y.st.active = true) : ∃ x, s.ctx j = some x ∧ x.st.active = true := by
    rw [State.setCtx_ctx, if_neg hj] at hy
    exact ⟨y, hy, ha⟩
  have new {j : Nat} {y : Context} (hj : j = n) (hy : (s.setCtx n (some c)).ctx j = some y) : c = y := by
    rw [State.setCtx_ctx, if_pos hj] at hy
    exact Option.some.inj hy
  split_ifs with hc
  · refine activeCount_le hw (setCtx_recs_wf hw ..) [n] fun j y hy ha => ?_
    by_cases hj : j = n
    exacts [.inl (List.mem_singleton.2 hj), .inr (others hj hy ha)]
  · refine activeCount_le hw (setCtx_recs_wf hw ..) [] fun j y hy ha => .inr (others (fun hj => hc ?_) hy ha)
    rw [new hj hy]; exact ha

theorem Taken.law3 (h : Taken s t) (hl : Law3 s) : Law3 t := by
  obtain ⟨hw, hlimit, hcount⟩ := id hl
  cases h with
  | kept h =>
    exact ⟨h.wf, h.overlay ▸ hlimit, h.active hcount⟩
  | made n c hn hc hv =>
    refine law3_of_view hv ⟨setCtx_recs_wf hw .., hlimit, (activeCount_setCtx hw n c).trans ?_⟩
    split_ifs with ha
    · have := hc.room ha; omega
    · omega
  | profiled n p hp hn hv => exact law3_of_view hv hl
  | overlaid o ho hv => exact law3_of_view hv ⟨hw, ho, hcount⟩
  | reset hv => exact law3_of_view hv ⟨Tab.wf_empty, le_rfl, Nat.zero_le _⟩

/-- Settles O19: a command leaves the active contexts within the limit, since each record moves between active states or
leaves them, a new one is admitted below the concurrency limit, and a withdrawal begins below 16. -/
theorem everyStepKeepsActiveLimit : Obligations.EveryStepKeepsActiveLimit := fun _ t hl hs =>
  (step_takes hl.1 t hs).law3 hl

/-! ## Law 8 (R24) -/

theorem lpId_of_identity {c d : Context} (h : d.identity = c.identity) : d.lpId = c.lpId :=
  (congrArg Context.lpId h : d.identity.lpId = c.identity.lpId)

theorem pilot_of_identity {c d : Context} (h : d.identity = c.identity) : d.pilot = c.pilot :=
  (congrArg Context.pilot h : d.identity.pilot = c.identity.pilot)

theorem Taken.law8 (h : Taken s t) (hl : Law8 s) : Law8 t := by
  obtain ⟨hw, hap⟩ := id hl
  cases h with
  | kept h =>
    refine ⟨h.wf, fun i k c d hc hd hne => ?_⟩
    obtain ⟨x, hx, hxc⟩ := h.recs i c hc
    obtain ⟨y, hy, hyd⟩ := h.recs k d hd
    obtain ⟨hid, hpilot⟩ := hap i k x y hx hy hne
    rw [lpId_of_identity hxc.identity, lpId_of_identity hyd.identity, pilot_of_identity hxc.identity,
      pilot_of_identity hyd.identity]
    exact ⟨hid, fun hc hd => hpilot (hxc.early hc) (hyd.early hd)⟩
  | made n r hn hr hv =>
    refine law8_of_view hv ⟨setCtx_recs_wf hw .., fun i k c d hc hd hne => ?_⟩
    rw [State.setCtx_ctx] at hc hd
    split_ifs at hc hd with hi hk hk
    · exact absurd (hi.trans hk.symm) hne
    · cases hc
      exact ⟨(hr.ids k d hd).symm, fun hc hst => (hr.pilots hc k d hd hst).symm⟩
    · cases hd
      exact ⟨hr.ids i c hc, fun hst hd => hr.pilots hd i c hc hst⟩
    · exact hap i k c d hc hd hne
  | profiled n p hp hn hv => exact law8_of_view hv hl
  | overlaid o ho hv => exact law8_of_view hv hl
  | reset hv => exact law8_of_view hv ⟨Tab.wf_empty, fun _ _ _ _ hc => by cases hc⟩

/-- Settles O20: a record keeps its ID and its pilot code and does not come back to RESERVED or PROBING, and a new one is
admitted under an ID that no record holds and a pilot code that no RESERVED or PROBING one holds. -/
theorem everyStepKeepsIdentifiersApart : Obligations.EveryStepKeepsIdentifiersApart := fun _ t hl hs =>
  (step_takes hl.1 t hs).law8 hl

/-! ## What a record keeps (R26 to R28) -/

/-- RESERVED records stand at probe level 0. -/
def ReservedAtZero (s : State) : Prop := ∀ h x, s.ctx h = some x → x.st = .reserved → x.probeLevel = 0

theorem Taken.reservedAtZero (h : Taken s t) (hz : ReservedAtZero s) : ReservedAtZero t := by
  intro n y hy hst
  cases h with
  | kept h =>
    obtain ⟨x, hx, hxy⟩ := h.recs n y hy
    exact (hxy.level (hz n x hx)).1 hst
  | made k r hn hr hv =>
    rw [ctx_of_view hv, State.setCtx_ctx] at hy
    split_ifs at hy
    · cases hy; exact hr.level
    · exact hz n y hy hst
  | profiled k p hp hn hv => exact hz n y ((ctx_of_view hv n).symm.trans hy) hst
  | overlaid o ho hv => exact hz n y ((ctx_of_view hv n).symm.trans hy) hst
  | reset hv => cases (ctx_of_view hv n).symm.trans hy

/-- A record that stands at a handle before and after a command has moved on from itself: a new record is made at a
handle that was FREE. -/
theorem Taken.next (h : Taken s t) {n : Nat} {x y : Context} (hx : s.ctx n = some x) (hy : t.ctx n = some y) :
    x.Next y := by
  have same (hv : t.view = s.view) : x.Next y := by
    rw [ctx_of_view hv, hx] at hy
    cases hy
    exact .refl x
  cases h with
  | kept h =>
    obtain ⟨w, hw, hwy⟩ := h.recs n y hy
    cases hx.symm.trans hw
    exact hwy
  | made k r hn hr hv =>
    rw [ctx_of_view hv, State.setCtx_ctx] at hy
    split_ifs at hy with hk
    · cases (hk ▸ hx).symm.trans hn
    · cases hx.symm.trans hy
      exact .refl x
  | profiled k p hp hn hv =>
    cases hx.symm.trans ((ctx_of_view hv n).symm.trans hy)
    exact .refl x
  | overlaid o ho hv =>
    cases hx.symm.trans ((ctx_of_view hv n).symm.trans hy)
    exact .refl x
  | reset hv => cases (ctx_of_view hv n).symm.trans hy

/-- Settles O21: each record that stands before and after a command has moved on from itself, and a record leaves
RESERVED, where it stands at level 0, when it first takes a level. -/
theorem recordIdentityFixed : Obligations.RecordIdentityFixed := by
  intro c s t hw hz hs
  have h := exec_takes hw c t hs
  refine ⟨h.reservedAtZero hz, fun n x y hx hy _ => ?_⟩
  have hxy := h.next hx hy
  refine ⟨?_, (hxy.level (hz n x hx)).2⟩
  have hid := hxy.identity
  simp only [Context.identity, Context.facts, Context.mk.injEq, and_true, true_and] at hid
  obtain ⟨-, e1, e2, e3, e4, e5, e6, e7, e8, e9, e10, e11, e12, e13, e14, e15, e16⟩ := hid
  rw [← e1, ← e2, ← e3, ← e4, ← e5, ← e6, ← e7, ← e8, ← e9, ← e10, ← e11, ← e12, ← e13, ← e14, ← e15, ← e16]

end Sys2Proof.Machine
end

section
/-! CERTIFICATE. Laws 5 and 6 (O34): the step of a ramp in numbers, and the laws from what a step makes of the records. -/
namespace Sys2Proof.Machine

variable {s t : State}

/-! ## The step of a ramp (R103, R106) -/

theorem stepLimit_bounds (sMax ceiling live transient : Nat) :
    stepLimit sMax ceiling live transient ≤ sMax ∧ stepLimit sMax ceiling live transient ≤ ceiling ∧
      (0 < live → stepLimit sMax ceiling live transient ≤ transient) := by
  unfold stepLimit
  split_ifs <;> omega

theorem stepLimit_pos {sMax ceiling live transient : Nat} (h1 : 1 ≤ sMax) (h2 : 1 ≤ ceiling) (h3 : 1 ≤ transient) :
    1 ≤ stepLimit sMax ceiling live transient := by
  unfold stepLimit
  split_ifs <;> omega

/-- R106: a change is at least 1, since error and gain are, and at most the step limit. -/
theorem stepChange_bounds {err : Int} {gain limit : Nat} (he : err ≠ 0) (hg : 1 ≤ gain) (hl : 1 ≤ limit) :
    1 ≤ stepChange err gain limit ∧ stepChange err gain limit ≤ limit := by
  have hpos : 1 ≤ err.natAbs * gain := Nat.mul_pos (Int.natAbs_pos.2 he) hg
  unfold stepChange
  omega

theorem stepAtten_towards {err : Int} {att delta : Nat} (hd : 1 ≤ delta) (ha : att ≤ 2500)
    (h0 : ¬(0 < err ∧ att = 0)) (h25 : ¬(err < 0 ∧ att = 2500)) :
    stepAtten err att delta ≤ 2500 ∧ (0 < err → stepAtten err att delta < att ∧ att ≤ stepAtten err att delta + delta) ∧
      (err < 0 → att < stepAtten err att delta ∧ stepAtten err att delta ≤ att + delta) := by
  unfold stepAtten
  split_ifs <;> omega

/-! ## Soundness under every command -/

theorem profile_initial_inRange : Profile.initial.InRange := by
  simp [Profile.InRange, Profile.initial]

theorem sound_setCtx (hs : Sound s) {c : Context} (hc : ∀ p : Profile, p.InRange → c.Fit p) (n : Nat) :
    Sound (s.setCtx n (some c)) := by
  obtain ⟨hr, ha, hf⟩ := hs
  refine ⟨hr, ha, fun j y hy => ?_⟩
  rw [State.setCtx_ctx] at hy
  split_ifs at hy
  · cases hy; exact hc _ (hr _)
  · exact hf j y hy

/-- R91: no active context holds the number of a profile that is written. -/
theorem inService_of_not_profileInUse (hw : s.table.recs.wf) {n h : Nat} (hn : profileInUse s n = false) {c : Context}
    (hc : s.ctx h = some c) (hp : c.profile = n) : c.st = .inService := by
  rw [profileInUse, List.any_eq_false] at hn
  have hidle : c.st.active = false := by simpa [hp] using hn (h, some c) ((Tab.mem_cells hw h _).2 ⟨hc, by simp⟩)
  revert hidle
  cases c.st <;> simp [CtxState.active]

/-- What is asked of an IN_SERVICE record does not depend on its profile. -/
theorem Context.Fit.of_inService {p q : Profile} {c : Context} (hf : c.Fit p) (hst : c.st = .inService) : c.Fit q := by
  obtain ⟨h5, -, hrun, hlevel, hearly, -⟩ := hf
  exact ⟨h5, fun hn => absurd hst hn, hrun, hlevel, hearly, fun hr => by rw [hst] at hr; cases hr⟩

theorem sound_setProfile (hw : s.table.recs.wf) (hs : Sound s) {n : Nat} {p : Profile} (hp : p.InRange)
    (hn : profileInUse s n = false) : Sound (s.setProfile n p) := by
  obtain ⟨hr, ha, hf⟩ := hs
  refine ⟨fun k => ?_, ha, fun j y hy => ?_⟩
  · rw [State.setProfile_profile]
    split_ifs
    exacts [hp, hr k]
  · rw [State.setProfile_profile]
    split_ifs with hk
    · exact (hf j y hy).of_inService (inService_of_not_profileInUse hw hn hy hk)
    · exact hf j y hy

theorem sound_reset : Sound State.reset := by
  refine ⟨fun _ => profile_initial_inRange, ⟨fun r hr => absurd hr List.not_mem_nil, fun o ho => ?_,
    fun w hw => absurd hw List.not_mem_nil⟩, fun h c hc => ?_⟩
  · exact absurd ho (Option.some_ne_none o).symm
  · exact absurd hc (Option.some_ne_none c).symm

theorem Taken.progressLaws (h : Taken s t) (hl : ProgressLaws s) : ProgressLaws t := by
  rw [progressLaws_iff] at hl ⊢
  obtain ⟨hwork, hw, hs⟩ := hl
  cases h with
  | kept h hk => exact ⟨hk hwork, h.wf, h.sound hs⟩
  | made n c hn hc hv =>
    exact ⟨(work_of_view hv).trans hwork, wf_of_view hv (setCtx_recs_wf hw ..),
      sound_of_view hv (sound_setCtx hs hc.fit n)⟩
  | profiled n p hp hn hv =>
    exact ⟨(work_of_view hv).trans hwork, wf_of_view hv hw, sound_of_view hv (sound_setProfile hw hs hp hn)⟩
  | overlaid o ho hv => exact ⟨(work_of_view hv).trans hwork, wf_of_view hv hw, sound_of_view (s := setOverlay o s) hv hs⟩
  | reset hv => exact ⟨work_of_view hv, wf_of_view hv Tab.wf_empty, sound_of_view hv sound_reset⟩

/-- Settles O34: a change is between 1 and the step limit and goes towards the target; and a take keeps the ranges, since
RAMPING leaves room for one more reading, a judged reading either leaves that room or ends the ramp, and every setting
asked of the bus or recorded from it is in range. -/
theorem rampStepBoundedTowardsTarget : Obligations.RampStepBoundedTowardsTarget := by
  refine ⟨fun err att gain sMax ceiling live transient he hg h1 h2 h3 ha h0 h25 => ?_, fun s t hl hs => ?_⟩
  · intro limit new
    obtain ⟨hmax, hceil, htrans⟩ := stepLimit_bounds sMax ceiling live transient
    have hchange := stepChange_bounds (err := err) he hg (stepLimit_pos (live := live) h1 h2 h3)
    obtain ⟨hle, hdown, hup⟩ := stepAtten_towards hchange.1 ha h0 h25
    refine ⟨hle, hmax, hceil, htrans, fun hp => ⟨(hdown hp).1, (hdown hp).2.trans ?_⟩,
      fun hn => ⟨(hup hn).1, (hup hn).2.trans ?_⟩⟩
    exacts [Nat.add_le_add_left hchange.2 _, Nat.add_le_add_left hchange.2 _]
  · exact (step_takes ((progressLaws_iff s).1 hl).2.1 t hs).progressLaws hl

end Sys2Proof.Machine
end

section
/-! CERTIFICATE. The expiry of a deadline (O38). -/
namespace Sys2Proof.Machine

/-- R36: a timer that is due. -/
theorem due_iff (t : Option Nat) (now : Nat) : due t now = true ↔ ∃ u, t = some u ∧ u ≤ now := by
  cases t <;> simp [due]

/-- R36, R119: the fault that the expiry of a deadline is, by the state of its record. -/
def CtxState.expiryFault : CtxState → Option Cause
  | .reserved | .probing => some .setupTimeout
  | .armed => some .armTimeout
  | .settled => some .readyTimeout
  | _ => none

theorem faultable_of_expiryFault {st : CtxState} {cause : Cause} (h : st.expiryFault = some cause) :
    st.faultable = true := by
  cases st <;> simp_all [CtxState.expiryFault, CtxState.faultable]

section
variable {s : State} {n : Nat} {c : Context} (hc : s.ctx n = some c)
include hc

theorem deadlineExpired_faults (hd : due c.deadline s.now = true) {cause : Cause}
    (hst : c.st.expiryFault = some cause) :
    deadlineExpired n c.inst s = countLocalFault (enterFaulted n c cause s.switch.nodeId .here true true s) := by
  have fault : localFault n c cause s = countLocalFault (enterFaulted n c cause s.switch.nodeId .here true true s) :=
    if_pos (faultable_of_expiryFault hst)
  simp only [deadlineExpired, current_of_inst hc, hd, if_true]
  rw [← fault]
  revert hst
  cases c.st <;> simp [CtxState.expiryFault] <;> rintro rfl <;> rfl

theorem deadlineExpired_frees (hd : due c.deadline s.now = true) (hst : c.st = .faulted) :
    deadlineExpired n c.inst s = freeRecord n c s := by
  simp only [deadlineExpired, current_of_inst hc, hd, hst, if_true]

/-- R22, R36: an expiry that is not due, or of another instance, does nothing. -/
theorem deadlineExpired_of_not_due {inst : Nat} (hd : ¬(c.inst = inst ∧ due c.deadline s.now = true)) :
    deadlineExpired n inst s = s := by
  by_cases hi : inst = c.inst
  · subst hi
    simp [deadlineExpired, current_of_inst hc, show due c.deadline s.now = false by simpa using hd]
  · simp [deadlineExpired, current_of_other hc hi]

end

/-- R25: at rest, the freeing of a record that is not counted and holds no ramp place ends its take. -/
theorem endTake_freeRecord {n : Nat} {c : Context} {s : State} (hr : AtRest s) (hoff : OffRamp n c s) :
    endTake (freeRecord n c s) =
      (liveChange c.egress c.count c.st.counted false (freeSpan n c.ingress c.egress c.first c.count s)).setCtx n none := by
  have hd : DirOnly s (liveChange c.egress c.count c.st.counted false
      (freeSpan n c.ingress c.egress c.first c.count s)) :=
    (freeSpan_dirOnly ..).trans (liveChange_dirOnly ..)
  rw [freeRecord_of_offRamp hoff]
  exact endTake_of_eq hr hd.work (by rw [hd]; rfl) hd.bus

/-- Settles O38, by the states of the record whose deadline it is. -/
theorem deadlineExpiryByState : Obligations.DeadlineExpiryByState := by
  intro i inst c s hr hc isDue fault
  have hdue : isDue ↔ c.inst = inst ∧ due c.deadline s.now = true := by rw [due_iff]
  have faults (h : isDue) {cause : Cause} (hst : c.st.expiryFault = some cause) :
      exec (.deadlineExpiry i inst) s = .next (fault cause) := by
    obtain ⟨rfl, hd⟩ := hdue.1 h
    exact congrArg (fun t => Host.Outcome.next (endTake t)) (deadlineExpired_faults hc hd hst)
  refine ⟨fun h hst => faults h ?_, fun h hst => faults h (by rw [hst]; rfl), fun h hst => faults h (by rw [hst]; rfl),
    fun h hst hoff => ?_, fun h => ?_⟩
  · rcases hst with hst | hst <;> rw [hst] <;> rfl
  · obtain ⟨rfl, hd⟩ := hdue.1 h
    have freed := endTake_freeRecord hr hoff
    rw [hst] at freed
    exact congrArg Host.Outcome.next ((congrArg endTake (deadlineExpired_frees hc hd hst)).trans freed)
  · exact congrArg Host.Outcome.next
      ((congrArg endTake (deadlineExpired_of_not_due hc (hdue.not.1 h))).trans (endTake_of_atRest hr))

end Sys2Proof.Machine
end

section
/-! CERTIFICATE. ADOPT (O54). -/
namespace Sys2Proof.Machine

/-! ## The checks (R41) -/

theorem adoptInRange_iff (b : AdoptBody) :
    adoptInRange b = true ↔ -300 ≤ b.trim ∧ b.trim ≤ 300 ∧ (b.atten = 65535 ∨ b.atten ≤ 2500) := by
  simp [adoptInRange, trimInRange, and_assoc]

theorem adoptPath_iff (s : State) (b : AdoptBody) :
    adoptPath s b = true ↔ (b.role = .head →
      2 ≤ b.hopCount ∧ b.hopCount ≤ 32 ∧ b.hops.length = b.hopCount ∧
        b.hops[0]? = some ⟨s.switch.nodeId, b.ingress, b.egress⟩ ∧ (b.hops.map (·.node)).Nodup) := by
  unfold adoptPath
  cases b.role with
  | transit | tail => simp
  | head =>
    cases b.hops with
    | nil => simp
    | cons e l =>
      obtain ⟨node, ing, eg⟩ := e
      simp [nodesDistinct, and_assoc]

theorem adoptHop_iff (b : AdoptBody) : adoptHop b = true ↔
    (match b.role with
      | .head => 8 ≤ b.ingress ∧ b.ingress ≤ 11 ∧ b.egress ≤ 7 ∧ b.hopIndex = 0
      | .transit => b.ingress ≤ 7 ∧ b.egress ≤ 7 ∧ b.ingress ≠ b.egress ∧ 1 ≤ b.hopIndex ∧ b.hopIndex + 2 ≤ b.hopCount
      | .tail => b.ingress ≤ 7 ∧ 8 ≤ b.egress ∧ b.egress ≤ 11 ∧ b.hopIndex + 1 = b.hopCount) ∧
      1 ≤ b.count ∧ b.count ≤ 16 ∧ b.first ≤ 383 ∧ b.first + b.count ≤ 384 ∧ 2 ≤ b.hopCount ∧ b.hopCount ≤ 32 := by
  simp only [adoptHop, Bool.and_eq_true, decide_eq_true_eq, spanValid_iff]
  cases b.role <;> simp [facesFit, indexFits] <;> tauto

theorem lowestFree_none {s : State} (h : ∀ n, n < 256 → (s.ctx n).isSome = true) : lowestFree s = none := by
  rw [lowestFree, List.find?_eq_none]
  intro n hn
  simp [Option.isNone_iff_eq_none, Option.isSome_iff_ne_none.1 (h n (List.mem_range.1 hn))]

/-! ## The answer (R42) -/

section
variable {s : State} {b : AdoptBody} (h : Hdr)

theorem adopt_of_failure {st : Status} (hf : adoptFailure s b = some st) : adopt h b s = respond h reqAdopt st [] s := by
  simp only [adopt, hf]

/-- R7: a span that does not pass. -/
theorem adopt_of_reason (hf : adoptFailure s b = none) {r : Reason}
    (hr : judgeWalks b.cls ((admitWalks s b.ingress b.egress b.first b.count).map (·.1)) = some r) :
    adopt h b s = respond h reqAdopt (.refusedFor r) []
      (setMarks (allMarks (admitWalks s b.ingress b.egress b.first b.count)) s) := by
  simp only [adopt, hf, judgeSpan, hr]

theorem adopt_of_passed (hf : adoptFailure s b = none) (h0 : b.id ≠ 0) {n : Nat} (hn : lowestFree s = some n)
    (hr : judgeWalks b.cls ((admitWalks s b.ingress b.egress b.first b.count).map (·.1)) = none) :
    adopt h b s = respond h reqAdopt .ok (e8 n)
      (adoptAt n b (setMarks (allMarks (admitWalks s b.ingress b.egress b.first b.count)) s)) := by
  simp only [adopt, hf, judgeSpan, hr, hn, h0, if_false]

end

/-- R29, R42: the record of an ADOPT, whose faces fit its role. -/
theorem adoptedContext_eq {b : AdoptBody} (hb : adoptHop b = true) (s : State) : adoptedContext s b =
    { inst := s.table.nextInst, lpId := b.id, role := b.role, ingress := b.ingress, egress := b.egress,
      upPort := if b.role = .head then none else some b.ingress,
      downPort := if b.role = .tail then none else some b.egress, first := b.first, count := b.count,
      cls := b.cls, profile := b.profile, trim := b.trim, pilot := 0, hopIndex := b.hopIndex,
      hopCount := b.hopCount, st := .inService,
      target := clampInt (-4000) 1500 ((s.faceSet b.egress).density + Config.density b.count + b.trim),
      atten := if b.atten = 65535 then .blocked else .db b.atten, lastReading := none, readingsUsed := 0,
      settledRun := 0, probeLevel := 0, adopted := true, guardHeld := false, pilotValidated := false,
      setupAcked := true, deadline := none, hopList := if b.role = .head then some b.hops else none,
      hopReports := none, watch := none, faultRec := none, drift := none, probeTimer := none,
      work := ⟨none, false, none, false, false, false⟩, carried := none, rampHeld := false, rampDwell := none } := by
  have hports : portOfFace b.ingress = (if b.role = .head then none else some b.ingress) ∧
      portOfFace b.egress = if b.role = .tail then none else some b.egress := by
    rw [adoptHop_iff] at hb
    obtain ⟨hfaces, -⟩ := hb
    revert hfaces
    cases b.role with
    | head => exact fun ⟨h1, _, h3, _⟩ => ⟨if_neg (by omega), if_pos h3⟩
    | transit => exact fun ⟨h1, h2, _⟩ => ⟨if_pos h1, if_pos h2⟩
    | tail => exact fun ⟨h1, h2, _⟩ => ⟨if_pos h1, if_neg (by omega)⟩
  rw [adoptedContext, hports.1, hports.2]
  rfl

/-- Settles O54: the checks in order, as the function that finds the first failing one judges them. -/
theorem adoptJudged : Obligations.AdoptJudged := by
  intro h params b s hf hp h0 inRange path faces hop walks spectrum marked refused
  have taken : exec (.adopt h params) s = .next (adopt h b (countRx h.port s)) := by
    change Host.Outcome.next (onRequest h reqAdopt params (AdoptBody.parse params) (adopt h) s) = _
    rw [hp, onRequest_forNode hf]
  have hrange : adoptInRange b = true ↔ inRange := adoptInRange_iff b
  have hpath : adoptPath (countRx h.port s) b = true ↔ path := adoptPath_iff (countRx h.port s) b
  have hhop : adoptHop b = true ↔ hop := adoptHop_iff b
  have refuse {st : Status} (hst : adoptFailure (countRx h.port s) b = some st) : refused st :=
    taken.trans (congrArg Host.Outcome.next (adopt_of_failure h hst))
  have hfind : findLp (countRx h.port s) b.id = findLp s b.id := rfl
  have hlow : lowestFree (countRx h.port s) = lowestFree s := rfl
  refine ⟨fun h1 => refuse ?_, fun h1 h2 => refuse ?_, fun h1 h2 h3 => refuse ?_, fun h1 h2 h3 h4 => refuse ?_,
    fun h1 h2 h3 h4 h5 => refuse ?_, fun n h1 h2 h3 h4 hn h5 hm => ?_⟩
  · simp [adoptFailure, mt hrange.1 h1]
  · simp [adoptFailure, hrange.2 h1, mt hpath.1 h2]
  · simp [adoptFailure, hrange.2 h1, hpath.2 h2, mt hhop.1 h3]
  · simp [adoptFailure, hrange.2 h1, hpath.2 h2, hhop.2 h3, hfind, h4]
  · simp [adoptFailure, hrange.2 h1, hpath.2 h2, hhop.2 h3, hfind, h4, hlow, lowestFree_none h5]
  have hfree := lowestFree_eq hn h5 hm
  refine ⟨fun h6 => refuse ?_, fun r h6 hr => ?_, fun h6 hr => ?_⟩
  · simp [adoptFailure, hrange.2 h1, hpath.2 h2, hhop.2 h3, hfind, h4, hlow, hfree, h6]
  all_goals
    have passed : adoptFailure (countRx h.port s) b = none := by
      simp [adoptFailure, hrange.2 h1, hpath.2 h2, hhop.2 h3, hfind, h4, hlow, hfree, h6]
  · exact taken.trans (congrArg Host.Outcome.next (adopt_of_reason h passed hr))
  · intro record
    have hrec : adoptedContext marked b = record := by
      have same : adoptedContext marked b = adoptedContext s b := by
        rw [show marked = _ from setMarks_dirOnly (allMarks walks) (countRx h.port s)]; rfl
      exact same.trans (adoptedContext_eq (hhop.2 h3) s)
    refine taken.trans (congrArg Host.Outcome.next ((adopt_of_passed h passed h0 (hlow.trans hfree) hr).trans ?_))
    rw [← hrec]
    rfl

end Sys2Proof.Machine
end

section
/-! CERTIFICATE. CONTEXT READ, CONTEXT LIST and CONTEXT DISCARD (O55). -/
namespace Sys2Proof.Machine

/-! ## The bytes of a context record (section 11.4) -/

/-- The value of flag bit `n`. -/
def bitValue (b : Bool) (n : Nat) : Nat := if b = true then n else 0

theorem partBytes_eq_elim {α : Type} (x : Option α) (f : α → List Byte) : partBytes x f = x.elim [] f := by
  cases x <;> rfl

theorem optTime_eq_elim (x : Option Nat) : optTime x = x.elim 4294967295 fun u => u % 4294967296 := by
  cases x <;> rfl

theorem flagByte_cons (b : Bool) (l : List Bool) : flagByte (b :: l) = bitValue b 1 + 2 * flagByte l := rfl

theorem two_mul_bitValue (b : Bool) (n : Nat) : 2 * bitValue b n = bitValue b (2 * n) := by
  cases b <;> rfl

theorem flagByte_four (a b c d : Bool) :
    flagByte [a, b, c, d] = bitValue a 1 + bitValue b 2 + bitValue c 4 + bitValue d 8 := by
  simp [flagByte_cons, two_mul_bitValue, mul_add, add_assoc, show flagByte [] = 0 from rfl]

theorem flagByte_five (a b c d e : Bool) :
    flagByte [a, b, c, d, e] = bitValue a 1 + bitValue b 2 + bitValue c 4 + bitValue d 8 + bitValue e 16 := by
  simp [flagByte_cons, two_mul_bitValue, mul_add, add_assoc, show flagByte [] = 0 from rfl]

/-- The bytes sent for the time of a burst (R184). -/
def burstTime (run : Nat) (t : Option Nat) : Nat :=
  if run = 0 then 4294967295 else t.elim 4294967295 fun u => u % 4294967296

theorem optTime_of_run (run : Nat) (t : Option Nat) :
    optTime (if run = 0 then none else t) = burstTime run t := by
  rw [optTime_eq_elim, burstTime]
  split <;> rfl

theorem Watch.encode_eq : Watch.encode = fun w =>
    e8 w.run ++ e32 (burstTime w.run w.lastRun) ++ e8 w.misrun ++ e32 (burstTime w.misrun w.lastMis) ++
      e8 (if w.misrun = 0 then 255 else w.misFace.getD 255) := by
  funext w
  rw [Watch.encode, optTime_of_run, optTime_of_run, optByte_eq_getD]
  split <;> rfl

theorem Context.encodeParts_eq (c : Context) : c.encodeParts =
    c.hopList.elim [] encodeHops ++ c.hopReports.elim [] (fun l => e8 l.length ++ encodeReports l) ++
      c.watch.elim [] Watch.encode ++ c.faultRec.elim [] FaultRec.encode ++ c.drift.elim [] DriftRec.encode := by
  simp only [Context.encodeParts, partBytes_eq_elim]

/-! ## The listing (R39) -/

theorem mem_recordsFrom {s : State} (hw : s.table.recs.wf) {start n : Nat} {c : Context} :
    (n, c) ∈ recordsFrom s start ↔ start ≤ n ∧ s.ctx n = some c := by
  have cell : (n, some c) ∈ s.table.recs.cells ↔ s.ctx n = some c := by
    rw [Tab.mem_cells hw]
    exact and_iff_left (by simp)
  rw [← cell, recordsFrom, List.mem_filterMap]
  constructor
  · rintro ⟨⟨m, d⟩, hm, h⟩
    split at h
    · next hle =>
      obtain ⟨d, rfl, heq⟩ := Option.map_eq_some_iff.1 h
      cases heq
      exact ⟨hle, hm⟩
    · cases h
  · rintro ⟨hle, hm⟩
    exact ⟨_, hm, by simp [hle]⟩

theorem recordsFrom_pairwise {s : State} (hw : s.table.recs.wf) (start : Nat) :
    (recordsFrom s start).Pairwise fun a b => a.1 < b.1 := by
  have handle {x : Nat × Option Context} {y : Nat × Context}
      (h : (if start ≤ x.1 then x.2.map fun c => (x.1, c) else none) = some y) : y.1 = x.1 := by
    split at h
    · obtain ⟨c, -, rfl⟩ := Option.map_eq_some_iff.1 h
      rfl
    · cases h
  refine List.pairwise_filterMap.2 (hw.1.imp fun {a b} hlt x hx y hy => ?_)
  rw [handle hx, handle hy]
  exact hlt

theorem listResult_eq (l : List (Nat × Context)) : listResult l =
    e8 (min l.length 32) ++ (match l[32]? with | some x => e16 x.1 | none => e16 65535) ++
      (l.take 32).flatMap listEntry := by
  rw [listResult, List.length_take, Nat.min_comm]
  cases l[32]? <;> rfl

/-- A list in strictly increasing handle order is known by its members. -/
theorem eq_of_handles_lt {α : Type} {l m : List (Nat × α)} (hl : l.Pairwise fun a b => a.1 < b.1)
    (hm : m.Pairwise fun a b => a.1 < b.1) (h : ∀ x, x ∈ l ↔ x ∈ m) : l = m := by
  have nodup {k : List (Nat × α)} (hk : k.Pairwise fun a b => a.1 < b.1) : k.Nodup :=
    hk.imp fun hlt he => absurd (congrArg Prod.fst he) hlt.ne
  exact ((List.perm_ext_iff_of_nodup (nodup hl) (nodup hm)).2 h).eq_of_pairwise
    (fun _ _ _ _ hab hba => absurd hab hba.asymm) hl hm

/-! ## The answers -/

section
variable {s : State} (h : Hdr) {id : Nat}

theorem contextDiscard_none (hl : findLp s id = none) :
    contextDiscard h id s = respond h reqContextDiscard .notFound [] s := by
  simp only [contextDiscard, hl]

theorem contextDiscard_refused {n : Nat} {c : Context} (hl : findLp s id = some (n, c)) (h1 : c.st ≠ .faulted)
    (h2 : c.st ≠ .inService) : contextDiscard h id s = respond h reqContextDiscard .notAllowed [] s := by
  simp only [contextDiscard, hl]

theorem contextDiscard_freed {n : Nat} {c : Context} (hl : findLp s id = some (n, c))
    (hst : c.st = .faulted ∨ c.st = .inService) (hoff : OffRamp n c s) :
    contextDiscard h id s = respond h reqContextDiscard .ok []
      ((liveChange c.egress c.count c.st.counted false (freeSpan n c.ingress c.egress c.first c.count s)).setCtx n none) := by
  rw [← freeRecord_of_offRamp hoff]
  rcases hst with hst | hst <;> simp only [contextDiscard, hl, hst]

end

/-! ## The requests -/

theorem whole_of_nil {α : Type} {x : Option (α × List Byte)} {a : α} (hx : x = some (a, [])) : whole x = some a := by
  rw [hx]; rfl

section
variable {h : Hdr} {params : List Byte} {s : State} (hf : ForNode h s)
include hf

theorem exec_contextRead {id : Nat} (hp : parseId params = some id) :
    exec (.contextRead h params) s = .next (contextRead h id (countRx h.port s)) := by
  change Host.Outcome.next (onRequest h reqContextRead params (parseId params) (contextRead h) s) = _
  rw [hp, onRequest_forNode hf]

theorem exec_contextList {start : Nat} (hp : d16 params = some (start, [])) :
    exec (.contextList h params) s = .next (contextList h start (countRx h.port s)) := by
  change Host.Outcome.next (onRequest h reqContextList params (whole (d16 params)) (contextList h) s) = _
  rw [whole_of_nil hp, onRequest_forNode hf]

theorem exec_contextDiscard {id : Nat} (hp : parseId params = some id) :
    exec (.contextDiscard h params) s = .next (endTake (contextDiscard h id (countRx h.port s))) := by
  change Host.Outcome.next (endTake (onRequest h reqContextDiscard params (parseId params) (contextDiscard h) s)) = _
  rw [hp, onRequest_forNode hf]

/-- A discard that asks nothing and leaves no work ends its take at once. -/
theorem exec_contextDiscard_of_eq {id : Nat} (hp : parseId params = some id) (hr : AtRest s) {t : State}
    (ht : contextDiscard h id (countRx h.port s) = t) (hw : t.work = s.work) (htold : t.told = s.told)
    (hb : t.bus = s.bus) : exec (.contextDiscard h params) s = .next t := by
  rw [exec_contextDiscard hf hp, ht, endTake_of_eq hr hw htold hb]

theorem exec_contextDiscard_freed {id n : Nat} {c : Context} (hp : parseId params = some id) (hr : AtRest s)
    (hl : findLp s id = some (n, c)) (hst : c.st = .faulted ∨ c.st = .inService) (hoff : OffRamp n c s) :
    exec (.contextDiscard h params) s = .next (respond h reqContextDiscard .ok []
      ((liveChange c.egress c.count c.st.counted false
        (freeSpan n c.ingress c.egress c.first c.count (countRx h.port s))).setCtx n none)) := by
  have hd := (freeSpan_dirOnly n c.ingress c.egress c.first c.count (countRx h.port s)).trans
    (liveChange_dirOnly c.egress c.count c.st.counted false _)
  refine exec_contextDiscard_of_eq hf hp hr (contextDiscard_freed h hl hst hoff) hd.work ?_ hd.bus
  rw [hd]
  rfl

end

/-- Settles O55: the record and the listing are the model's, the discard is the freeing of a record off the ramp. -/
theorem contextRequestsAnswered : Obligations.ContextRequestsAnswered := by
  intro h params s hf bit role cls direction state cause atten remaining burst record
  have hrole : role = Role.code := funext fun x => by cases x <;> rfl
  have hcls : cls = OriginClass.code := funext fun x => by cases x <;> rfl
  have hdirection : direction = Direction.code := funext fun x => by cases x <;> rfl
  have hstate : state = CtxState.code := funext fun x => by cases x <;> rfl
  have hcause : cause = Cause.code := funext fun x => by cases x <;> rfl
  have hatten : atten = Atten.code := funext fun x => by cases x <;> rfl
  have hremaining (t : Option Nat) : remaining t = remainingMs t s.now := by cases t <;> rfl
  have hbit : bit = bitValue := rfl
  have hburst : burst = burstTime := rfl
  have hrecord (n : Nat) (c : Context) : c.encode n s.now = record n c := by
    simp only [record, hrole, hcls, hdirection, hstate, hcause, hatten, hremaining, hbit, hburst,
      Context.encode, Context.encodeFields, Context.encodeParts_eq, optByte_eq_getD, flagByte_four, flagByte_five,
      Watch.encode_eq, ← List.append_assoc]
    rfl
  refine ⟨fun id hp => ?_, fun start hp => ?_⟩
  · refine ⟨fun hl =>
      ⟨?_, fun hr => exec_contextDiscard_of_eq hf hp hr (contextDiscard_none h hl) rfl rfl rfl⟩, fun n c hl =>
      ⟨?_, fun hr h1 h2 => exec_contextDiscard_of_eq hf hp hr (contextDiscard_refused h hl h1 h2) rfl rfl rfl,
        fun hr hoff hst => ?_, fun hr hoff hst => ?_⟩⟩
    · rw [exec_contextRead hf hp, contextRead, show findLp (countRx h.port s) id = none from hl]
      rfl
    · rw [exec_contextRead hf hp, contextRead, show findLp (countRx h.port s) id = some (n, c) from hl, ← hrecord]
      rfl
    · have freed := exec_contextDiscard_freed hf hp hr hl (.inl hst) hoff
      rwa [hst] at freed
    · have freed := exec_contextDiscard_freed hf hp hr hl (.inr hst) hoff
      rwa [hst] at freed
  · have listed := exec_contextList hf hp
    refine ⟨fun hgt => ?_, fun l hle hw hsorted hmem => ?_⟩
    · rw [listed, contextList, if_pos hgt]
      rfl
    · have hl : recordsFrom (countRx h.port s) start = l :=
        eq_of_handles_lt (recordsFrom_pairwise hw start) hsorted fun _ => (mem_recordsFrom hw).trans (hmem _ _).symm
      rw [listed, contextList, if_neg hle.not_gt, hl, listResult_eq, hstate]
      rfl

end Sys2Proof.Machine
end

section
/-! CERTIFICATE. The screening of commissioning frames (O13). -/
namespace Sys2Proof.Machine

/-- Every commissioning command is judged by port state, body and destination before its own rule (R45, R50, R67,
R113), and ends its take as a state at rest stands. -/
theorem exec_linkFrame {c : Instr} {h : Hdr} {passes : Bool} (hc : linkFrame c = some (h, passes)) :
    ∃ (α : Type) (x : Option α) (k : α → State → State) (finish : State → State), x.isSome = passes ∧
      (∀ t, AtRest t → finish t = t) ∧
      ∀ s, exec c s = .next (finish (receive h.port false (commissioning h x k) s)) := by
  cases c <;> simp only [linkFrame, reduceCtorEq, Option.some.injEq, Prod.mk.injEq] at hc
  all_goals obtain ⟨rfl, hp⟩ := hc
  case setup h body => exact ⟨_, parseSetup body, takeSetup h, id, hp, fun _ _ => rfl, fun _ => rfl⟩
  all_goals exact ⟨_, _, _, endTake, hp, fun _ => endTake_of_atRest, fun _ => rfl⟩

section
variable {h : Hdr} {s : State} {α : Type}

/-- R186: a body that does not pass. -/
theorem receive_unparsed (hup : (s.port h.port).link = .up) (k : α → State → State) :
    receive h.port false (commissioning h none k) s = malformed h.port (countRx h.port s) := by
  rw [receive_up hup, commissioning]

/-- R45: a frame over the local port, or not addressed ADJACENT. -/
theorem receive_elsewhere (hup : (s.port h.port).link = .up) (hd : h.port.val = 8 ∨ h.dst.toNat ≠ 65535) (x : α)
    (k : α → State → State) :
    receive h.port false (commissioning h (some x) k) s = stray (countRx h.port s) := by
  rw [receive_up hup]
  exact if_pos hd

/-- A frame on an UP link with a body that passes is taken by its rule, and at rest a take that asks and tells nothing
ends where its rule leaves it. -/
theorem take_onLink (hr : AtRest s) (hl : OnLink h s) {parsed : Option α} {x : α} (hp : parsed = some x)
    {k : α → State → State} {t : State} (ht : k x (countRx h.port s) = t) (hw : t.work = s.work)
    (htold : t.told = s.told) (hb : t.bus = s.bus) :
    (.next (endTake (receive h.port false (commissioning h parsed k) s)) : Host.Outcome State Fault Refusal) =
      .next t := by
  rw [hp, receive_commissioning hl, ht, endTake_of_eq hr hw htold hb]

end

/-- Settles O13: the three ways a frame fails the screening, then the lightpath IDs that find no record, by kind. -/
theorem commissioningFramesScreened : Obligations.CommissioningFramesScreened := by
  refine ⟨fun c h passes s hr hc => ?_, fun h body id s hr hl hfind => ?_⟩
  · obtain ⟨α, x, k, finish, rfl, hfinish, hexec⟩ := exec_linkFrame hc
    have screened {t : State} (ht : receive h.port false (commissioning h x k) s = t) (hw : t.work = s.work)
        (htold : t.told = s.told) (hb : t.bus = s.bus) : exec c s = .next t := by
      rw [hexec, ht, hfinish t (hr.of_eq hw htold hb)]
    refine ⟨fun hup => screened (receive_notUp hup _) rfl rfl rfl, fun hup hx => ?_, fun hup hx hd => ?_⟩
    · obtain rfl : x = none := by simpa using hx
      exact screened (receive_unparsed hup k) rfl rfl rfl
    · obtain ⟨y, rfl⟩ := Option.isSome_iff_exists.1 hx
      exact screened (receive_elsewhere hup hd y k) rfl rfl rfl
  · have unfound : findLp (countRx h.port s) id = none := hfind
    refine ⟨fun hp => ?_, fun r node hp => ?_, fun k hp => ?_, fun k v hp => ?_, fun k node hp => ?_,
      fun l hp => ⟨?_, ?_⟩, fun cause origin travel hp => ?_⟩
    · exact take_onLink hr hl hp (k := takeSetupAck h body) (by simp only [takeSetupAck, unfound]) rfl rfl rfl
    · exact take_onLink hr hl hp (k := takeSetupReject h body) (by simp only [takeSetupReject, unfound]) rfl rfl rfl
    · exact take_onLink hr hl hp (k := takeProbeFrame h body) (by simp only [takeProbeFrame, unfound]) rfl rfl rfl
    · exact take_onLink hr hl hp (k := takeProbeAck h body) (by simp only [takeProbeAck, unfound]) rfl rfl rfl
    · exact take_onLink hr hl hp (k := takeProbeNak h body) (by simp only [takeProbeNak, unfound]) rfl rfl rfl
    · exact take_onLink hr hl hp (k := takeAdvance h) (by simp only [takeAdvance, unfound]) rfl rfl rfl
    · exact take_onLink hr hl hp (k := takeReady h body) (by simp only [takeReady, unfound]) rfl rfl rfl
    · exact take_onLink hr hl hp (k := fun x => takeFault h.port x.1 x.2.1 x.2.2.1 x.2.2.2)
        (by simp only [takeFault, unfound]) rfl rfl rfl

end Sys2Proof.Machine
end

section
/-! SUPPORT. Admission at a node: checks 3 to 8 (R53 to R55), and the record and reservation of a request that passes
them (R9, R55). -/
namespace Sys2Proof.Machine

/-- R53 to R55: the reason of the lowest-numbered failing one of checks 3 to 8. -/
def failingCheck (s : State) (ing eg : Nat) (b : SetupBody) : Option Reason :=
  let o := s.resp.overlay
  let spectrum := judgeWalks b.cls ((admitWalks s ing eg b.first b.count).map (·.1))
  if (findLp s b.id).isSome then some .lpBusy
  else if o.classes.allows b.cls = false then some .classBarred
  else if o.span < b.count then some .spanLimit
  else if o.concurrency ≤ activeCount s then some .nodeBusy
  else if lowestFree s = none then some .tableFull
  else if 7 < b.profile then some .badProfile
  else if pilotInUse s b.pilot then some .pilotInUse
  else if spectrum ≠ none then spectrum
  else if elementsReady s eg = false then some .noElement
  else none

/-- R53 to R55: what checks 3 to 8 ask of a request that becomes the record at `n`, the lowest FREE one. -/
structure Admissible (s : State) (ing eg n : Nat) (b : SetupBody) : Prop where
  unknown  : findLp s b.id = none
  allowed  : s.resp.overlay.classes.allows b.cls = true
  span     : b.count ≤ s.resp.overlay.span
  room     : activeCount s < s.resp.overlay.concurrency
  lowest   : lowestFree s = some n
  profile  : b.profile ≤ 7
  pilot    : pilotInUse s b.pilot = false
  spectrum : judgeWalks b.cls ((admitWalks s ing eg b.first b.count).map (·.1)) = none
  ready    : elementsReady s eg = true

/-- The state with the marks of an admission's walks (R6, R7). -/
def walked (ing eg : Nat) (b : SetupBody) (s : State) : State :=
  setMarks (allMarks (admitWalks s ing eg b.first b.count)) s

section
variable {s : State} {ing eg : Nat} {b : SetupBody} (role : Role) (i : Nat)

/-- Checks 3 to 6, then the walks of check 7, then the elements of check 8. -/
theorem failingCheck_eq : failingCheck s ing eg b =
    (admissionFailure s b).or ((judgeSpan ing eg b.first b.count b.cls s).1.or
      (if elementsReady s eg = false then some .noElement else none)) := by
  simp only [failingCheck, admissionFailure, judgeSpan, Bool.not_eq_true', Option.isNone_iff_eq_none]
  generalize judgeWalks b.cls _ = spectrum
  cases spectrum <;> split_ifs <;> simp_all

/-- R59: an admission that fails leaves the marks of its walks and nothing else. -/
theorem admission_of_failingCheck {r : Reason} (hr : failingCheck s ing eg b = some r) :
    admission role ing eg i b s = (.refused r, walked ing eg b s) := by
  rw [failingCheck_eq] at hr
  cases early : admissionFailure s b with
  | some r' =>
    obtain rfl : r' = r := by simpa [early] using hr
    simp only [admission, early]
    rfl
  | none =>
    cases spectrum : (judgeSpan ing eg b.first b.count b.cls s).1 with
    | some r' =>
      obtain rfl : r' = r := by simpa [early, spectrum] using hr
      simp only [admission, early, spectrum]
      rfl
    | none =>
      obtain ⟨ready, rfl⟩ : elementsReady s eg = false ∧ .noElement = r := by simpa [early, spectrum] using hr
      simp only [admission, early, spectrum, ready]
      rfl

/-- R9, R55: the record, the reservation and the count of an admission that passes. -/
theorem Admissible.admission {n : Nat} (ha : Admissible s ing eg n b) :
    admission role ing eg i b s = (.made n, countAccepted (reserveSpan n ing eg b.first b.count
      (allocate n (newContext s role ing eg b i) (walked ing eg b s)))) := by
  have early : admissionFailure s b = none := by
    simp [admissionFailure, ha.unknown, ha.allowed, ha.span.not_gt, ha.room.not_ge, ha.lowest, ha.profile.not_gt,
      ha.pilot]
  have passed : (judgeSpan ing eg b.first b.count b.cls s).1 = none := ha.spectrum
  simp only [Machine.admission, early, passed, ha.ready, ha.lowest]
  rfl

end

/-- The checks read nothing that the rx counter changes. -/
theorem failingCheck_countRx (p : Nat) (s : State) (ing eg : Nat) (b : SetupBody) :
    failingCheck (countRx p s) ing eg b = failingCheck s ing eg b := rfl

theorem Admissible.countRx {s : State} {ing eg n : Nat} {b : SetupBody} (h : Admissible s ing eg n b) (p : Nat) :
    Admissible (countRx p s) ing eg n b := ⟨h.1, h.2, h.3, h.4, h.5, h.6, h.7, h.8, h.9⟩

theorem walked_countRx (p : Nat) (s : State) (ing eg : Nat) (b : SetupBody) :
    walked ing eg b (countRx p s) =
      setMarks (allMarks (admitWalks s ing eg b.first b.count)) (countRx p s) := rfl

/-- R26: a line face has its own port, an add/drop face has none. -/
theorem portOfFace_line {f : Nat} (h : f ≤ 7) : portOfFace f = some f := if_pos h

theorem portOfFace_addDrop {f : Nat} (h : 8 ≤ f) : portOfFace f = none := if_neg (by omega)

end Sys2Proof.Machine
end

section
/-! CERTIFICATE. SETUP at a transit or tail (O22). -/
namespace Sys2Proof.Machine

/-! ## Checks 1 and 2 (R51, R52) -/

section
variable {s : State} {port : Nat} {b : SetupBody} {e : Hop}

/-- R51: an entry that names another node or another ingress face. -/
theorem hopRole_miswired (hm : ¬(e.node = s.switch.nodeId ∧ e.ingress = port)) :
    hopRole s port b e = .error .miswired :=
  if_pos (not_and_or.1 hm)

/-- R52: the role of an entry whose egress face fits it and whose span is valid. -/
theorem hopRole_transit (hm : e.node = s.switch.nodeId ∧ e.ingress = port) (hcur : b.cursor + 1 < b.hops.length)
    (hface : e.egress ≤ 7 ∧ e.egress ≠ e.ingress) (hspan : spanValid b.first b.count = true) :
    hopRole s port b e = .ok .transit := by
  simp [hopRole, hm, hcur, hface.1, hm.2 ▸ hface.2, hspan]

theorem hopRole_tail (hm : e.node = s.switch.nodeId ∧ e.ingress = port) (hcur : b.cursor + 1 = b.hops.length)
    (hface : 8 ≤ e.egress ∧ e.egress ≤ 11) (hspan : spanValid b.first b.count = true) :
    hopRole s port b e = .ok .tail := by
  simp [hopRole, hm, hcur, hface.1, hface.2, hspan]

/-- R52: an egress face that does not fit the role the cursor gives, or a span that is not valid. -/
theorem hopRole_badHop (hm : e.node = s.switch.nodeId ∧ e.ingress = port) (hin : b.cursor < b.hops.length)
    (hfit : ¬(((b.cursor + 1 < b.hops.length ∧ e.egress ≤ 7 ∧ e.egress ≠ e.ingress) ∨
      (b.cursor + 1 = b.hops.length ∧ 8 ≤ e.egress ∧ e.egress ≤ 11)) ∧ spanValid b.first b.count = true)) :
    hopRole s port b e = .error .badHop := by
  have hmine : ¬(e.node ≠ s.switch.nodeId ∨ e.ingress ≠ port) := by tauto
  simp only [hopRole, if_neg hmine]
  refine if_neg fun hgood => hfit ?_
  obtain ⟨hface, hspan⟩ := Bool.and_eq_true_iff.1 hgood
  refine ⟨?_, hspan⟩
  by_cases hcur : b.cursor + 1 < b.hops.length
  · simp only [hcur, if_true, Bool.and_eq_true, decide_eq_true_eq] at hface
    exact .inl ⟨hcur, by simpa using hface⟩
  · simp only [hcur, if_false, Bool.and_eq_true, decide_eq_true_eq] at hface
    exact .inr ⟨by omega, hface⟩

end

/-! ## The three ways a SETUP ends (R57 to R59) -/

/-- R50: a SETUP that came over a link is taken by its entry at the cursor. -/
theorem exec_setup {h : Hdr} {body : List Byte} {b : SetupBody} {s : State} (hl : OnLink h s)
    (hp : parseSetup body = some b) : exec (.setup h body) s = .next (takeSetup h b (countRx h.port s)) := by
  change Host.Outcome.next (onSetup h body s) = _
  rw [onSetup, hp, receive_commissioning hl]

section
variable {s : State} {h : Hdr} {b : SetupBody} {e : Hop} (he : b.hops[b.cursor]? = some e)
include he

theorem takeSetup_of_hop {r : Reason} (hrole : hopRole s h.port b e = .error r) :
    takeSetup h b s = refuseSetup h b.id r s := by
  simp only [takeSetup, he, hrole]

/-- R59: one of checks 3 to 8 fails. -/
theorem takeSetup_of_failingCheck {role : Role} (hrole : hopRole s h.port b e = .ok role) {r : Reason}
    (hr : failingCheck s e.ingress e.egress b = some r) :
    takeSetup h b s = refuseSetup h b.id r (walked e.ingress e.egress b s) := by
  simp only [takeSetup, he, hrole, admission_of_failingCheck role b.cursor hr]

/-- R57: a transit sends the SETUP on. -/
theorem takeSetup_transit (hrole : hopRole s h.port b e = .ok .transit) {n : Nat}
    (ha : Admissible s e.ingress e.egress n b) :
    takeSetup h b s = relay (portOfFace e.egress) .setup h (SetupBody.encode { b with cursor := b.cursor + 1 })
      (countAccepted (reserveSpan n e.ingress e.egress b.first b.count
        (allocate n (newContext s .transit e.ingress e.egress b b.cursor) (walked e.ingress e.egress b s)))) := by
  simp only [takeSetup, he, hrole, ha.admission]

/-- R58: a tail answers. -/
theorem takeSetup_tail (hrole : hopRole s h.port b e = .ok .tail) {n : Nat}
    (ha : Admissible s e.ingress e.egress n b) :
    takeSetup h b s = sendOn (portOfFace e.ingress) .setupAck (idBody b.id)
      (countAccepted (reserveSpan n e.ingress e.egress b.first b.count
        (allocate n (newContext s .tail e.ingress e.egress b b.cursor) (walked e.ingress e.egress b s)))) := by
  simp only [takeSetup, he, hrole, ha.admission]

end

/-- A span in the terms of the statements: a first slot above 383 leaves no room for a slot. -/
theorem spanValid_of_fits {first count : Nat} (h1 : 1 ≤ count) (h16 : count ≤ 16) (hfit : first + count ≤ 384) :
    spanValid first count = true :=
  (spanValid_iff first count).2 ⟨h1, h16, by omega, hfit⟩

/-- Settles O22: checks 1 and 2 by the entry at the cursor, checks 3 to 8 by the admission, the two roles that pass. -/
theorem setupJudged : Obligations.SetupJudged := by
  refine ⟨fun h body b e s hl hp he => ?_, fun h body b e n s hl hp he hnode hing h1 h16 hfit hid hcls hspan hroom hn
    hfree hlow hprofile hpilot hwalks hready => ?_⟩
  · intro refusal mine fits o spectrum
    obtain ⟨hin, -⟩ := List.getElem?_eq_some_iff.1 he
    rw [exec_setup hl hp]
    refine ⟨fun hm => ?_, fun hm hf => ?_, fun r hm hf hr => ?_⟩
    · rw [takeSetup_of_hop (s := countRx h.port s) he (hopRole_miswired hm)]
      rfl
    · rw [takeSetup_of_hop (s := countRx h.port s) he (hopRole_badHop hm hin ?_)]
      · rfl
      · rw [spanValid_iff]
        exact fun ⟨hface, h1, h16, _, hfit⟩ => hf ⟨hface, h1, h16, hfit⟩
    · obtain ⟨role, hrole⟩ : ∃ role, hopRole (countRx h.port s) h.port b e = .ok role := by
        obtain ⟨⟨hcur, hface⟩ | ⟨hcur, hface⟩, h1, h16, hfit⟩ := hf
        · exact ⟨_, hopRole_transit hm hcur hface (spanValid_of_fits h1 h16 hfit)⟩
        · exact ⟨_, hopRole_tail hm hcur hface (spanValid_of_fits h1 h16 hfit)⟩
      rw [takeSetup_of_failingCheck he hrole ((failingCheck_countRx ..).trans hr), refuseSetup, walked_countRx,
        setMarks_switch]
      rfl
  · intro record taken
    have hm : e.node = s.switch.nodeId ∧ e.ingress = h.port.val := ⟨hnode, hing⟩
    have hvalid := spanValid_of_fits h1 h16 hfit
    have ha : Admissible (countRx h.port s) e.ingress e.egress n b :=
      Admissible.countRx ⟨hid, hcls, hspan, hroom, lowestFree_eq hn hfree hlow, hprofile, hpilot, hwalks, hready⟩ _
    have hup : portOfFace e.ingress = some e.ingress := portOfFace_line (by have := hl.1; omega)
    rw [exec_setup hl hp]
    refine ⟨fun hcur h7 hne => ?_, fun hcur h8 h11 => ?_⟩
    · have hrole : hopRole (countRx h.port s) h.port b e = .ok .transit := hopRole_transit hm hcur ⟨h7, hne⟩ hvalid
      have hdown := portOfFace_line h7
      have hrecord : newContext (countRx h.port s) .transit e.ingress e.egress b b.cursor =
          record .transit (some e.egress) := by
        rw [newContext, hup, hdown]
        rfl
      rw [takeSetup_transit he hrole ha, hrecord, hdown]
      rfl
    · have hrole : hopRole (countRx h.port s) h.port b e = .ok .tail := hopRole_tail hm hcur ⟨h8, h11⟩ hvalid
      have hdown := portOfFace_addDrop h8
      have hrecord : newContext (countRx h.port s) .tail e.ingress e.egress b b.cursor = record .tail none := by
        rw [newContext, hup, hdown]
        rfl
      rw [takeSetup_tail he hrole ha, hrecord, hup]
      rfl

end Sys2Proof.Machine
end

section
/-! CERTIFICATE. SETUP-ACK and SETUP-REJECT (O23). -/
namespace Sys2Proof.Machine

/-! ## The start of the probe phase (R69 to R71) -/

/-- R70: with no request outstanding, a waiting level setting is asked before all other probe work. -/
theorem pumpProbe_level {s : State} {n k : Nat} {c : Context} (hc : s.ctx n = some c) (ho : c.work.outstanding = false)
    (hk : c.work.level = some k) :
    pumpProbe n s = askWss .ramp (.setAtten ((s.profile c.profile).ladder k)) false
      (.level ((s.profile c.profile).ladder k)) n c
      (s.setCtx n (some { c with work := { c.work with outstanding := true, level := none } })) := by
  simp only [pumpProbe, hc, ho, hk, State.modCtx_of_some s hc]
  rfl

/-- R69, R71: a record whose DITHER-START alone waits takes level 0: its L[0] setting is asked, the start waits on. -/
theorem takeLevel_zero {s : State} {n e : Nat} {c : Context} (hw : c.work = { ProbeWork.none with start := true })
    (hplace : Placeable .ramp (s.faceSet c.egress).wss e s) :
    takeLevel n 0 (s.setCtx n (some c)) =
      place .ramp e (.setAtten (s.profile c.profile).l0) false c.first c.count
        (.ctx n c.inst (.level (s.profile c.profile).l0))
        (s.setCtx n (some { c with probeLevel := 0, work := ⟨some 0, true, none, true, false, false⟩ })) := by
  let d : Context := { c with probeLevel := 0, work := ⟨some 0, false, some 0, true, false, false⟩ }
  have levelled : (s.setCtx n (some c)).modCtx n (fun c => { c with probeLevel := 0, work := c.work.wantLevel 0 }) =
      s.setCtx n (some d) := by
    simp [hw, ProbeWork.wantLevel, ProbeWork.none, d]
  have hd : (s.setCtx n (some d)).ctx n = some d := by simp
  rw [takeLevel, levelled, pumpProbe_level (k := 0) hd rfl rfl, State.setCtx_setCtx]
  exact handOver_of_placeable (s := s.setCtx n _) hplace ..

/-- R71: the head whose setup was acknowledged begins its probe phase, with a request that can be placed. -/
theorem beginProbe_placed {s : State} {n p e : Nat} {c : Context} (hst : c.st = .reserved)
    (hw : c.work = ProbeWork.none) (hp : c.downPort = some p)
    (hplace : Placeable .ramp (s.faceSet c.egress).wss e s) :
    beginProbe n c (s.setCtx n (some { c with setupAcked := true })) =
      sendAdjacent p .probe (e32 c.lpId ++ e8 0)
        (place .ramp e (.setAtten (s.profile c.profile).l0) false c.first c.count
          (.ctx n c.inst (.level (s.profile c.profile).l0))
          (s.setCtx n (some { c with
            setupAcked := true, st := .probing, watch := none,
            probeTimer := some (s.now + (s.profile c.profile).probeDwell), probeLevel := 0,
            work := ⟨some 0, true, none, true, false, false⟩ }))) := by
  let d : Context := { c with setupAcked := true, st := .probing, watch := none,
                              probeTimer := some (s.now + (s.profile c.profile).probeDwell),
                              work := { ProbeWork.none with start := true } }
  have entered : changeState n c .probing (s.setCtx n (some { c with setupAcked := true })) =
      s.setCtx n (some { c with setupAcked := true, st := .probing, watch := none }) := by
    rw [changeState_setCtx, hst]
    simp [Context.enter, deadlineIn]
  have timed : (s.setCtx n (some { c with setupAcked := true, st := .probing, watch := none })).modCtx n
      (fun x => { x with probeTimer := some (s.now + (s.profile x.profile).probeDwell),
                         work := { x.work with start := true } }) = s.setCtx n (some d) := by
    simp [d, hw]
  have asked := takeLevel_zero (s := s) (n := n) (c := d) rfl hplace
  simp only [beginProbe, entered]
  rw [show sendOn c.downPort = sendOn (some p) by rw [hp]]
  exact congrArg (sendAdjacent p .probe (probeBody c.lpId 0)) ((congrArg (takeLevel n 0) timed).trans asked)

/-! ## The replies, by position (R60 to R63) -/

/-- Section 3.5: the record waits for its reply, from this port. -/
theorem awaitsReply_iff (c : Context) (port : Nat) :
    awaitsReply c port = true ↔ c.st = .reserved ∧ c.setupAcked = false ∧ c.downPort = some port := by
  simp [awaitsReply, and_assoc]

section
variable {h : Hdr} {body : List Byte} {n : Nat} {c : Context} {s : State}

section
variable {id : Nat} (hl : findLp s id = some (n, c))
include hl

/-- R68: a SETUP-ACK that no record waits for, or that finds a tail. -/
theorem takeSetupAck_stray (hno : ¬awaitsReply c h.port = true ∨ c.role = .tail) :
    takeSetupAck h body id s = stray s := by
  simp only [takeSetupAck, hl]
  rcases hno with hno | htail
  · rw [if_neg hno]
  · simp only [htail, ite_self]

theorem takeSetupAck_transit (hc : s.ctx n = some c) (ha : awaitsReply c h.port = true) (hrole : c.role = .transit)
    {p : Nat} (hup : c.upPort = some p) :
    takeSetupAck h body id s =
      relay (some p) .setupAck h body (s.setCtx n (some { c with setupAcked := true })) := by
  simp only [takeSetupAck, hl, ha, if_true, hrole, State.modCtx_of_some s hc, hup]

theorem takeSetupAck_head (hc : s.ctx n = some c) (ha : awaitsReply c h.port = true) (hrole : c.role = .head) :
    takeSetupAck h body id s = beginProbe n c (s.setCtx n (some { c with setupAcked := true })) := by
  simp only [takeSetupAck, hl, ha, if_true, hrole, State.modCtx_of_some s hc]

end

section
variable {x : Nat × Reason × Nat} (hl : findLp s x.1 = some (n, c))
include hl

theorem takeSetupReject_stray (hno : ¬awaitsReply c h.port = true ∨ c.role = .tail) :
    takeSetupReject h body x s = stray s := by
  simp only [takeSetupReject, hl]
  rcases hno with hno | htail
  · rw [if_neg hno]
  · simp only [htail, ite_self]

theorem takeSetupReject_transit (ha : awaitsReply c h.port = true) (hrole : c.role = .transit) {p : Nat}
    (hup : c.upPort = some p) :
    takeSetupReject h body x s = relay (some p) .setupReject h body (freeRecord n c s) := by
  simp only [takeSetupReject, hl, ha, if_true, hrole, hup]

theorem takeSetupReject_head (ha : awaitsReply c h.port = true) (hrole : c.role = .head) :
    takeSetupReject h body x s = tellEvent n (evRejected x.1 x.2.1 x.2.2) (freeRecord n c s) := by
  simp only [takeSetupReject, hl, ha, if_true, hrole]

end
end

/-- R25: a RESERVED record off the ramp is freed with its span, and nothing else changes. -/
theorem freeRecord_of_reserved {n : Nat} {c : Context} {s : State} (hoff : OffRamp n c s) (hst : c.st = .reserved) :
    freeRecord n c s = (freeSpan n c.ingress c.egress c.first c.count s).setCtx n none := by
  rw [freeRecord_of_offRamp hoff, hst]
  rfl

/-- R179: at rest, a take that only tells one event ends with its hand-over. -/
theorem endTake_tellEvent_atRest {s t : State} (hr : AtRest s) (hw : t.work = s.work) (ht : t.told = s.told)
    (hb : t.bus = s.bus) (n : Nat) (b : List Byte) : endTake (tellEvent n b t) = event b t := by
  have rested : AtRest (event b t) := by
    rw [event_frame]
    exact hr.of_eq hw ht hb
  rw [endTake_tellEvent (hw.trans hr.1) (ht.trans hr.2.1), ← endTake_of_nil rested.1 rested.2.1,
    endTake_of_atRest rested]

/-- Settles O23: each reply by the role of the record that waits for it, and the replies that are stray. -/
theorem setupRepliesTaken : Obligations.SetupRepliesTaken := by
  refine ⟨fun h body id n c s hr hl hp hfind hc => ?_, fun h body id node n r c s hr hl hp hfind hoff => ?_⟩
  · intro awaits
    have hawaits : awaitsReply c h.port = true ↔ awaits := awaitsReply_iff c h.port
    have hfind' : findLp (countRx h.port s) id = some (n, c) := hfind
    refine ⟨fun ha hrole p hup => ?_, fun ha hrole hwork e hplace => ?_, fun hno => ?_⟩
    · exact take_onLink hr hl hp (takeSetupAck_transit hfind' hc (hawaits.2 ha) hrole hup) rfl rfl rfl
    · have taken := (takeSetupAck_head (h := h) (body := body) hfind' hc (hawaits.2 ha) hrole).trans
        (beginProbe_placed (s := countRx h.port s) ha.1 hwork ha.2.2 hplace)
      change Host.Outcome.next (endTake (onSetupAck h body s)) = _
      rw [onSetupAck, hp, receive_commissioning hl, taken]
      exact congrArg Host.Outcome.next (endTake_of_nil hr.1 hr.2.1)
    · exact take_onLink hr hl hp (takeSetupAck_stray hfind' (hno.imp_left hawaits.not.2)) rfl rfl rfl
  · intro awaits freed
    have hawaits : awaitsReply c h.port = true ↔ awaits := awaitsReply_iff c h.port
    have hfind' : findLp (countRx h.port s) id = some (n, c) := hfind
    have hfreed (ha : awaits) : freeRecord n c (countRx h.port s) = freed :=
      freeRecord_of_reserved (s := countRx h.port s) hoff ha.1
    have hd : DirOnly (countRx h.port s) (freeSpan n c.ingress c.egress c.first c.count (countRx h.port s)) :=
      freeSpan_dirOnly ..
    have htold : freed.told = s.told := by
      change (freeSpan n c.ingress c.egress c.first c.count (countRx h.port s)).told = _
      rw [hd]
      rfl
    refine ⟨fun ha hrole p hup => ?_, fun ha hrole => ?_, fun hno => ?_⟩
    · have taken := takeSetupReject_transit (h := h) (body := body) (x := (id, r, node)) hfind' (hawaits.2 ha) hrole
        hup
      rw [hfreed ha] at taken
      exact take_onLink hr hl hp taken hd.work htold hd.bus
    · have taken := takeSetupReject_head (h := h) (body := body) (x := (id, r, node)) hfind' (hawaits.2 ha) hrole
      rw [hfreed ha] at taken
      change Host.Outcome.next (endTake (onSetupReject h body s)) = _
      rw [onSetupReject, hp, receive_commissioning hl, taken]
      exact congrArg Host.Outcome.next (endTake_tellEvent_atRest (t := freed) hr hd.work htold hd.bus ..)
    · exact take_onLink hr hl hp (takeSetupReject_stray (x := (id, r, node)) hfind' (hno.imp_left hawaits.not.2))
        rfl rfl rfl

end Sys2Proof.Machine
end

section
/-! CERTIFICATE. COMMISSION at the head (O53). -/
namespace Sys2Proof.Machine

/-! ## Checks 2 to 4 (R46, R47) -/

theorem commissionInRange_iff (b : SetupBody) : commissionInRange b = true ↔
    b.id ≠ 0 ∧ 1 ≤ b.pilot ∧ b.pilot ≤ 4095 ∧ -300 ≤ b.trim ∧ b.trim ≤ 300 := by
  simp [commissionInRange, pilotInRange, trimInRange, and_assoc]

/-- R47, check 3: the path that passes, answered with its first entry. -/
theorem commissionPath_eq_some {s : State} {b : SetupBody} {e : Hop} :
    commissionPath s b = some e ↔
      b.hops[0]? = some e ∧ e.node = s.switch.nodeId ∧ 2 ≤ b.hops.length ∧ b.hops.length ≤ 32 ∧
        (∀ x ∈ b.hops, 1 ≤ x.node ∧ x.node ≤ 65534) ∧ (b.hops.map (·.node)).Nodup := by
  unfold commissionPath
  cases b.hops with
  | nil => simp
  | cons e' l =>
    simp only [nodesDistinct, Bool.and_eq_true, decide_eq_true_eq, beq_iff_eq, List.all_eq_true,
      List.getElem?_cons_zero, Option.ite_none_right_eq_some, Option.some.injEq]
    constructor
    · rintro ⟨⟨⟨⟨⟨h2, h32⟩, hid⟩, hown⟩, hnodup⟩, rfl⟩
      exact ⟨rfl, hown, h2, h32, hid, hnodup⟩
    · rintro ⟨rfl, hown, h2, h32, hid, hnodup⟩
      exact ⟨⟨⟨⟨⟨h2, h32⟩, hid⟩, hown⟩, hnodup⟩, rfl⟩

theorem commissionHop_iff (b : SetupBody) (e : Hop) : commissionHop b e = true ↔
    8 ≤ e.ingress ∧ e.ingress ≤ 11 ∧ e.egress ≤ 7 ∧ 1 ≤ b.count ∧ b.count ≤ 16 ∧ b.first ≤ 383 ∧
      b.first + b.count ≤ 384 := by
  simp [commissionHop, spanValid, and_assoc]

/-! ## The ways a COMMISSION ends (R48, R49) -/

section
variable {h : Hdr} {b : SetupBody} {s : State}

theorem commission_badValue (hr : ¬commissionInRange b = true) :
    commission h b s = respond h reqCommission .badValue [] s := by
  simp only [commission, Bool.eq_false_iff.2 hr, Bool.not_false, if_true]

section
variable (hr : commissionInRange b = true)
include hr

theorem commission_badPath (hpath : commissionPath s b = none) :
    commission h b s = refuseCommission h .badPath s := by
  simp only [commission, hr, Bool.not_true, Bool.false_eq_true, if_false, hpath]

section
variable {e : Hop} (hpath : commissionPath s b = some e)
include hpath

theorem commission_badHop (hhop : ¬commissionHop b e = true) : commission h b s = refuseCommission h .badHop s := by
  simp only [commission, hr, Bool.not_true, Bool.false_eq_true, if_false, hpath, Bool.eq_false_iff.2 hhop,
    Bool.not_false, if_true]

/-- R49: one of checks 5 to 8, which are checks 3 to 8 of a SETUP, fails. -/
theorem commission_of_failingCheck (hhop : commissionHop b e = true) {r : Reason}
    (hf : failingCheck s e.ingress e.egress b = some r) :
    commission h b s = refuseCommission h r (walked e.ingress e.egress b s) := by
  simp only [commission, hr, Bool.not_true, Bool.false_eq_true, if_false, hpath, hhop,
    admission_of_failingCheck .head 0 hf]

/-- R48: the response, then the SETUP. -/
theorem commission_admitted (hhop : commissionHop b e = true) {n : Nat} (ha : Admissible s e.ingress e.egress n b) :
    commission h b s = sendOn (portOfFace e.egress) .setup (SetupBody.encode { b with cursor := 1 })
      (respond h reqCommission .accepted (e8 n) (countAccepted (reserveSpan n e.ingress e.egress b.first b.count
        (allocate n (newContext s .head e.ingress e.egress b 0) (walked e.ingress e.egress b s))))) := by
  simp only [commission, hr, Bool.not_true, Bool.false_eq_true, if_false, hpath, hhop, ha.admission]

end
end
end

theorem exec_commission {h : Hdr} {params : List Byte} {b : SetupBody} {s : State} (hf : ForNode h s)
    (hp : parseCommission params = some b) :
    exec (.commission h params) s = .next (commission h b (countRx h.port s)) := by
  change Host.Outcome.next (onRequest h reqCommission params (parseCommission params) (commission h) s) = _
  rw [hp, onRequest_forNode hf]

/-- Settles O53: check after check, the last six as the admission judges them. -/
theorem commissionJudged : Obligations.CommissionJudged := by
  intro h params b s hf hp inRange o
  have hrange : commissionInRange b = true ↔ inRange := commissionInRange_iff b
  rw [exec_commission hf hp]
  refine ⟨fun hr => ?_, fun hr hbad => ?_, fun e l hhops hr h1 h31 hid hown hnodup => ?_⟩
  · rw [commission_badValue (hrange.not.2 hr)]
    rfl
  · have hpath : commissionPath (countRx h.port s) b = none := by
      refine Option.eq_none_iff_forall_ne_some.2 fun e he => hbad ?_
      obtain ⟨h0, hown, h2, h32, hid, hnodup⟩ := commissionPath_eq_some.1 he
      exact ⟨h2, h32, hid, ⟨e, h0, hown⟩, hnodup⟩
    rw [commission_badPath (hrange.2 hr) hpath]
    rfl
  have hr' := hrange.2 hr
  have hlen : b.hops.length = l.length + 1 := by rw [hhops, List.length_cons]
  have hpath : commissionPath (countRx h.port s) b = some e :=
    commissionPath_eq_some.2 ⟨by rw [hhops]; rfl, hown, by omega, by omega, hid, hnodup⟩
  intro fits walks spectrum
  have hhop : commissionHop b e = true ↔ fits := commissionHop_iff b e
  refine ⟨fun hfit => ?_, fun r hfit hfail => ?_, fun n hfit hlp hcls hspan hroom hn hfree hlow hprofile hpilot hwalks
    hready => ?_⟩
  · rw [commission_badHop hr' hpath (hhop.not.2 hfit)]
    rfl
  · rw [commission_of_failingCheck hr' hpath (hhop.2 hfit) ((failingCheck_countRx ..).trans hfail)]
    rfl
  · intro record
    have ha : Admissible (countRx h.port s) e.ingress e.egress n b :=
      Admissible.countRx ⟨hlp, hcls, hspan, hroom, lowestFree_eq hn hfree hlow, hprofile, hpilot, hwalks, hready⟩ _
    have hdown : portOfFace e.egress = some e.egress := portOfFace_line hfit.2.2.1
    have hrecord : newContext (countRx h.port s) .head e.ingress e.egress b 0 = record := by
      rw [newContext, portOfFace_addDrop hfit.1, hdown]
      rfl
    rw [commission_admitted hr' hpath (hhop.2 hfit) ha, hrecord, hdown]
    rfl

end Sys2Proof.Machine
end

section
/-! SUPPORT. Probe element work (R70): what is asked by what waits, and that the asking leaves the records. -/
namespace Sys2Proof.Machine

/-! ## A request handed over -/

section
variable (cl : BusClass) (field : Option Nat) (t : Txn) (d : Bool) (f k : Nat) (tag : Tag) (s : State)

/-- R148: a hand-over changes the bus and adds to the take's work alone. -/
theorem handOver_frame : handOver cl field t d f k tag s =
    { s with bus := (handOver cl field t d f k tag s).bus, work := (handOver cl field t d f k tag s).work } := by
  cases field with
  | none => rfl
  | some e =>
    unfold handOver
    dsimp only
    split_ifs <;> rfl

/-- A record written after a request was handed over might as well be written before. -/
theorem setCtx_handOver (n : Nat) (c : Option Context) :
    (handOver cl field t d f k tag s).setCtx n c = handOver cl field t d f k tag (s.setCtx n c) := by
  cases field with
  | none => rfl
  | some e =>
    have same : failsAtOnce cl (some e) (s.setCtx n c) = failsAtOnce cl (some e) s := rfl
    simp only [handOver, same]
    split_ifs <;> rfl

end

section
variable (cl : BusClass) (t : Txn) (d : Bool) (p : Purpose) (n : Nat) (c : Context) (s : State)

@[simp] theorem askWss_now : (askWss cl t d p n c s).now = s.now := by
  rw [askWss, handOver_frame]

@[simp] theorem askWss_profile (j : Nat) : (askWss cl t d p n c s).profile j = s.profile j := by
  rw [askWss, handOver_frame]
  rfl

@[simp] theorem askWss_ctx (j : Nat) : (askWss cl t d p n c s).ctx j = s.ctx j := by
  rw [askWss, handOver_frame]
  rfl

end

/-! ## The next request -/

section
variable {s : State} {n : Nat} {c : Context} (hc : s.ctx n = some c)
include hc

/-- R70: one request at a time. -/
theorem pumpProbe_of_outstanding (ho : c.work.outstanding = true) : pumpProbe n s = s := by
  simp only [pumpProbe, hc, ho, if_true]

section
variable (ho : c.work.outstanding = false) (hl : c.work.level = none)
include ho hl

/-- R70: a waiting DITHER-START, from which the head is dithering. -/
theorem pumpProbe_start (hs : c.work.start = true) :
    pumpProbe n s = askWss .ramp (.ditherStart c.pilot) false .ditherStart n c
      (s.setCtx n (some { c with work := { c.work with outstanding := true, start := false, dithering := true } })) := by
  simp only [pumpProbe, hc, ho, hl, hs, if_true, State.modCtx_of_some s hc]
  rfl

/-- R70: a waiting DITHER-STOP, from which the head is not dithering. -/
theorem pumpProbe_stop (hs : c.work.start = false) (hp : c.work.stop = true) :
    pumpProbe n s = askWss .ramp .ditherStop false .ditherStop n c
      (s.setCtx n (some { c with work := { c.work with outstanding := true, stop := false, dithering := false } })) := by
  simp only [pumpProbe, hc, ho, hl, hs, hp, if_true, State.modCtx_of_some s hc]
  rfl

theorem pumpProbe_of_none_waiting (hs : c.work.start = false) (hp : c.work.stop = false) : pumpProbe n s = s :=
  pumpProbe_of_idle hc (by simp [ProbeWork.idle, ho, hl, hs, hp])

end
end

/-! ## The probe window (R75) -/

/-- R75: the record with its watch created or kept, and its probe window running to a time. -/
def Context.watched (c : Context) (deadline : Nat) : Context :=
  { c with watch := some (c.watch.getD Watch.created), probeTimer := some deadline }

/-- R75: the watch created or kept, and the probe window restarted. -/
def openWindow (n : Nat) (s : State) : State :=
  s.modCtx n fun c => c.watched (s.now + (s.profile c.profile).probeWindow)

theorem openWindow_setCtx (n : Nat) (c : Context) (s : State) :
    openWindow n (s.setCtx n (some c)) =
      s.setCtx n (some (c.watched (s.now + (s.profile c.profile).probeWindow))) := State.modCtx_setCtx ..

/-- The window may as well be opened before a request is asked. -/
theorem openWindow_askWss (cl : BusClass) (t : Txn) (d : Bool) (p : Purpose) (n : Nat) (b c : Context) (s : State) :
    openWindow n (askWss cl t d p n b (s.setCtx n (some c))) =
      askWss cl t d p n b (s.setCtx n (some (c.watched (s.now + (s.profile c.profile).probeWindow)))) := by
  have asked : (askWss cl t d p n b (s.setCtx n (some c))).ctx n = some c := by simp
  rw [openWindow, State.modCtx_of_some _ asked, askWss_now, askWss_profile, askWss, setCtx_handOver,
    State.setCtx_setCtx]
  rfl

/-- The window may as well be opened before the next probe work is asked. -/
theorem openWindow_pumpProbe (n : Nat) (c : Context) (s : State) :
    openWindow n (pumpProbe n (s.setCtx n (some c))) =
      pumpProbe n (s.setCtx n (some (c.watched (s.now + (s.profile c.profile).probeWindow)))) := by
  have hc (d : Context) : (s.setCtx n (some d)).ctx n = some d := by simp
  have hc' := hc (c.watched (s.now + (s.profile c.profile).probeWindow))
  cases ho : c.work.outstanding with
  | true => rw [pumpProbe_of_outstanding (hc c) ho, pumpProbe_of_outstanding hc' ho, openWindow_setCtx]
  | false =>
    cases hl : c.work.level with
    | some k =>
      rw [pumpProbe_level (hc c) ho hl, pumpProbe_level hc' ho hl, State.setCtx_setCtx, openWindow_askWss,
        State.setCtx_setCtx]
      rfl
    | none =>
      cases hs : c.work.start with
      | true =>
        rw [pumpProbe_start (hc c) ho hl hs, pumpProbe_start hc' ho hl hs, State.setCtx_setCtx, openWindow_askWss,
          State.setCtx_setCtx]
        rfl
      | false =>
        cases hp : c.work.stop with
        | true =>
          rw [pumpProbe_stop (hc c) ho hl hs hp, pumpProbe_stop hc' ho hl hs hp, State.setCtx_setCtx,
            openWindow_askWss, State.setCtx_setCtx]
          rfl
        | false =>
          rw [pumpProbe_of_none_waiting (hc c) ho hl hs hp, pumpProbe_of_none_waiting hc' ho hl hs hp,
            openWindow_setCtx]

end Sys2Proof.Machine
end

section
/-! CERTIFICATE. Probe work and the close of a MAINT record (O29). -/
namespace Sys2Proof.Machine

/-! ## The close of a MAINT record (R86) -/

/-- R86: a MAINT record's closing as it is first kept. -/
def Context.closing (n : Nat) (c : Context) : Closing :=
  { handle := n, inst := c.inst, face := c.egress, first := c.first, count := c.count,
    outstanding := c.work.outstanding, stop := c.work.dithering, block := true }

/-- The state with `x` kept behind the other blocking work. -/
def keepClosing (x : Closing) (s : State) : State :=
  { s with table := { s.table with closings := s.table.closings ++ [x] } }

/-- R86: the record at `n` (which is `c`) gone with its span, and `x` kept of its blocking work. -/
def maintFreed (n : Nat) (c : Context) (x : Closing) (s : State) : State :=
  let t := freeSpan n c.ingress c.egress c.first c.count s
  ({ t with table := { t.table with closings := s.table.closings ++ [x] } } : State).setCtx n none

section
variable {s : State} {n i : Nat} {x : Closing} (hx : closingOf s n i = some x)
include hx

theorem pumpClosing_of_outstanding (ho : x.outstanding = true) : pumpClosing n i s = s := by
  simp only [pumpClosing, hx, ho, if_true]

theorem pumpClosing_stop (ho : x.outstanding = false) (hs : x.stop = true) :
    pumpClosing n i s = handOver .ramp (s.faceSet x.face).wss .ditherStop false x.first x.count (.ctx n i .closing)
      (setClosing n i (fun x => some { x with outstanding := true, stop := false }) s) := by
  simp only [pumpClosing, hx, ho, hs, if_true, Bool.false_eq_true, if_false]

theorem pumpClosing_block (ho : x.outstanding = false) (hs : x.stop = false) (hb : x.block = true) :
    pumpClosing n i s = handOver .ramp (s.faceSet x.face).wss .setBlock false x.first x.count (.ctx n i .closing)
      (setClosing n i (fun x => some { x with outstanding := true, block := false }) s) := by
  simp only [pumpClosing, hx, ho, hs, hb, if_true, Bool.false_eq_true, if_false]

end

section
variable {s : State} {n : Nat} {c : Context}

/-- The span is freed alike whatever blocking work is kept. -/
theorem freeSpan_keepClosing (x : Closing) (ing eg first count : Nat) :
    freeSpan n ing eg first count (keepClosing x s) =
      { keepClosing x s with dir := (freeSpan n ing eg first count s).dir } := by
  have dir_same : (freeSpan n ing eg first count (keepClosing x s)).dir = (freeSpan n ing eg first count s).dir :=
    freeSpan_dir_congr (s := keepClosing x s) (t := s) rfl ..
  rw [← dir_same]
  exact freeSpan_dirOnly ..

/-- R25, R86: the freeing of a PROBING record off the ramp, its blocking work kept. -/
theorem freeRecord_keepClosing (hoff : OffRamp n c s) (hst : c.st = .probing) (x : Closing) :
    freeRecord n c (keepClosing x s) = maintFreed n c x s := by
  have hoff' : OffRamp n c (keepClosing x s) := hoff
  rw [freeRecord_of_offRamp hoff', hst, freeSpan_keepClosing, maintFreed,
    freeSpan_dirOnly n c.ingress c.egress c.first c.count s]
  rfl

theorem closeMaint_eq (hoff : OffRamp n c s) (hst : c.st = .probing) :
    closeMaint n c s = pumpClosing n c.inst (maintFreed n c (c.closing n) s) :=
  congrArg (pumpClosing n c.inst) (freeRecord_keepClosing hoff hst (c.closing n))

/-- What a bus request's placing reads is left by the close. -/
theorem Placeable.maintFreed {cl : BusClass} {field : Option Nat} {e : Nat} (h : Placeable cl field e s) (x : Closing) :
    Placeable cl field e (maintFreed n c x s) := by
  have bus_same : (Machine.maintFreed n c x s).bus = s.bus :=
    (freeSpan_dirOnly n c.ingress c.egress c.first c.count s).bus
  unfold Placeable State.elem at h ⊢
  rwa [bus_same]

theorem maintFreed_faceSet (x : Closing) (f : Nat) : (maintFreed n c x s).faceSet f = s.faceSet f :=
  congrArg (fun r : RampEngine => r.settings.get f) (freeSpan_dirOnly n c.ingress c.egress c.first c.count s).ramp

section
variable (hnew : ∀ x ∈ s.table.closings, ¬(x.handle = n ∧ x.inst = c.inst)) {x : Closing} (hn : x.handle = n)
  (hi : x.inst = c.inst)
include hnew hn hi

/-- The closing just kept is the one found under its handle and number. -/
theorem closingOf_maintFreed : closingOf (maintFreed n c x s) n c.inst = some x := by
  have others : s.table.closings.find? (fun x => x.handle = n && x.inst = c.inst) = none :=
    List.find?_eq_none.2 fun y hy => by simpa using hnew y hy
  change (s.table.closings ++ [x]).find? _ = some x
  rw [List.find?_append, others]
  simp [hn, hi]

/-- A change of the closing just kept leaves the others. -/
theorem setClosing_maintFreed (g : Closing → Closing) :
    setClosing n c.inst (fun y => some (g y)) (maintFreed n c x s) = maintFreed n c (g x) s := by
  have others : s.table.closings.filterMap
      (fun y => if y.handle = n && y.inst = c.inst then some (g y) else some y) = s.table.closings := by
    rw [List.filterMap_congr (g := some) fun z hz => if_neg (by simpa using hnew z hz), List.filterMap_some]
  have changed : (s.table.closings ++ [x]).filterMap
      (fun y => if y.handle = n && y.inst = c.inst then some (g y) else some y) = s.table.closings ++ [g x] := by
    rw [List.filterMap_append, others]
    simp [hn, hi]
  rw [maintFreed, maintFreed, ← changed]
  rfl

end

section
variable (hoff : OffRamp n c s) (hst : c.st = .probing)
  (hnew : ∀ x ∈ s.table.closings, ¬(x.handle = n ∧ x.inst = c.inst))
include hoff hst hnew

/-- R86: a request still outstanding is waited for. -/
theorem closeMaint_of_outstanding (ho : c.work.outstanding = true) :
    closeMaint n c s = maintFreed n c (c.closing n) s := by
  have kept := closingOf_maintFreed hnew (x := c.closing n) rfl rfl
  rw [closeMaint_eq hoff hst, pumpClosing_of_outstanding kept ho]

section
variable {e : Nat} (hplace : Placeable .ramp (s.faceSet c.egress).wss e s) (ho : c.work.outstanding = false)
include hplace ho

/-- R86: a dithering head's DITHER-STOP goes before the SET-BLOCK. -/
theorem closeMaint_of_dithering (hd : c.work.dithering = true) :
    closeMaint n c s = place .ramp e .ditherStop false c.first c.count (.ctx n c.inst .closing)
      (maintFreed n c { c.closing n with outstanding := true, stop := false } s) := by
  have kept := closingOf_maintFreed hnew (x := c.closing n) rfl rfl
  rw [closeMaint_eq hoff hst, pumpClosing_stop kept ho hd, setClosing_maintFreed hnew rfl rfl, maintFreed_faceSet]
  exact handOver_of_placeable (hplace.maintFreed _) ..

/-- R86: with no dither the SET-BLOCK is asked at once. -/
theorem closeMaint_of_idle (hd : c.work.dithering = false) :
    closeMaint n c s = place .ramp e .setBlock false c.first c.count (.ctx n c.inst .closing)
      (maintFreed n c { c.closing n with outstanding := true, block := false } s) := by
  have kept := closingOf_maintFreed hnew (x := c.closing n) rfl rfl
  rw [closeMaint_eq hoff hst, pumpClosing_block kept ho hd rfl, setClosing_maintFreed hnew rfl rfl, maintFreed_faceSet]
  exact handOver_of_placeable (hplace.maintFreed _) ..

end
end
end

/-- Settles O29: the next request by what waits, then the close by what is outstanding and whether the head dithers. -/
theorem probeAndClosingWorkAsked : Obligations.ProbeAndClosingWorkAsked := by
  refine ⟨fun n c e s hc hplace => ?_, fun n c e s hc hoff hst hplace hnew => ?_⟩
  · have placed (t : Txn) (p : Purpose) (d : Context) : askWss .ramp t false p n c (s.setCtx n (some d)) =
        place .ramp e t false c.first c.count (.ctx n c.inst p) (s.setCtx n (some d)) :=
      handOver_of_placeable (s := s.setCtx n (some d)) hplace ..
    exact ⟨pumpProbe_of_outstanding hc, fun ho k hk => (pumpProbe_level hc ho hk).trans (placed ..),
      fun ho hl hs => (pumpProbe_start hc ho hl hs).trans (placed ..),
      fun ho hl hs hp => (pumpProbe_stop hc ho hl hs hp).trans (placed ..), pumpProbe_of_none_waiting hc⟩
  · intro freed
    refine ⟨fun ho hd => ?_, fun ho hd => ?_, fun ho => ?_⟩
    · rw [closeMaint_of_idle hoff hst hnew hplace ho hd, Context.closing, hd]
      rfl
    · exact closeMaint_of_dithering hoff hst hnew hplace ho hd
    · rw [closeMaint_of_outstanding hoff hst hnew ho, Context.closing, ho]
      rfl

end Sys2Proof.Machine
end

section
/-! CERTIFICATE. Bursts and the validation of a pilot (O24, O25). -/
namespace Sys2Proof.Machine

/-! ## The runs (R81 to R83) -/

/-- R81: a burst at `now` follows its predecessor within the spacing window. -/
theorem withinWindow_iff (lo hi : Nat) (last : Option Nat) (now : Nat) :
    withinWindow lo hi last now = true ↔ ∃ t, last = some t ∧ t + lo ≤ now ∧ now ≤ t + hi := by
  cases last <;> simp [withinWindow]

section
variable {w : Watch} {g lo hi now : Nat}

theorem runBurst_extends (hr : 0 < w.run) (hw : withinWindow lo hi w.lastRun now = true) :
    w.runBurst lo hi now = { w with run := w.run + 1, lastRun := some now } := by
  simp only [Watch.runBurst, hr, hw, decide_true, Bool.and_self, if_true]

theorem runBurst_restarts (hno : w.run = 0 ∨ ¬withinWindow lo hi w.lastRun now = true) :
    w.runBurst lo hi now = { w with run := 1, lastRun := some now } := by
  rcases hno with hno | hno <;> simp [Watch.runBurst, hno]

theorem misrouteBurst_extends (hr : 0 < w.misrun) (hf : w.misFace = some g)
    (hw : withinWindow lo hi w.lastMis now = true) :
    w.misrouteBurst g lo hi now = { w with misrun := w.misrun + 1, lastMis := some now, misFace := some g } := by
  simp only [Watch.misrouteBurst, hr, hf, hw, decide_true, beq_self_eq_true, Bool.and_self, if_true]

theorem misrouteBurst_restarts
    (hno : w.misrun = 0 ∨ w.misFace ≠ some g ∨ ¬withinWindow lo hi w.lastMis now = true) :
    w.misrouteBurst g lo hi now = { w with misrun := 1, lastMis := some now, misFace := some g } := by
  rcases hno with hno | hno | hno <;> simp [Watch.misrouteBurst, hno]

end

/-! ## One burst -/

section
variable {s : State} {g code n : Nat} {c : Context} {w : Watch} (hw : watchOf s code = some (n, c, w))
include hw

section
variable (hc : s.ctx n = some c)
include hc

/-- R82: a burst on the watched face that does not complete the run. -/
theorem takeBurst_run (hg : c.ingress = g) {v : Watch}
    (hv : w.runBurst (s.faceSet g).spacingMin (s.faceSet g).spacingMax s.now = v) (hrun : v.run ≤ 3) :
    takeBurst g code s = s.setCtx n (some { c with watch := some v }) := by
  simp only [takeBurst, hw, hg, if_true, hv, if_neg (show ¬4 ≤ v.run by omega), State.modCtx_of_some s hc]

/-- R83: a burst on another face that does not complete the misroute run. -/
theorem takeBurst_misroute (hg : c.ingress ≠ g) {v : Watch}
    (hv : w.misrouteBurst g (s.faceSet g).spacingMin (s.faceSet g).spacingMax s.now = v) (hrun : v.misrun ≤ 3) :
    takeBurst g code s = s.setCtx n (some { c with watch := some v }) := by
  simp only [takeBurst, hw, hg, if_false, hv, if_neg (show ¬4 ≤ v.misrun by omega), State.modCtx_of_some s hc]

/-- R83: the fourth burst of a misroute run. -/
theorem takeBurst_faults (hg : c.ingress ≠ g) {v : Watch}
    (hv : w.misrouteBurst g (s.faceSet g).spacingMin (s.faceSet g).spacingMax s.now = v) (hrun : 4 ≤ v.misrun) :
    takeBurst g code s = localFault n c .misroute (s.setCtx n (some { c with watch := some v })) := by
  simp only [takeBurst, hw, hg, if_false, hv, hrun, if_true, State.modCtx_of_some s hc]

end

/-- R82: the fourth burst of an unbroken run. -/
theorem takeBurst_validates (hg : c.ingress = g) {v : Watch}
    (hv : w.runBurst (s.faceSet g).spacingMin (s.faceSet g).spacingMax s.now = v) (hrun : 4 ≤ v.run) :
    takeBurst g code s = validate n c s := by
  simp only [takeBurst, hw, hg, if_true, hv, hrun]

end

/-- R84: a burst whose code no watch holds. -/
theorem takeBurst_stray {s : State} {g code : Nat} (hw : watchOf s code = none) :
    takeBurst g code s = { s with stray := s.stray.mod g bump } := by
  simp only [takeBurst, hw]

/-- Settles O24: by the face of the burst and by whether it extends its run. -/
theorem burstsJudgedAgainstWatches : Obligations.BurstsJudgedAgainstWatches := by
  intro f code s hr
  have taken {t : State} (ht : takeBurst f code.toNat s = t) (hw : t.work = s.work) (htold : t.told = s.told)
      (hb : t.bus = s.bus) : exec (.burstReport f code) s = .next t := by
    refine congrArg Host.Outcome.next ?_
    rw [ht, endTake_of_eq hr hw htold hb]
  refine ⟨fun hw => taken (takeBurst_stray hw) rfl rfl rfl, fun n c w hw hc => ?_⟩
  intro inWindow
  have hin (last : Option Nat) :
      withinWindow (s.faceSet f).spacingMin (s.faceSet f).spacingMax last s.now = true ↔ inWindow last :=
    withinWindow_iff ..
  refine ⟨fun hg h0 hl h3 => ?_, fun hg hno => ?_, fun hg h0 hf hl h3 => ?_, fun hg hno => ?_, fun hg h3 hf hl => ?_⟩
  · exact taken (takeBurst_run hw hc hg (runBurst_extends h0 ((hin _).2 hl)) h3) rfl rfl rfl
  · exact taken (takeBurst_run hw hc hg (runBurst_restarts (hno.imp_right (hin _).not.2)) (by simp)) rfl rfl rfl
  · exact taken (takeBurst_misroute hw hc hg (misrouteBurst_extends h0 hf ((hin _).2 hl)) h3) rfl rfl rfl
  · exact taken (takeBurst_misroute hw hc hg (misrouteBurst_restarts (hno.imp_right (.imp_right (hin _).not.2)))
      (by simp)) rfl rfl rfl
  · have fourth := misrouteBurst_extends (by omega) hf ((hin _).2 hl)
    exact congrArg (fun t => Host.Outcome.next (endTake t)) (takeBurst_faults hw hc hg fourth (Nat.succ_le_succ h3))

/-! ## The validated pilot (R77) -/

/-- R35: a PROBING record may as well arm before a frame is sent. -/
theorem arm_sendOn {c : Context} (hst : c.st = .probing) (n : Nat) (p : Option Nat) (k : FrameKind) (b : List Byte)
    (s : State) : changeState n c .armed (sendOn p k b s) = sendOn p k b (changeState n c .armed s) := by
  unfold changeState
  rw [hst]
  cases p <;> rfl

section
variable {s : State} {n : Nat} {c : Context} (hc : s.ctx n = some c)
include hc

theorem validate_transit (hrole : c.role = .transit) :
    validate n c s = sendOn c.downPort .probe (probeBody c.lpId c.probeLevel)
      (s.setCtx n (some { c with watch := none, pilotValidated := true, probeTimer := none })) := by
  simp only [validate, hrole, State.modCtx_of_some s hc]

/-- R77, R86: a MAINT tail. -/
theorem validate_maint (hrole : c.role = .tail) (hcls : c.cls = .maint) :
    validate n c s = closeMaint n c (sendOn c.upPort .probeAck (probeAckBody c.lpId c.probeLevel true)
      (s.setCtx n (some { c with watch := none, pilotValidated := true, probeTimer := none }))) := by
  simp only [validate, hrole, hcls, State.modCtx_of_some s hc]

/-- R35, R77: a tail of another class arms under the arm timeout. -/
theorem validate_tail (hrole : c.role = .tail) (hcls : c.cls ≠ .maint) (hst : c.st = .probing) :
    validate n c s = sendOn c.upPort .probeAck (probeAckBody c.lpId c.probeLevel false)
      (s.setCtx n (some { c with
        watch := none, pilotValidated := true, probeTimer := none, st := .armed,
        deadline := some (s.now + 1000 * (s.profile c.profile).armTimeout) })) := by
  have arms : validate n c s = changeState n c .armed
      (sendOn c.upPort .probeAck (probeAckBody c.lpId c.probeLevel false)
        (s.modCtx n fun c => { c with watch := none, pilotValidated := true, probeTimer := none })) := by
    unfold validate
    rw [hrole]
    cases hcls' : c.cls with
    | maint => exact absurd hcls' hcls
    | planned => rfl
    | restore => rfl
  rw [arms, State.modCtx_of_some s hc, arm_sendOn hst, changeState_setCtx, hst]
  simp [Context.enter, deadlineIn]

end

/-- Settles O25, by the role and class of the record. -/
theorem fourthBurstValidatesPilot : Obligations.FourthBurstValidatesPilot := by
  intro f code n c w t0 s hr hw hc hg h3 hlast hlo hhi
  have fourth := runBurst_extends (w := w) (by omega) ((withinWindow_iff ..).2 ⟨t0, hlast, hlo, hhi⟩)
  have taken : exec (.burstReport f code) s = .next (endTake (validate n c s)) :=
    congrArg (fun t => Host.Outcome.next (endTake t)) (takeBurst_validates hw hg fourth (Nat.succ_le_succ h3))
  rw [taken]
  refine ⟨fun hrole d hd => ?_, fun hrole hcls hst u hu => ?_, fun hrole hcls u hu => ?_⟩
  · rw [validate_transit hc hrole, hd]
    exact congrArg Host.Outcome.next (endTake_of_eq hr rfl rfl rfl)
  · rw [validate_tail hc hrole hcls hst, hu]
    exact congrArg Host.Outcome.next (endTake_of_eq hr rfl rfl rfl)
  · rw [validate_maint hc hrole hcls, hu]
    rfl

end Sys2Proof.Machine
end

section
/-! CERTIFICATE. PROBE at a transit or tail (O26). -/
namespace Sys2Proof.Machine

/-- A frame on an UP link with a body that passes is taken by its rule, which ends the take. -/
theorem endTake_onLink {h : Hdr} {s : State} (hl : OnLink h s) {α : Type} {parsed : Option α} {x : α}
    (hp : parsed = some x) {k : α → State → State} {t : State} (ht : k x (countRx h.port s) = t) :
    (.next (endTake (receive h.port false (commissioning h parsed k) s)) : Host.Outcome State Fault Refusal) =
      .next (endTake t) := by
  rw [hp, receive_commissioning hl, ht]

/-- A take whose rule ends with a frame sent from a state at rest ends there. -/
theorem take_sent {h : Hdr} {s : State} (hl : OnLink h s) {α : Type} {parsed : Option α} {x : α}
    (hp : parsed = some x) {k : α → State → State} {t u : State} (ht : k x (countRx h.port s) = t) (hu : AtRest u)
    (hframe : t = { u with ports := t.ports }) :
    (.next (endTake (receive h.port false (commissioning h parsed k) s)) : Host.Outcome State Fault Refusal) =
      .next t := by
  have rested : AtRest t := by
    rw [hframe]
    exact hu
  rw [endTake_onLink hl hp ht, endTake_of_atRest rested]

/-- R69: the record that stands at the handle takes a level and asks what it can. -/
theorem takeLevel_of_some {s : State} {n : Nat} {c : Context} (hc : s.ctx n = some c) (k : Nat) :
    takeLevel n k s = pumpProbe n (s.setCtx n (some { c with probeLevel := k, work := c.work.wantLevel k })) := by
  rw [takeLevel, State.modCtx_of_some s hc]

theorem takeLevel_setCtx (s : State) (n : Nat) (c : Context) (k : Nat) :
    takeLevel n k (s.setCtx n (some c)) =
      pumpProbe n (s.setCtx n (some { c with probeLevel := k, work := c.work.wantLevel k })) := by
  rw [takeLevel, State.modCtx_setCtx, Option.map_some]

/-! ## PROBE (R75, R80) -/

section
variable {h : Hdr} {body : List Byte} {k n : Nat} {c : Context} {s : State}

/-- R68: the PROBE comes to a transit or tail over its upstream port, not below the record's level. -/
def ProbeComes (h : Hdr) (k : Nat) (c : Context) : Prop :=
  c.role ≠ .head ∧ c.upPort = some h.port.val ∧ c.probeLevel ≤ k

section
variable {id : Nat} (hfind : findLp s id = some (n, c))
include hfind

theorem takeProbeFrame_probing (hcomes : ProbeComes h k c) (hst : c.st = .reserved ∨ c.st = .probing) :
    takeProbeFrame h body (id, k) s = takeProbe h body n c k s := by
  simp only [takeProbeFrame, hfind]
  refine (if_pos hcomes).trans ?_
  rcases hst with hst | hst <;> rw [hst]

theorem takeProbeFrame_armed (hcomes : ProbeComes h k c) (hst : c.st = .armed) :
    takeProbeFrame h body (id, k) s = answerArmed h body n c k s := by
  simp only [takeProbeFrame, hfind]
  refine (if_pos hcomes).trans ?_
  rw [hst]

/-- R68: any other PROBE. -/
theorem takeProbeFrame_stray (hno : ¬ProbeComes h k c ∨ (c.st ≠ .reserved ∧ c.st ≠ .probing ∧ c.st ≠ .armed)) :
    takeProbeFrame h body (id, k) s = stray s := by
  simp only [takeProbeFrame, hfind]
  rcases hno with hno | ⟨hreserved, hprobing, harmed⟩
  · exact if_neg hno
  · cases hst : c.st <;> simp_all

end

/-- R75, R80: what follows a PROBE(k) that a validated or ARMED record takes. -/
def probeAnswer (h : Hdr) (body : List Byte) (k : Nat) (c : Context) (s : State) : State :=
  match c.role with
  | .transit => relay c.downPort .probe h body s
  | .tail => sendOn c.upPort .probeAck (e32 c.lpId ++ e8 k ++ e8 0) s
  | .head => s

/-- The answer changes ports alone. -/
theorem probeAnswer_frame (h : Hdr) (body : List Byte) (k : Nat) (c : Context) (s : State) :
    probeAnswer h body k c s = { s with ports := (probeAnswer h body k c s).ports } := by
  unfold probeAnswer
  cases c.role
  exacts [rfl, relay_frame .., sendOn_frame ..]

section
variable (hc : s.ctx n = some c)
include hc

/-- R35, R75: a record that was RESERVED or PROBING takes the level in PROBING and opens its window. -/
theorem takeProbe_unvalidated (hst : c.st = .reserved ∨ c.st = .probing) (hv : c.pilotValidated = false) :
    takeProbe h body n c k s = pumpProbe n (s.setCtx n (some { c with
      st := .probing, probeLevel := k, work := c.work.wantLevel k,
      watch := some (if c.st = .probing then c.watch.getD Watch.created else Watch.created),
      probeTimer := some (s.now + (s.profile c.profile).probeWindow) })) := by
  have opens : takeProbe h body n c k s =
      openWindow n (takeLevel n k (if c.st = .reserved then changeState n c .probing s else s)) := by
    simp only [takeProbe, hv, Bool.false_eq_true, if_false]
    rfl
  rw [opens]
  rcases hst with hst | hst
  · have entered : changeState n c .probing s = s.setCtx n (some { c with st := .probing, watch := none }) := by
      rw [changeState_of_some hc, hst]
      simp [Context.enter, deadlineIn, hst]
    rw [if_pos hst, entered, takeLevel_setCtx, openWindow_pumpProbe]
    simp [Context.watched, hst]
  · rw [if_neg (by simp [hst]), takeLevel_of_some hc, openWindow_pumpProbe]
    simp [Context.watched, hst]

/-- R75: a validated transit sends the PROBE on. -/
theorem takeProbe_validated (hst : c.st = .probing) (hv : c.pilotValidated = true) (hrole : c.role = .transit) :
    takeProbe h body n c k s = probeAnswer h body k c
      (pumpProbe n (s.setCtx n (some { c with probeLevel := k, work := c.work.wantLevel k }))) := by
  have no_change : ¬c.st = .reserved := by simp [hst]
  have relays (t : State) : probeAnswer h body k c t = relay c.downPort .probe h body t := by
    simp only [probeAnswer, hrole]
  simp only [takeProbe, if_neg no_change, hv, hrole, if_true, takeLevel_of_some hc, relays]

end

theorem answerArmed_sameLevel (hk : c.probeLevel = k) : answerArmed h body n c k s = probeAnswer h body k c s := by
  rw [answerArmed, if_neg (by omega)]
  rfl

theorem answerArmed_higher (hc : s.ctx n = some c) (hk : c.probeLevel < k) :
    answerArmed h body n c k s = probeAnswer h body k c
      (pumpProbe n (s.setCtx n (some { c with probeLevel := k, work := c.work.wantLevel k }))) := by
  rw [answerArmed, if_pos hk, takeLevel_of_some hc]
  rfl

end

/-- Settles O26, by the state of the record that the PROBE comes to. -/
theorem probeTaken : Obligations.ProbeTaken := by
  intro h body id k n c s hr hl hp hfind hc comes wanted answer
  have hfind' : findLp (countRx h.port s) id = some (n, c) := hfind
  have hc' : (countRx h.port s).ctx n = some c := hc
  refine ⟨fun hcomes hst hv => ?_, fun hcomes hst hv hrole => ?_, fun hcomes hst hk => ?_, fun hcomes hst hk => ?_,
    fun hno => ?_⟩
  · exact endTake_onLink hl hp ((takeProbeFrame_probing hfind' hcomes hst).trans (takeProbe_unvalidated hc' hst hv))
  · exact endTake_onLink hl hp ((takeProbeFrame_probing hfind' hcomes (.inr hst)).trans
      (takeProbe_validated hc' hst hv hrole))
  · have answered := (takeProbeFrame_armed (body := body) hfind' hcomes hst).trans (answerArmed_sameLevel hk)
    exact take_sent hl hp answered (hr.of_eq (t := countRx h.port s) rfl rfl rfl) (probeAnswer_frame ..)
  · exact endTake_onLink hl hp ((takeProbeFrame_armed hfind' hcomes hst).trans (answerArmed_higher hc' hk))
  · exact take_onLink hr hl hp (takeProbeFrame_stray (body := body) hfind' hno) rfl rfl rfl

end Sys2Proof.Machine
end

section
/-! CERTIFICATE. PROBE-ACK at a transit and at the head (O27). -/
namespace Sys2Proof.Machine

/-- R68: a PROBE-ACK in the terms of the statements. -/
theorem ackFits_iff (c : Context) (port k : Nat) (v : Bool) :
    ackFits c port k v = true ↔ c.downPort = some port ∧ c.probeLevel = k ∧ (v = true ↔ c.cls = .maint) := by
  have verify : (v == (c.cls == .maint)) = true ↔ (v = true ↔ c.cls = .maint) := by
    rw [beq_iff_eq, Bool.eq_iff_iff, beq_iff_eq]
  rw [ackFits, Bool.and_eq_true, Bool.and_eq_true, beq_iff_eq, beq_iff_eq, verify, and_assoc]

/-- R35: the record ARMED at `now` under its profile's arm timeout. -/
def Context.armedAt (c : Context) (p : Profile) (now : Nat) : Context :=
  { c with st := .armed, deadline := some (now + 1000 * p.armTimeout), watch := none }

/-- R35: a PROBING record arms. -/
theorem changeState_armed {s : State} {n : Nat} {c : Context} (hc : s.ctx n = some c) (hst : c.st = .probing) :
    changeState n c .armed s = s.setCtx n (some (c.armedAt (s.profile c.profile) s.now)) := by
  rw [changeState_of_some hc, hst]
  simp [Context.enter, Context.armedAt, deadlineIn, hst]

/-- R73: the head arms, ends its probe work and joins its ramp queue. -/
theorem armHead_eq {s : State} {n : Nat} {c : Context} (hc : s.ctx n = some c) (hst : c.st = .probing) :
    armHead n c s = joinRamp n c (pumpProbe n (s.setCtx n (some
      { c.armedAt (s.profile c.profile) s.now with probeTimer := none, work := c.work.finish }))) := by
  rw [armHead, changeState_armed hc hst, State.modCtx_setCtx]
  rfl

/-! ## Who takes it (R73, R78, R80, R87, R88) -/

section
variable {h : Hdr} {body : List Byte} {id k n : Nat} {v : Bool} {c : Context} {s : State}
  (hfind : findLp s id = some (n, c))
include hfind

section
variable (hfits : ackFits c h.port k v = true)
include hfits

theorem takeProbeAck_transit_arms (hrole : c.role = .transit) (hst : c.st = .probing) (hv : c.pilotValidated = true)
    (hcls : c.cls ≠ .maint) :
    takeProbeAck h body (id, k, v) s = relay c.upPort .probeAck h body (changeState n c .armed s) := by
  simp only [takeProbeAck, hfind, hfits, hrole, hst, hv, if_true]

theorem takeProbeAck_transit_relays (hrole : c.role = .transit) (hst : c.st = .armed) (hcls : c.cls ≠ .maint) :
    takeProbeAck h body (id, k, v) s = relay c.upPort .probeAck h body s := by
  simp only [takeProbeAck, hfind, hfits, hrole, hst, if_true]

theorem takeProbeAck_transit_closes (hrole : c.role = .transit) (hst : c.st = .probing) (hv : c.pilotValidated = true)
    (hcls : c.cls = .maint) :
    takeProbeAck h body (id, k, v) s = relay c.upPort .probeAck h body (closeMaint n c s) := by
  simp only [takeProbeAck, hfind, hfits, hrole, hst, hv, hcls, if_true]

theorem takeProbeAck_head_arms (hrole : c.role = .head) (hst : c.st = .probing) (hcls : c.cls ≠ .maint) :
    takeProbeAck h body (id, k, v) s = armHead n c s := by
  simp only [takeProbeAck, hfind, hfits, hrole, hst, if_true]

theorem takeProbeAck_head_closes (hrole : c.role = .head) (hst : c.st = .probing) (hcls : c.cls = .maint) :
    takeProbeAck h body (id, k, v) s = closeHead n c s := by
  simp only [takeProbeAck, hfind, hfits, hrole, hst, hcls, if_true]

end

/-- R68: any other PROBE-ACK. -/
theorem takeProbeAck_stray (hno : ¬ackFits c h.port k v = true ∨ c.role = .tail ∨
      (c.st ≠ .probing ∧ c.st ≠ .armed) ∨ (c.role = .head ∧ c.st = .armed) ∨
      (c.role = .transit ∧ c.st = .probing ∧ c.pilotValidated = false) ∨ (c.cls = .maint ∧ c.st = .armed)) :
    takeProbeAck h body (id, k, v) s = stray s := by
  simp only [takeProbeAck, hfind]
  rcases hno with hno | htail | ⟨hprobing, harmed⟩ | ⟨hrole, hst⟩ | ⟨hrole, hst, hv⟩ | ⟨hcls, hst⟩
  · exact if_neg hno
  · simp only [htail, ite_self]
  · cases hst : c.st
    case probing => exact absurd hst hprobing
    case armed => exact absurd hst harmed
    all_goals cases c.role <;> exact ite_self _
  · simp only [hrole, hst, ite_self]
  · cases hcls : c.cls <;> simp only [hrole, hst, hv, Bool.false_eq_true, if_false, ite_self]
  · cases hrole : c.role <;> simp only [hcls, hst, ite_self]

end

/-- Settles O27: the acks that fit, by role, state and class, and the stray ones. -/
theorem probeAckTaken : Obligations.ProbeAckTaken := by
  intro h body id k n v c s hr hl hp hfind hc fits relayed armed ended
  have hfits : ackFits c h.port k v = true ↔ fits := ackFits_iff ..
  have hfind' : findLp (countRx h.port s) id = some (n, c) := hfind
  have hc' : (countRx h.port s).ctx n = some c := hc
  have rested : AtRest (countRx h.port s) := hr.of_eq rfl rfl rfl
  refine ⟨fun hf hrole hst hv hcls => ?_, fun hf hrole hst hcls => ?_, fun hf hrole hst hv hcls => ?_,
    fun hf hrole hst hcls => ?_, fun hf hrole hst hcls => ?_, fun hno => ?_⟩
  · have arms := takeProbeAck_transit_arms (body := body) hfind' (hfits.2 hf) hrole hst hv hcls
    rw [changeState_armed hc' hst] at arms
    exact take_sent hl hp arms (rested.of_eq (t := (countRx h.port s).setCtx n (some armed)) rfl rfl rfl)
      (relay_frame ..)
  · exact take_sent hl hp (takeProbeAck_transit_relays hfind' (hfits.2 hf) hrole hst hcls) rested (relay_frame ..)
  · exact endTake_onLink hl hp (takeProbeAck_transit_closes hfind' (hfits.2 hf) hrole hst hv hcls)
  · exact endTake_onLink hl hp ((takeProbeAck_head_arms hfind' (hfits.2 hf) hrole hst hcls).trans (armHead_eq hc' hst))
  · exact endTake_onLink hl hp (takeProbeAck_head_closes hfind' (hfits.2 hf) hrole hst hcls)
  · exact take_onLink hr hl hp (takeProbeAck_stray (body := body) hfind' (hno.imp_left hfits.not.2)) rfl rfl rfl

end Sys2Proof.Machine
end

section
/-! CERTIFICATE. PROBE-NAK, the probe dwell and the probe window (O28). -/
namespace Sys2Proof.Machine

/-! ## The ladder (R72) -/

section
variable {s : State} {n : Nat} {c : Context}

/-- R72: below level 3 the head takes the next level, restarts its dwell and sends PROBE. -/
theorem stepLadder_steps (hc : s.ctx n = some c) (hk : c.probeLevel < 3) :
    stepLadder n c s = sendOn c.downPort .probe (probeBody c.lpId (c.probeLevel + 1))
      (pumpProbe n (s.setCtx n (some { c with
        probeLevel := c.probeLevel + 1, probeTimer := some (s.now + (s.profile c.profile).probeDwell),
        work := c.work.wantLevel (c.probeLevel + 1) }))) := by
  simp only [stepLadder, if_pos hk, State.modCtx_of_some s hc, takeLevel_setCtx]

theorem stepLadder_faults (hk : 3 ≤ c.probeLevel) : stepLadder n c s = localFault n c .probeUnseen s :=
  if_neg (by omega)

end

/-! ## PROBE-NAK (R72, R79) -/

section
variable {h : Hdr} {body : List Byte} {id k node n : Nat} {c : Context} {s : State} (hfind : findLp s id = some (n, c))
include hfind

section
variable (hfits : c.downPort = some h.port.val ∧ c.st = .probing)
include hfits

theorem takeProbeNak_transit (hrole : c.role = .transit) :
    takeProbeNak h body (id, k, node) s = relay c.upPort .probeNak h body s := by
  simp only [takeProbeNak, hfind, hfits, and_self, if_true, hrole]

theorem takeProbeNak_head (hrole : c.role = .head) (hk : c.probeLevel = k) :
    takeProbeNak h body (id, k, node) s = stepLadder n c s := by
  simp only [takeProbeNak, hfind, hfits, and_self, if_true, hrole, hk]

end

/-- R68: any other PROBE-NAK. -/
theorem takeProbeNak_stray (hno : ¬(c.downPort = some h.port.val ∧ c.st = .probing) ∨ c.role = .tail ∨
      (c.role = .head ∧ c.probeLevel ≠ k)) :
    takeProbeNak h body (id, k, node) s = stray s := by
  simp only [takeProbeNak, hfind]
  rcases hno with hno | htail | ⟨hrole, hk⟩
  · exact if_neg hno
  · simp only [htail, ite_self]
  · simp only [hrole, hk, if_false, ite_self]

end

/-! ## The two timers (R72, R76) -/

section
variable {s : State} {n inst : Nat} {c : Context} (hc : s.ctx n = some c)
include hc

/-- R22: an expiry finds the record while it holds the number. -/
theorem current_eq : current s n inst = if c.inst = inst then some c else none := by
  simp only [current, hc, Option.filter_some, decide_eq_true_eq]

theorem probeDwellExpired_eq : probeDwellExpired n inst s =
    if c.inst = inst ∧ c.st = .probing ∧ c.role = .head ∧ due c.probeTimer s.now = true then stepLadder n c s
    else s := by
  rw [probeDwellExpired, current_eq hc]
  by_cases hi : c.inst = inst <;> simp only [hi, true_and, false_and, if_true, if_false]

theorem probeWindowExpired_eq : probeWindowExpired n inst s =
    if c.inst = inst ∧ c.st = .probing ∧ c.role ≠ .head ∧ c.pilotValidated = false ∧ due c.probeTimer s.now = true then
      sendOn c.upPort .probeNak (probeNakBody c.lpId c.probeLevel s.switch.nodeId)
        (s.setCtx n (some { c with probeTimer := none }))
    else s := by
  rw [probeWindowExpired, current_eq hc, ← State.modCtx_of_some s hc fun c => { c with probeTimer := none }]
  by_cases hi : c.inst = inst <;> simp only [hi, true_and, false_and, if_true, if_false]

end

/-- Settles O28: the NAK by role and level, then the expiries that are due and those that are not. -/
theorem probeNakAndProbeTimers : Obligations.ProbeNakAndProbeTimers := by
  intro n c s hr hc stepped
  refine ⟨fun h body id k node hl hp hfind => ?_, fun i inst hi => ?_⟩
  · intro fits
    have hfind' : findLp (countRx h.port s) id = some (n, c) := hfind
    have hc' : (countRx h.port s).ctx n = some c := hc
    refine ⟨fun hf hrole => ?_, fun hf hrole hk h3 => ?_, fun hf hrole hk h3 => ?_, fun hno => ?_⟩
    · exact take_sent hl hp (takeProbeNak_transit hfind' hf hrole) (hr.of_eq (t := countRx h.port s) rfl rfl rfl)
        (relay_frame ..)
    · exact endTake_onLink hl hp ((takeProbeNak_head hfind' hf hrole hk).trans (stepLadder_steps hc' (by omega)))
    · exact endTake_onLink hl hp ((takeProbeNak_head hfind' hf hrole hk).trans (stepLadder_faults (by omega)))
    · exact take_onLink hr hl hp (takeProbeNak_stray (body := body) hfind' hno) rfl rfl rfl
  · subst hi
    intro dwellDue windowDue
    have hdwell : dwellDue ↔ c.inst = inst ∧ c.st = .probing ∧ c.role = .head ∧ due c.probeTimer s.now = true := by
      rw [due_iff]
    have hwindow : windowDue ↔ c.inst = inst ∧ c.st = .probing ∧ c.role ≠ .head ∧ c.pilotValidated = false ∧
        due c.probeTimer s.now = true := by
      rw [due_iff]
    have dwell : exec (.probeDwellExpiry i inst) s = .next (endTake (probeDwellExpired i inst s)) := rfl
    have window : exec (.probeWindowExpiry i inst) s = .next (probeWindowExpired i inst s) := rfl
    rw [dwell, window, probeDwellExpired_eq hc, probeWindowExpired_eq hc]
    refine ⟨fun hd hk => ?_, fun hd hk => ?_, fun hd => ?_, fun hd u hu => ?_, fun hd => ?_⟩
    · rw [if_pos (hdwell.1 hd), stepLadder_steps hc hk]
      rfl
    · rw [if_pos (hdwell.1 hd), stepLadder_faults hk]
    · rw [if_neg (hdwell.not.1 hd), endTake_of_atRest hr]
    · rw [if_pos (hwindow.1 hd), hu]
      rfl
    · rw [if_neg (hwindow.not.1 hd)]

end Sys2Proof.Machine
end

section
/-! SUPPORT. What Law 4 reads of a state: the turn and queue of each face, and each record's number, egress face and
state; and the operations that leave all of it, in the order of the model's files. -/
namespace Sys2Proof.Machine

/-! ## What Law 4 reads -/

/-- Number, egress face and state of a record. -/
def Context.place (c : Context) : Nat × Nat × CtxState := (c.inst, c.egress, c.st)

theorem Context.place_eq_iff {c d : Context} :
    c.place = d.place ↔ c.inst = d.inst ∧ c.egress = d.egress ∧ c.st = d.st := by simp [Context.place]

theorem Context.place_of_facts {c d : Context} (h : d.facts = c.facts) : d.place = c.place :=
  (congrArg Context.place h : d.facts.place = c.facts.place)

/-- Turn and queue of a face. -/
def RampFace.places (r : RampFace) : Option (Nat × Nat) × List QEntry := (r.turn, r.queue)

/-- The states agree in what Law 4 reads, but for the record at the handle that `x` names. -/
structure Places (x : Option Nat) (s t : State) : Prop where
  wf    : s.table.recs.wf → t.table.recs.wf
  recs  : ∀ k, some k ≠ x → (t.ctx k).map Context.place = (s.ctx k).map Context.place
  faces : ∀ f, (t.rampFace f).places = (s.rampFace f).places

section
variable {x : Option Nat} {s t u : State}

theorem Places.turn (h : Places x s t) (f : Nat) : (t.rampFace f).turn = (s.rampFace f).turn :=
  congrArg Prod.fst (h.faces f)

theorem Places.queue (h : Places x s t) (f : Nat) : (t.rampFace f).queue = (s.rampFace f).queue :=
  congrArg Prod.snd (h.faces f)

theorem Places.of_eq (hr : t.table.recs = s.table.recs) (hf : t.ramp.faces = s.ramp.faces) : Places x s t :=
  ⟨fun hw => hr ▸ hw, fun k _ => by rw [State.ctx, hr]; rfl, fun f => by rw [State.rampFace, hf]; rfl⟩

theorem Places.refl (s : State) : Places x s s := .of_eq rfl rfl

theorem Places.trans (h : Places x s t) (k : Places x t u) : Places x s u :=
  ⟨fun hw => k.wf (h.wf hw), fun j hj => (k.recs j hj).trans (h.recs j hj), fun f => (k.faces f).trans (h.faces f)⟩

/-- Of two operations in a row, named from the last one back. -/
theorem Places.after (k : Places x t u) (h : Places x s t) : Places x s u := h.trans k

theorem Places.ite {p : Prop} [Decidable p] (ht : Places x s t) (hu : Places x s u) :
    Places x s (if p then t else u) := by split_ifs <;> assumption

theorem Places.but (h : Places none s t) : Places x s t := ⟨h.wf, fun k _ => h.recs k nofun, h.faces⟩

theorem Places.dir (h : DirOnly s t) : Places x s t := .of_eq (by rw [h.table]) (by rw [h.ramp])

/-- A record's facts tell its place. -/
theorem Quiet.place {full : Prop} (h : Quiet full s t) (k : Nat) :
    (t.ctx k).map Context.place = (s.ctx k).map Context.place := by
  have told := congrArg (Option.map Context.place) (h.facts k)
  rw [Option.map_map, Option.map_map] at told
  exact told

/-- A write of a record that keeps the place of the one that stood there. -/
theorem Places.write {h : Nat} {c : Option Context} (hc : c.map Context.place = (s.ctx h).map Context.place) :
    Places x s (s.setCtx h c) where
  wf hw := Tab.wf_set hw h _
  recs k _ := by
    rw [State.setCtx_ctx]
    split_ifs with hk
    · rw [hc, hk]
    · rfl
  faces _ := rfl

theorem Places.modCtx {h : Nat} {g : Context → Context} (hg : ∀ c, (g c).place = c.place) : Places x s (s.modCtx h g) :=
  .write (by rw [Option.map_map, show Context.place ∘ g = Context.place from funext hg])

/-- Whatever is written at the handle excepted. -/
theorem Places.setCtx (s : State) (h : Nat) (c : Option Context) : Places (some h) s (s.setCtx h c) where
  wf hw := Tab.wf_set hw h _
  recs k hk := by rw [State.setCtx_ctx, if_neg fun e => hk (congrArg some e)]
  faces _ := rfl

theorem Places.modRamp {f : Nat} {g : RampFace → RampFace} (hg : (g (s.rampFace f)).places = (s.rampFace f).places) :
    Places x s (s.modRamp f g) where
  wf := id
  recs _ _ := rfl
  faces j := by
    rw [State.modRamp_rampFace]
    split_ifs with hj
    · rw [hg, hj]
    · rfl

end

section
variable {x : Option Nat} (s : State)

/-! ## Sending -/

theorem sendOn_places (p : Option Nat) (k : FrameKind) (b : List Byte) : Places x s (sendOn p k b s) := by
  rw [sendOn_frame]; exact .of_eq rfl rfl

theorem relay_places (p : Option Nat) (k : FrameKind) (h : Hdr) (b : List Byte) : Places x s (relay p k h b s) := by
  rw [relay_frame]; exact .of_eq rfl rfl

theorem event_places (b : List Byte) : Places x s (event b s) := by rw [event_frame]; exact .of_eq rfl rfl

theorem sendTold_places : Places x s (sendTold s) := by
  obtain ⟨p, r, h⟩ := sendTold_frame s
  rw [h]; exact .of_eq rfl rfl

theorem tellEvent_places (h : Nat) (b : List Byte) : Places x s (tellEvent h b s) := .of_eq rfl rfl

theorem forwardFrame_places (p : Nat) (f : Frame) : Places x s (forwardFrame p f s) := by
  rw [forwardFrame_frame]; exact .of_eq rfl rfl

/-! ## The element bus -/

theorem handOver_places (cl : BusClass) (e : Option Nat) (t : Txn) (d : Bool) (f n : Nat) (tag : Tag) :
    Places x s (handOver cl e t d f n tag s) := by rw [handOver_frame]; exact .of_eq rfl rfl

theorem askWss_places (cl : BusClass) (t : Txn) (d : Bool) (p : Purpose) (h : Nat) (c : Context) :
    Places x s (askWss cl t d p h c s) := handOver_places ..

theorem askMonitor_places (cl : BusClass) (p : Purpose) (h : Nat) (c : Context) :
    Places x s (askMonitor cl p h c s) := handOver_places ..

theorem arbitrate_places : Places x s (arbitrate s) := by
  unfold arbitrate
  split <;> exact .of_eq rfl rfl

theorem healthStep_places (e : Nat) (good : Bool) : Places x s (healthStep e good s) := by
  have failed (t : State) : Places x t (failQueued e t) := .of_eq rfl rfl
  unfold healthStep
  dsimp only
  exact .ite (.after (failed _) (.after (event_places ..) (.of_eq rfl rfl))) (.of_eq rfl rfl)

theorem endTxn_places (b : OnBus) (r : Result) : Places x s (endTxn b r s) := by
  have settled (e : Nat) (t : Txn) (u : State) : Places x u (startSettle e t u) := .ite (.of_eq rfl rfl) (.refl u)
  exact .after (settled ..) (.after (healthStep_places ..) (.of_eq rfl rfl))

/-! ## Steps in progress and audits (R99, R137) -/

theorem judgeAudit_places (f : Nat) : Places x s (judgeAudit f s) := by
  rw [judgeAudit_frame]; exact .of_eq rfl rfl

theorem clearStep_places (f : Nat) : Places x s (clearStep f s) :=
  .ite (.after (judgeAudit_places ..) (.modRamp rfl)) (.refl s)

/-! ## Probe work (R70, R86) -/

theorem pumpProbe_places (h : Nat) : Places x s (pumpProbe h s) := by
  have ask (t : Txn) (p : Purpose) (c : Context) {g : Context → Context} (hg : ∀ c, (g c).place = c.place) :
      Places x s (askWss .ramp t false p h c (s.modCtx h g)) := .after (askWss_places ..) (.modCtx hg)
  unfold pumpProbe
  split
  · exact .refl s
  refine .ite (.refl s) ?_
  split
  · exact ask _ _ _ fun _ => rfl
  · exact .ite (ask _ _ _ fun _ => rfl) (.ite (ask _ _ _ fun _ => rfl) (.refl s))

theorem takeLevel_places (h k : Nat) : Places x s (takeLevel h k s) :=
  .after (pumpProbe_places ..) (.modCtx fun _ => rfl)

theorem pumpClosing_places (h i : Nat) : Places x s (pumpClosing h i s) := by
  have asked (t : Txn) (c : Closing) (g : Closing → Option Closing) : Places x s
      (handOver .ramp (s.faceSet c.face).wss t false c.first c.count (.ctx h i .closing) (setClosing h i g s)) :=
    .after (handOver_places ..) (.of_eq rfl rfl)
  unfold pumpClosing
  split
  · exact .refl s
  · exact .ite (.refl s) (.ite (asked ..) (.ite (asked ..) (.of_eq rfl rfl)))

/-! ## Steps of the ramp and of the audit that keep their places -/

theorem startDwell_places (h : Nat) (c : Context) : Places x s (startDwell h c s) :=
  .after (clearStep_places ..) (.modCtx fun _ => rfl)

theorem handGet_places (f h : Nat) (c : Context) : Places x s (handGet f h c s) :=
  .after (askMonitor_places ..) (.modRamp rfl)

theorem startStep_places (h : Nat) (c : Context) : Places x s (startStep h c s) := by
  have walked {g : Context → Context} (hg : ∀ c, (g c).place = c.place) :
      Places x s ((stepWalk c.egress c.first c.count s).2.modCtx h g) :=
    .after (.modCtx hg) (.dir (stepWalk_dirOnly ..))
  unfold startStep
  dsimp only
  exact .ite (.after (startDwell_places ..) (walked fun _ => rfl))
    (.ite (.after (.modRamp rfl) (walked fun _ => rfl)) (.after (handGet_places ..) (walked fun _ => rfl)))

theorem withdrawStep_places (h : Nat) (c : Context) : Places x s (withdrawStep h c s) := by
  unfold withdrawStep
  split
  · exact askWss_places ..
  · exact .ite (askWss_places ..) (askWss_places ..)

theorem takeSetting_places (h : Nat) (c : Context) (a : Atten) : Places x s (takeSetting h c a s) :=
  .after (startDwell_places ..) (.after (.dir (markModified_dirOnly ..)) (.modCtx fun _ => rfl))

theorem takeSafetyResult_places (h i : Nat) (r : Result) : Places x s (takeSafetyResult h i r s) := by
  unfold takeSafetyResult
  split
  · exact .refl s
  · exact .ite (.refl s) (.ite (.modCtx fun _ => rfl) (.modCtx fun _ => rfl))

theorem finishEntry_places (f : Nat) : Places x s (finishEntry f s) := .of_eq rfl rfl

theorem endPass_places (f : Nat) : Places x s (endPass f s) := by
  have dropped {g : AuditFace → AuditFace} : Places x s ((s.modAudit f g).modRamp f fun r => { r with heldGet := false }) :=
    .after (.modRamp rfl) (.of_eq rfl rfl)
  unfold endPass
  dsimp only
  refine .ite ?_ (.of_eq rfl rfl)
  split
  · exact dropped
  · split
    exacts [dropped, .after (handGet_places ..) dropped]

theorem measure_places (f : Nat) : Places x s (measure f s) := by
  unfold measure
  refine .ite (.refl s) ?_
  split
  · exact endPass_places ..
  split
  · exact finishEntry_places ..
  · exact .ite (askMonitor_places ..) (finishEntry_places ..)

theorem takeAuditReading_places (f h : Nat) (c : Context) (p : Int) : Places x s (takeAuditReading f h c p s) := by
  have told (b : Prop) [Decidable b] (e : List Byte) {g : Context → Context} (hg : ∀ c, (g c).place = c.place) :
      Places x s (if b then s.modCtx h g else tellEvent h e (s.modCtx h g)) :=
    .ite (.modCtx hg) (.after (tellEvent_places ..) (.modCtx hg))
  unfold takeAuditReading
  dsimp only
  exact .ite (.after (askWss_places ..) (told _ _ fun _ => rfl)) (.after (finishEntry_places ..) (told _ _ fun _ => rfl))

theorem takeAuditGet_places (f h i : Nat) (r : Result) : Places x s (takeAuditGet f h i r s) := by
  unfold takeAuditGet
  split
  · exact finishEntry_places ..
  refine .ite (finishEntry_places ..) ?_
  split
  exacts [takeAuditReading_places .., finishEntry_places ..]

theorem takeAuditSet_places (f h i a : Nat) (r : Result) : Places x s (takeAuditSet f h i a r s) := by
  unfold takeAuditSet
  split
  · exact finishEntry_places ..
  · exact .ite (finishEntry_places ..)
      (.after (finishEntry_places ..) (.after (.dir (markModified_dirOnly ..)) (.modCtx fun _ => rfl)))

theorem answerRead_places (p src : Nat) (tag : Byte) (r : Result) : Places x s (answerRead p src tag r s) := by
  unfold answerRead
  split <;> exact .of_eq rfl rfl

end

end Sys2Proof.Machine
end

section
/-! SUPPORT. Law 4 where one record changes its place: a record off the ramp, the giving up of a place, a joining, a
grant. -/
namespace Sys2Proof.Machine

/-- The record at `h` stands with the number, egress face and state of `c`. -/
def Placed (h : Nat) (c : Context) (s : State) : Prop := (s.ctx h).map Context.place = some c.place

/-- R95: an entry of face `f`'s queue may name the record `c` with number `i`. -/
def Context.mayWait (c : Context) (f i : Nat) : Prop :=
  c.inst = i ∧ c.egress = f ∧ (c.st = .armed ∨ c.st = .withdrawing)

/-- R96: the record `c` may hold the turn of face `f` with number `i`. -/
def Context.mayHold (c : Context) (f i : Nat) : Prop :=
  c.inst = i ∧ c.egress = f ∧ (c.st = .ramping ∨ c.st = .withdrawing)

/-- Law 4 for every record but the one at the handle that `x` names, which neither holds a turn nor is queued. -/
structure Law4But (x : Option Nat) (s : State) : Prop where
  wf      : s.table.recs.wf
  turns   : ∀ f k i, (s.rampFace f).turn = some (k, i) →
    some k ≠ x ∧ (∃ c, s.ctx k = some c ∧ c.mayHold f i) ∧ ∀ e ∈ (s.rampFace f).queue, e.handle ≠ k
  queues  : ∀ f, ∀ e ∈ (s.rampFace f).queue, some e.handle ≠ x ∧ ∃ c, s.ctx e.handle = some c ∧ c.mayWait f e.inst
  nodup   : ∀ f, ((s.rampFace f).queue.map (·.handle)).Nodup
  ramping : ∀ k c, some k ≠ x → s.ctx k = some c → c.st = .ramping → (s.rampFace c.egress).turn = some (k, c.inst)

theorem law4_iff (s : State) : Law4 s ↔ Law4But none s := by
  constructor
  · rintro ⟨hw, ht, hq, hn, hr⟩
    exact ⟨hw, fun f k i h => ⟨nofun, ht f k i h⟩, fun f e he => ⟨nofun, hq f e he⟩, hn, fun k c _ => hr k c⟩
  · rintro ⟨hw, ht, hq, hn, hr⟩
    exact ⟨hw, fun f k i h => (ht f k i h).2, fun f e he => (hq f e he).2, hn, fun k c => hr k c nofun⟩

/-- R95, R96: in this state a record is in no ramp queue and holds no turn. -/
def CtxState.offRamp : CtxState → Bool
  | .armed | .ramping | .withdrawing => false
  | _ => true

section
variable {x : Option Nat} {h : Nat} {c : Context} {s t : State}

theorem Placed.of_some (hc : s.ctx h = some c) : Placed h c s := by rw [Placed, hc]; rfl

/-- R22: a record that a request or timer names by handle and number. -/
theorem Placed.of_current {i : Nat} (hc : current s h i = some c) : Placed h c s :=
  .of_some (Option.filter_eq_some_iff.1 hc).1

theorem Placed.same (hc : Placed h c s) (k : Places none s t) : Placed h c t := (k.recs h nofun).trans hc

theorem Placed.eq_of_some (hc : Placed h c s) {d : Context} (hd : s.ctx h = some d) : d.place = c.place := by
  simpa [Placed, hd] using hc

/-- A record that stands in one of two states that agree in places stands in the other, in its place. -/
theorem ctx_of_places {y z : Option Context} (h : y.map Context.place = z.map Context.place) (hc : z = some c) :
    ∃ d, y = some d ∧ d.inst = c.inst ∧ d.egress = c.egress ∧ d.st = c.st := by
  rw [hc] at h
  obtain ⟨d, hd, hdc⟩ := Option.map_eq_some_iff.1 h
  exact ⟨d, hd, Context.place_eq_iff.1 hdc⟩

/-! ## A record off the ramp -/

theorem Law4But.same (hl : Law4But x s) (k : Places x s t) : Law4But x t where
  wf := k.wf hl.wf
  turns f j i ht := by
    rw [k.turn] at ht
    obtain ⟨hj, ⟨c, hc, hhold⟩, hq⟩ := hl.turns f j i ht
    obtain ⟨d, hd, h1, h2, h3⟩ := ctx_of_places (k.recs j hj) hc
    exact ⟨hj, ⟨d, hd, by simpa only [Context.mayHold, h1, h2, h3] using hhold⟩, k.queue f ▸ hq⟩
  queues f e he := by
    rw [k.queue] at he
    obtain ⟨hj, c, hc, hwait⟩ := hl.queues f e he
    obtain ⟨d, hd, h1, h2, h3⟩ := ctx_of_places (k.recs _ hj) hc
    exact ⟨hj, d, hd, by simpa only [Context.mayWait, h1, h2, h3] using hwait⟩
  nodup f := k.queue f ▸ hl.nodup f
  ramping j c hj hc hst := by
    obtain ⟨d, hd, h1, h2, h3⟩ := ctx_of_places (k.recs j hj).symm hc
    rw [k.turn, ← h1, ← h2]
    exact hl.ramping j d hj hd (h3.trans hst)

theorem Law4.same (hl : Law4 s) (k : Places none s t) : Law4 t := (law4_iff t).2 (((law4_iff s).1 hl).same k)

/-- A record off the ramp may stand in any state but RAMPING, or be gone. -/
theorem Law4But.law4 (hl : Law4But (some h) s) (hst : ∀ c, s.ctx h = some c → c.st ≠ .ramping) : Law4 s :=
  ⟨hl.wf, fun f j i ht => (hl.turns f j i ht).2, fun f e he => (hl.queues f e he).2, hl.nodup, fun j c hc hr =>
    hl.ramping j c (fun e => by cases e; exact hst c hc hr) hc hr⟩

/-- Under Law 4 a record in such a state is off the ramp. -/
theorem Law4.off (hl : Law4 s) (hst : ∀ c, s.ctx h = some c → c.st.offRamp = true) : Law4But (some h) s := by
  obtain ⟨hw, hturns, hqueues, hnodup, hramp⟩ := hl
  have away {j : Nat} {c : Context} (hc : s.ctx j = some c) {a b : CtxState} (hon : c.st = a ∨ c.st = b)
      (ha : a.offRamp = false) (hb : b.offRamp = false) : some j ≠ some h := by
    rintro ⟨⟩
    rcases hon with e | e <;> simp_all
  refine ⟨hw, fun f j i ht => ?_, fun f e he => ?_, hnodup, fun j c _ => hramp j c⟩
  · obtain ⟨⟨c, hc, hi, hf, hon⟩, hq⟩ := hturns f j i ht
    exact ⟨away hc hon rfl rfl, ⟨c, hc, hi, hf, hon⟩, hq⟩
  · obtain ⟨c, hc, hi, hf, hon⟩ := hqueues f e he
    exact ⟨away hc hon rfl rfl, c, hc, hi, hf, hon⟩

theorem Law4.off_of_placed (hl : Law4 s) (hc : Placed h c s) (hst : c.st.offRamp = true) : Law4But (some h) s :=
  hl.off fun d hd => by rw [(Context.place_eq_iff.1 (hc.eq_of_some hd)).2.2]; exact hst

/-! ## A change of state (R35) -/

theorem changeState_places (h : Nat) (c : Context) (st : CtxState) (s : State) :
    Places (some h) s (changeState h c st s) :=
  .after (.dir (liveChange_dirOnly ..)) (.setCtx ..)

theorem changeState_st {st : CtxState} {d : Context} (hd : (changeState h c st s).ctx h = some d) : d.st = st := by
  rw [changeState, (liveChange_dirOnly ..).ctx, State.modCtx_ctx, if_pos rfl] at hd
  obtain ⟨x, -, rfl⟩ := Option.map_eq_some_iff.1 hd
  rfl

/-- A record off the ramp enters a state other than RAMPING. -/
theorem Law4But.entered (hl : Law4But (some h) s) (c : Context) {st : CtxState} (hst : st ≠ .ramping) :
    Law4 (changeState h c st s) :=
  (hl.same (changeState_places h c st s)).law4 fun d hd => by rw [changeState_st hd]; exact hst

theorem Law4.entered (hl : Law4 s) (hc : Placed h c s) (hoff : c.st.offRamp = true) {st : CtxState}
    (hst : st ≠ .ramping) : Law4 (changeState h c st s) := (hl.off_of_placed hc hoff).entered c hst

theorem Placed.entered (hc : Placed h c s) (d : Context) (st : CtxState) :
    Placed h (c.inState st) (changeState h d st s) := by
  obtain ⟨x, hx, hxc⟩ := Option.map_eq_some_iff.1 hc
  obtain ⟨h1, h2, -⟩ := Context.place_eq_iff.1 hxc
  rw [changeState_of_some hx]
  refine .trans (congrArg _ ((liveChange_dirOnly ..).ctx h)) ?_
  simp [Context.place, Context.enter, Context.inState, h1, h2]

/-! ## The giving up of a place (R97) -/

theorem releaseTurn_face (f h g : Nat) (s : State) : ((releaseTurn f h s).rampFace g).places =
    if g = f then (none, (s.rampFace f).queue) else (s.rampFace g).places := by
  have cleared := fun j => (clearStep_places (x := none) (s.push [.judgeGrant f]) f).faces j
  simp only [releaseTurn, State.modCtx_rampFace, State.modRamp_rampFace]
  split_ifs with hg
  · exact congrArg (Prod.mk none) (congrArg Prod.snd (cleared f))
  · exact cleared g

theorem leaveRamp_of_turn (ht : (s.rampFace c.egress).turn = some (h, c.inst)) :
    leaveRamp h c s = releaseTurn c.egress h s := if_pos ht

theorem leaveRamp_of_queued (ht : (s.rampFace c.egress).turn ≠ some (h, c.inst))
    (hq : ∃ e ∈ (s.rampFace c.egress).queue, e.handle = h ∧ e.inst = c.inst) :
    leaveRamp h c s =
      (s.modRamp c.egress fun r => { r with queue := r.queue.filter fun e => !(e.handle = h && e.inst = c.inst) }).push
        [.judgeGrant c.egress] := by
  refine (if_neg ht).trans (if_pos ?_)
  simpa using hq

/-- R97: on its egress face the context leaves its turn, or where it holds none the queue; every other place stays. -/
theorem leaveRamp_face (h : Nat) (c : Context) (g : Nat) (s : State) :
    ((leaveRamp h c s).rampFace g).places =
      if g ≠ c.egress then (s.rampFace g).places
      else if (s.rampFace g).turn = some (h, c.inst) then (none, (s.rampFace g).queue)
      else ((s.rampFace g).turn, (s.rampFace g).queue.filter fun e => !(e.handle = h && e.inst = c.inst)) := by
  by_cases ht : (s.rampFace c.egress).turn = some (h, c.inst)
  · rw [leaveRamp_of_turn ht, releaseTurn_face]
    by_cases hg : g = c.egress
    · subst hg; simp [ht]
    · simp [hg]
  by_cases hq : ∃ e ∈ (s.rampFace c.egress).queue, e.handle = h ∧ e.inst = c.inst
  · rw [leaveRamp_of_queued ht hq]
    change (RampFace.places (State.rampFace (s.modRamp c.egress _) g)) = _
    by_cases hg : g = c.egress
    · subst hg; simp [ht, RampFace.places]
    · simp [hg]
  · rw [leaveRamp_of_offRamp ⟨ht, fun e he hh => hq ⟨e, he, hh⟩⟩]
    by_cases hg : g = c.egress
    · subst hg
      have all : (s.rampFace c.egress).queue.filter (fun e => !(e.handle = h && e.inst = c.inst)) =
          (s.rampFace c.egress).queue :=
        List.filter_eq_self.2 fun e he => by
          simpa only [Bool.not_eq_true', Bool.and_eq_false_imp, decide_eq_true_eq, decide_eq_false_iff_not] using
            fun hh hi => hq ⟨e, he, hh, hi⟩
      rw [if_neg (by simp), if_neg ht, all]
      rfl
    · rw [if_pos hg]

section
/-- The places that name `h` are those of the record `c`: its egress face's turn or entries of that face's queue. -/
structure OnFace (h : Nat) (c : Context) (s : State) : Prop where
  turn  : ∀ f i, (s.rampFace f).turn = some (h, i) →
    f = c.egress ∧ i = c.inst ∧ ∀ e ∈ (s.rampFace f).queue, e.handle ≠ h
  queue : ∀ f, ∀ e ∈ (s.rampFace f).queue, e.handle = h → f = c.egress ∧ e.inst = c.inst

theorem Law4.onFace (hl : Law4 s) (hc : Placed h c s) : OnFace h c s := by
  obtain ⟨-, hturns, hqueues, -⟩ := hl
  have placed {d : Context} (hd : s.ctx h = some d) : d.inst = c.inst ∧ d.egress = c.egress := by
    obtain ⟨h1, h2, -⟩ := Context.place_eq_iff.1 (hc.eq_of_some hd)
    exact ⟨h1, h2⟩
  constructor
  · intro f i ht
    obtain ⟨⟨d, hd, hi, hf, -⟩, hq⟩ := hturns f h i ht
    exact ⟨hf.symm.trans (placed hd).2, hi.symm.trans (placed hd).1, hq⟩
  · rintro f e he rfl
    obtain ⟨d, hd, hi, hf, -⟩ := hqueues f e he
    exact ⟨hf.symm.trans (placed hd).2, hi.symm.trans (placed hd).1⟩

theorem OnFace.same (ho : OnFace h c s) (k : Places x s t) : OnFace h c t := by
  constructor
  · intro f i
    rw [k.turn, k.queue]
    exact ho.turn f i
  · intro f
    rw [k.queue]
    exact ho.queue f

/-- A record that gives up its place leaves none that names it, and no other place changes. -/
theorem OnFace.left (ho : OnFace h c s) (f : Nat) : ((leaveRamp h c s).rampFace f).places =
    ((s.rampFace f).turn.filter fun x => x.1 ≠ h, (s.rampFace f).queue.filter fun e => e.handle ≠ h) := by
  have turn (hf : f = c.egress → (s.rampFace f).turn ≠ some (h, c.inst)) :
      (s.rampFace f).turn.filter (fun x => x.1 ≠ h) = (s.rampFace f).turn := by
    cases ht : (s.rampFace f).turn with
    | none => rfl
    | some x =>
      refine Option.filter_some_pos (decide_eq_true ?_)
      rintro rfl
      obtain ⟨h1, h2, -⟩ := ho.turn f x.2 ht
      exact hf h1 (by rw [ht, ← h2])
  have queue (hq : ∀ e ∈ (s.rampFace f).queue, e.handle ≠ h) :
      (s.rampFace f).queue.filter (fun e => e.handle ≠ h) = (s.rampFace f).queue :=
    List.filter_eq_self.2 fun e he => decide_eq_true (hq e he)
  rw [leaveRamp_face]
  split_ifs with hf ht
  · rw [turn fun e => absurd e hf, queue fun e he hh => hf (ho.queue f e he hh).1]
    rfl
  · rw [queue (ho.turn f _ ht).2.2, ht, Option.filter_some_neg (by simp)]
  · rw [turn fun _ => ht]
    refine congrArg (Prod.mk _) (List.filter_congr fun e he => ?_)
    by_cases hh : e.handle = h
    · simp [hh, (ho.queue f e he hh).2]
    · simp [hh]
end

/-- Law 4 but for one record, where no place names it any longer and every other has stayed. -/
theorem Law4.cleared (hl : Law4 s) (hw : t.table.recs.wf)
    (hr : ∀ j, j ≠ h → (t.ctx j).map Context.place = (s.ctx j).map Context.place)
    (hf : ∀ f, (t.rampFace f).places =
      ((s.rampFace f).turn.filter fun x => x.1 ≠ h, (s.rampFace f).queue.filter fun e => e.handle ≠ h)) :
    Law4But (some h) t := by
  obtain ⟨-, hturns, hqueues, hnodup, hramp⟩ := (law4_iff s).1 hl
  have turned (f : Nat) : (t.rampFace f).turn = (s.rampFace f).turn.filter fun x => x.1 ≠ h := congrArg Prod.fst (hf f)
  have turn {f j i : Nat} : (t.rampFace f).turn = some (j, i) ↔ (s.rampFace f).turn = some (j, i) ∧ j ≠ h := by
    simp [turned, Option.filter_eq_some_iff]
  have queue (f : Nat) : (t.rampFace f).queue = (s.rampFace f).queue.filter fun e => e.handle ≠ h :=
    congrArg Prod.snd (hf f)
  have mem {f : Nat} {e : QEntry} (he : e ∈ (t.rampFace f).queue) : e ∈ (s.rampFace f).queue ∧ e.handle ≠ h := by
    simpa [queue] using he
  have away {j : Nat} (hj : j ≠ h) : some j ≠ some h := fun e => hj (Option.some.inj e)
  refine ⟨hw, fun f j i ht => ?_, fun f e he => ?_, fun f => ?_, fun j d hj hd hst => ?_⟩
  · obtain ⟨ht, hj⟩ := turn.1 ht
    obtain ⟨-, ⟨d, hd, hhold⟩, hq⟩ := hturns f j i ht
    obtain ⟨d', hd', h1, h2, h3⟩ := ctx_of_places (hr j hj) hd
    exact ⟨away hj, ⟨d', hd', by simpa only [Context.mayHold, h1, h2, h3] using hhold⟩, fun e he => hq e (mem he).1⟩
  · obtain ⟨he, hj⟩ := mem he
    obtain ⟨-, d, hd, hwait⟩ := hqueues f e he
    obtain ⟨d', hd', h1, h2, h3⟩ := ctx_of_places (hr _ hj) hd
    exact ⟨away hj, d', hd', by simpa only [Context.mayWait, h1, h2, h3] using hwait⟩
  · rw [queue]
    exact (hnodup f).sublist (List.filter_sublist.map _)
  · have hj : j ≠ h := fun e => hj (congrArg some e)
    obtain ⟨d', hd', h1, h2, h3⟩ := ctx_of_places (hr j hj).symm hd
    rw [turn, ← h1, ← h2]
    exact ⟨hramp j d' nofun hd' (h3.trans hst), hj⟩

/-- A record that has given up its place is off the ramp, whatever has been written of it under Law 4. -/
theorem leaveRamp_off {u : State} (hl : Law4 u) (hc : Placed h c u) (k : Places (some h) u s) :
    Law4But (some h) (leaveRamp h c s) := by
  refine hl.cleared ((leaveRamp_same h c s).table (k.wf hl.1)).1 (fun j hj => ?_) fun f => ?_
  · rw [(leaveRamp_keeps h c s).2.2.2 j hj]
    exact k.recs j fun e => hj (Option.some.inj e)
  · rw [((hl.onFace hc).same k).left, k.turn, k.queue]

/-! ## A place taken (R95, R96) -/

/-- R95: a handle already queued changes nothing. -/
theorem joinQueue_of_mem {q : List QEntry} {e : QEntry} (hq : ∃ y ∈ q, y.handle = e.handle) : joinQueue q e = q :=
  if_pos (by simpa using hq)

/-- R95: the entry that joins is the one more. -/
theorem joinQueue_perm {q : List QEntry} {e : QEntry} (hq : ∀ y ∈ q, y.handle ≠ e.handle) :
    (joinQueue q e).Perm (e :: q) := by
  have parts := List.filter_append_perm (fun y : QEntry => decide (y.cls = .restore)) q
  unfold joinQueue
  rw [if_neg (by simpa using hq)]
  split_ifs
  · rw [List.append_assoc]
    refine List.perm_middle.trans (.cons e (.trans (.of_eq ?_) parts))
    simp
  · exact List.perm_append_singleton e q

/-- R95: an ARMED or WITHDRAWING record that does not hold its face's turn joins its queue. -/
theorem joinRamp_law4 (hl : Law4 s) (hc : Placed h c s) (hst : c.st = .armed ∨ c.st = .withdrawing)
    (ht : ∀ i, (s.rampFace c.egress).turn ≠ some (h, i)) : Law4 (joinRamp h c s) := by
  by_cases hq : ∃ y ∈ (s.rampFace c.egress).queue, y.handle = h
  · have kept : Places none s (s.modRamp c.egress fun r => { r with queue := joinQueue r.queue ⟨h, c.inst, c.cls⟩ }) :=
      .modRamp (congrArg (Prod.mk _) (joinQueue_of_mem hq))
    exact hl.same (kept.trans (.of_eq rfl rfl))
  push Not at hq
  have perm := joinQueue_perm (e := ⟨h, c.inst, c.cls⟩) hq
  obtain ⟨hw, hturns, hqueues, hnodup, hramp⟩ := hl
  obtain ⟨d, hd, h1, h2, h3⟩ := ctx_of_places hc (z := some c) rfl
  have face (f : Nat) : (joinRamp h c s).rampFace f =
      if f = c.egress then { s.rampFace f with queue := joinQueue (s.rampFace c.egress).queue ⟨h, c.inst, c.cls⟩ }
      else s.rampFace f := by
    refine (State.modRamp_rampFace s c.egress _ f).trans ?_
    split_ifs with hf
    exacts [hf ▸ rfl, rfl]
  have turn (f : Nat) : ((joinRamp h c s).rampFace f).turn = (s.rampFace f).turn := by
    rw [face]; split_ifs <;> rfl
  have mem {f : Nat} {e : QEntry} : e ∈ ((joinRamp h c s).rampFace f).queue ↔
      f = c.egress ∧ e = ⟨h, c.inst, c.cls⟩ ∨ e ∈ (s.rampFace f).queue := by
    rw [face]
    split_ifs with hf
    · subst hf
      simp [perm.mem_iff]
    · simp [hf]
  refine ⟨hw, fun f j i hj => ?_, fun f e he => ?_, fun f => ?_, fun j x hx hr => ?_⟩
  · rw [turn] at hj
    obtain ⟨hhold, hq⟩ := hturns f j i hj
    refine ⟨hhold, fun e he => ?_⟩
    rcases mem.1 he with ⟨rfl, rfl⟩ | he
    · rintro rfl
      exact ht i hj
    · exact hq e he
  · rcases mem.1 he with ⟨rfl, rfl⟩ | he
    · exact ⟨d, hd, h1, h2, h3 ▸ hst⟩
    · exact hqueues f e he
  · rw [face]
    split_ifs with hf
    · rw [(perm.map _).nodup_iff]
      exact List.nodup_cons.2 ⟨by simpa using hq, hnodup _⟩
    · exact hnodup f
  · rw [turn]
    exact hramp j x hx hr

/-- R96: the free turn of a face goes to the record at the head of its queue, which is then RAMPING or WITHDRAWING. -/
theorem Law4.granted (hl : Law4 s) {f : Nat} {e : QEntry} {rest : List QEntry} (hfree : (s.rampFace f).turn = none)
    (hq : (s.rampFace f).queue = e :: rest) (hw : t.table.recs.wf)
    (hr : ∀ j, j ≠ e.handle → (t.ctx j).map Context.place = (s.ctx j).map Context.place)
    (hf : ∀ g, (t.rampFace g).places = if g = f then (some (e.handle, e.inst), rest) else (s.rampFace g).places)
    {x : Context} (hx : Placed e.handle x t) (hhold : x.mayHold f e.inst) : Law4 t := by
  obtain ⟨d, hd, h1, h2, h3⟩ := ctx_of_places (z := some x) hx rfl
  replace hhold : d.mayHold f e.inst := by simpa only [Context.mayHold, h1, h2, h3] using hhold
  obtain ⟨-, hturns, hqueues, hnodup, hramp⟩ := hl
  have hhead : e ∈ (s.rampFace f).queue := by rw [hq]; exact .head _
  obtain ⟨c, hc, -, hface, -⟩ := hqueues f e hhead
  have hrest : ∀ y ∈ rest, y.handle ≠ e.handle := by
    have := hnodup f
    rw [hq, List.map_cons, List.nodup_cons] at this
    exact fun y hy hh => this.1 (List.mem_map.2 ⟨y, hy, hh⟩)
  have turn (g : Nat) : (t.rampFace g).turn = if g = f then some (e.handle, e.inst) else (s.rampFace g).turn :=
    (congrArg Prod.fst (hf g)).trans (by split_ifs <;> rfl)
  have queue (g : Nat) : (t.rampFace g).queue = if g = f then rest else (s.rampFace g).queue :=
    (congrArg Prod.snd (hf g)).trans (by split_ifs <;> rfl)
  /- No other face's queue names the record. -/
  have elsewhere {g : Nat} {y : QEntry} (hg : g ≠ f) (hy : y ∈ (s.rampFace g).queue) : y.handle ≠ e.handle := by
    intro hh
    obtain ⟨x, hx, -, hxf, -⟩ := hqueues g y hy
    rw [hh, hc] at hx
    cases hx
    exact hg (hxf.symm.trans hface)
  have mem {g : Nat} {y : QEntry} (hy : y ∈ (t.rampFace g).queue) : y.handle ≠ e.handle ∧ y ∈ (s.rampFace g).queue := by
    rw [queue] at hy
    split_ifs at hy with hg
    · exact ⟨hrest y hy, by rw [hg, hq]; exact .tail _ hy⟩
    · exact ⟨elsewhere hg hy, hy⟩
  refine ⟨hw, fun g j i ht => ?_, fun g y hy => ?_, fun g => ?_, fun j x hx hst => ?_⟩
  · rw [turn] at ht
    split_ifs at ht with hg
    · cases ht
      exact ⟨⟨d, hd, hg ▸ hhold⟩, fun y hy => (mem hy).1⟩
    · obtain ⟨⟨x, hx, hxh⟩, hqs⟩ := hturns g j i ht
      have hj : j ≠ e.handle := by
        rintro rfl
        rw [hc] at hx
        cases hx
        exact hg (hxh.2.1.symm.trans hface)
      obtain ⟨x', hx', h1, h2, h3⟩ := ctx_of_places (hr j hj) hx
      exact ⟨⟨x', hx', by simpa only [h1, h2, h3] using hxh⟩, fun y hy => hqs y (mem hy).2⟩
  · obtain ⟨hj, hy⟩ := mem hy
    obtain ⟨x, hx, hxw⟩ := hqueues g y hy
    obtain ⟨x', hx', h1, h2, h3⟩ := ctx_of_places (hr _ hj) hx
    exact ⟨x', hx', by simpa only [h1, h2, h3] using hxw⟩
  · rw [queue]
    split_ifs
    · have := hnodup f
      rw [hq, List.map_cons, List.nodup_cons] at this
      exact this.2
    · exact hnodup g
  · rw [turn]
    by_cases hj : j = e.handle
    · subst hj
      rw [hd] at hx
      cases hx
      rw [if_pos hhold.2.1, hhold.1]
    · obtain ⟨x', hx', h1, h2, h3⟩ := ctx_of_places (hr j hj).symm hx
      have := hramp j x' hx' (h3.trans hst)
      rw [h1, h2] at this
      rw [if_neg, this]
      intro e
      rw [e, hfree] at this
      cases this

end
end Sys2Proof.Machine
end

section
/-! SUPPORT. Each operation of a take keeps Law 4, in the order of the model's files. -/
namespace Sys2Proof.Machine

variable {s : State} {h : Nat} {c : Context}

/-! ## Records found -/

theorem Law4.placed_of_mem (hl : Law4 s) (hm : (h, some c) ∈ s.table.recs.cells) : Placed h c s :=
  .of_some ((Tab.mem_cells hl.1 h (some c)).1 hm).1

theorem Law4.found (hl : Law4 s) {id : Nat} (hf : findLp s id = some (h, c)) : Placed h c s :=
  hl.placed_of_mem (findLp_mem hf).1

/-- R81: the PROBING record whose watch a burst matches. -/
theorem Law4.watched (hl : Law4 s) {code : Nat} {w : Watch} (hw : watchOf s code = some (h, c, w)) :
    Placed h c s ∧ c.st = .probing := by
  obtain ⟨x, hx, hxc⟩ := ((Since.refl hl.1).watched hw).1.some
  exact ⟨(congrArg (Option.map Context.place) hx).trans (congrArg some (Context.place_of_facts hxc)),
    ((Since.refl hl.1).watched hw).2⟩

/-! ## Freeing and faults -/

theorem freeRecord_law4 (hl : Law4 s) (hc : Placed h c s) : Law4 (freeRecord h c s) := by
  refine Law4But.law4 (h := h) ((leaveRamp_off hl hc (.refl s)).same (t := freeRecord h c s) ?_) fun d hd => ?_
  · rw [freeRecord_eq]
    exact .after (.setCtx ..) (.dir (spanFreed_dirOnly ..))
  · rw [freeRecord_ctx, if_pos rfl] at hd
    cases hd

theorem enterFaulted_law4 {cause : Cause} {origin : Nat} {d : Direction} {up down : Bool} (hl : Law4 s)
    (hc : Placed h c s) : Law4 (enterFaulted h c cause origin d up down s) := by
  have dropped : Law4But (some h) ((leaveRamp h c s).modCtx h Context.dropWork) :=
    (leaveRamp_off hl hc (.refl s)).same (.modCtx fun _ => rfl)
  refine (dropped.entered c (st := .faulted) nofun).same ?_
  unfold enterFaulted
  dsimp only
  generalize changeState h c .faulted _ = t
  have asked (o : FaultRec) : Places none t ((askSafety h c (t.modCtx h fun c => { c with faultRec := some o })).modCtx h
      fun c => { c with work := { c.work with dithering := false } }) :=
    .after (.modCtx fun _ => rfl) (.after (askWss_places ..) (.modCtx fun _ => rfl))
  have send (b : Bool) (p : Option Nat) (d : Direction) {u v : State} (k : Places none u v) :
      Places none u (if b = true then sendFault p d c cause origin v else v) := .ite (.after (sendOn_places ..) k) k
  have sent (o : FaultRec) := send down c.downPort .downstream (send up c.upPort .upstream (asked o))
  exact .ite (.after (tellEvent_places ..) (sent _)) (sent _)

theorem endWithdrawal_law4 (hl : Law4 s) (hc : Placed h c s) : Law4 (endWithdrawal h c s) := by
  have sent : Places none s (sendTeardown c (askWss .safety .setBlock false .safety h c s)) :=
    .after (sendOn_places ..) (askWss_places ..)
  exact freeRecord_law4 (hl.same sent) (hc.same sent)

theorem localFaultOn_law4 {cause : Cause} {up down : Bool} (hl : Law4 s) (hc : Placed h c s) :
    Law4 (localFaultOn h c cause up down s) := by
  unfold localFaultOn
  split_ifs
  · exact (enterFaulted_law4 hl hc).same (.of_eq rfl rfl)
  · exact (endWithdrawal_law4 hl hc).same (.of_eq rfl rfl)
  · exact hl

theorem localFault_law4 {cause : Cause} (hl : Law4 s) (hc : Placed h c s) : Law4 (localFault h c cause s) :=
  localFaultOn_law4 hl hc

theorem linkLossFault_law4 {p h : Nat} (hl : Law4 s) : Law4 (linkLossFault p h s) := by
  unfold linkLossFault
  split
  · exact hl
  · rename_i hc
    split_ifs
    exacts [localFaultOn_law4 hl (.of_some hc), hl]

theorem takeFault_law4 {port id : Nat} {cause : Cause} {origin : Nat} {d : Direction} (hl : Law4 s) :
    Law4 (takeFault port id cause origin d s) := by
  unfold takeFault
  split
  · exact hl.same (.of_eq rfl rfl)
  · rename_i hf
    split_ifs
    · exact (enterFaulted_law4 hl (hl.found hf)).same (.of_eq rfl rfl)
    · exact (endWithdrawal_law4 hl (hl.found hf)).same (.of_eq rfl rfl)
    · exact hl.same (.of_eq rfl rfl)

/-! ## The probe phase -/

theorem closeMaint_law4 (hl : Law4 s) (hc : Placed h c s) : Law4 (closeMaint h c s) := by
  have kept (l : List Closing) : Places none s { s with table := { s.table with closings := l } } := .of_eq rfl rfl
  exact (freeRecord_law4 (hl.same (kept _)) (hc.same (kept _))).same (pumpClosing_places ..)

theorem takeProbeResult_law4 {h i : Nat} {a : Option Nat} {r : Result} (hl : Law4 s) :
    Law4 (takeProbeResult h i a r s) := by
  unfold takeProbeResult
  split
  · rename_i c hcur
    have answered : Places none s (s.modCtx h fun c => { c with work := { c.work with outstanding := false } }) :=
      .modCtx fun _ => rfl
    split_ifs
    · exact localFault_law4 (hl.same answered) ((Placed.of_current hcur).same answered)
    · refine hl.same ?_
      dsimp only
      generalize hp : pumpProbe h _ = t
      have pumped : Places none s t := by
        rw [← hp]
        refine .after (pumpProbe_places ..) ?_
        split
        · exact answered
        · exact .after (.dir (markModified_dirOnly ..)) (.after (.modCtx fun _ => rfl) answered)
      split
      · exact pumped
      · exact .ite (pumped.trans (.of_eq rfl rfl)) pumped
    · exact hl
  · exact hl.same (.after (pumpClosing_places ..) (.of_eq rfl rfl))

theorem beginProbe_law4 (hl : Law4 s) (hc : Placed h c s) (hst : c.st = .reserved) : Law4 (beginProbe h c s) :=
  (hl.entered hc (by rw [hst]; rfl) (st := .probing) nofun).same
    (.after (sendOn_places ..) (.after (takeLevel_places ..) (.modCtx fun _ => rfl)))

theorem stepLadder_law4 (hl : Law4 s) (hc : Placed h c s) : Law4 (stepLadder h c s) := by
  unfold stepLadder
  split_ifs
  · exact hl.same (.after (sendOn_places ..) (.after (takeLevel_places ..) (.modCtx fun _ => rfl)))
  · exact localFault_law4 hl hc

/-- R73: a PROBING head that arms joins its queue; it holds no turn. -/
theorem armHead_law4 (hl : Law4 s) (hc : Placed h c s) (hst : c.st = .probing) : Law4 (armHead h c s) := by
  have off := hl.off_of_placed hc (by rw [hst]; rfl)
  have armed : Places none (changeState h c .armed s) (pumpProbe h ((changeState h c .armed s).modCtx h fun c =>
      { c with probeTimer := none, work := c.work.finish })) :=
    .after (pumpProbe_places ..) (.modCtx fun _ => rfl)
  refine joinRamp_law4 (c := c.inState .armed) ((off.entered c (st := .armed) nofun).same armed)
    ((hc.entered c .armed).same armed) (.inl rfl) fun i ht => ?_
  rw [((changeState_places h c .armed s).trans armed.but).turn] at ht
  exact (off.turns _ _ _ ht).1 rfl

theorem takeProbe_law4 {hd : Hdr} {body : List Byte} {k : Nat} (hl : Law4 s) (hc : Placed h c s) :
    Law4 (takeProbe hd body h c k s) := by
  have probing : Law4 (if c.st = .reserved then changeState h c .probing s else s) := by
    split_ifs with hst
    exacts [hl.entered hc (by rw [hst]; rfl) nofun, hl]
  refine probing.same ?_
  unfold takeProbe
  dsimp only
  generalize (if c.st = .reserved then changeState h c .probing s else s) = t
  have taken := takeLevel_places (x := none) t h k
  exact .ite (.ite (.after (relay_places ..) taken) taken) (.after (.modCtx fun _ => rfl) taken)

theorem answerArmed_places (hd : Hdr) (body : List Byte) (h : Nat) (c : Context) (k : Nat) (s : State) :
    Places none s (answerArmed hd body h c k s) := by
  have taken : Places none s (if c.probeLevel < k then takeLevel h k s else s) := .ite (takeLevel_places ..) (.refl s)
  unfold answerArmed
  dsimp only
  split
  exacts [.after (relay_places ..) taken, .after (sendOn_places ..) taken, taken]

theorem validate_law4 (hl : Law4 s) (hc : Placed h c s) (hst : c.st = .probing) : Law4 (validate h c s) := by
  have validated : Places none s
      (s.modCtx h fun c => { c with watch := none, pilotValidated := true, probeTimer := none }) := .modCtx fun _ => rfl
  have hl := hl.same validated
  have hc := hc.same validated
  unfold validate
  dsimp only
  generalize s.modCtx h _ = t at hl hc ⊢
  split
  · exact closeMaint_law4 (hl.same (sendOn_places ..)) (hc.same (sendOn_places ..))
  · exact (hl.same (sendOn_places ..)).entered (hc.same (sendOn_places ..)) (by rw [hst]; rfl) nofun
  · exact hl.same (sendOn_places ..)

theorem takeBurst_law4 {g code : Nat} (hl : Law4 s) : Law4 (takeBurst g code s) := by
  have watching (h : Nat) (w : Watch) : Places none s (s.modCtx h fun c => { c with watch := some w }) :=
    .modCtx fun _ => rfl
  unfold takeBurst
  dsimp only
  split
  · exact hl.same (.of_eq rfl rfl)
  · rename_i hw
    obtain ⟨hc, hst⟩ := hl.watched hw
    split_ifs
    · exact validate_law4 hl hc hst
    · exact hl.same (watching ..)
    · exact localFault_law4 (hl.same (watching ..)) (hc.same (watching ..))
    · exact hl.same (watching ..)

/-! ## The ramp -/

/-- R96: the head of the queue takes the free turn, and begins to ramp or goes on with its withdrawal. -/
theorem grant_law4 {f : Nat} {e : QEntry} {rest : List QEntry} (hl : Law4 s) (hfree : (s.rampFace f).turn = none)
    (hq : (s.rampFace f).queue = e :: rest) (hc : s.ctx e.handle = some c) : Law4 (grant f e c s) := by
  obtain ⟨-, -, hqueues, -⟩ := id hl
  obtain ⟨d, hd, hi, hf, -⟩ := hqueues f e (by rw [hq]; exact .head _)
  obtain rfl : c = d := Option.some.inj (hc.symm.trans hd)
  let r := s.modRamp f fun r => { r with queue := r.queue.tail, turn := some (e.handle, e.inst) }
  let g (c' : Context) : Context := { c' with target := targetOf (s.faceSet f).density c.count c.trim, rampHeld := false }
  let held := r.modCtx e.handle g
  have face (j : Nat) : (r.rampFace j).places =
      if j = f then (some (e.handle, e.inst), rest) else (s.rampFace j).places := by
    rw [State.modRamp_rampFace]
    split_ifs
    exacts [congrArg (Prod.mk _) (by rw [hq]; rfl), rfl]
  have hheld : Placed e.handle c held := .same (s := r) (.of_some hc) (.modCtx fun _ => rfl)
  /- The record of the new holder alone has changed. -/
  have granted {t : State} (k : Places (some e.handle) r t) {x : Context} (hx : Placed e.handle x t)
      (hhold : x.mayHold f e.inst) : Law4 t :=
    hl.granted hfree hq (k.wf hl.1) (fun j hj => k.recs j fun e => hj (Option.some.inj e))
      (fun j => (k.faces j).trans (face j)) hx hhold
  have kept : Places (some e.handle) r held := .modCtx fun _ => rfl
  unfold grant
  dsimp only
  split
  · refine Law4.same ?_ (startStep_places ..)
    exact granted (kept.trans (changeState_places ..)) (hheld.entered c .ramping) ⟨hi, hf, .inl rfl⟩
  · rename_i hst
    exact (granted kept hheld ⟨hi, hf, .inr hst⟩).same (withdrawStep_places ..)
  · exact hl

theorem judgeGrant_law4 {f : Nat} (hl : Law4 s) : Law4 (judgeGrant f s) := by
  unfold judgeGrant
  split
  · rename_i hfree hq
    split
    · rename_i hcur
      split_ifs
      exacts [grant_law4 hl hfree hq (Option.filter_eq_some_iff.1 hcur).1, hl]
    · exact hl
  · exact hl

/-- R107, R115: the context that settles gives up its turn. -/
theorem settle_law4 (hl : Law4 s) (hc : Placed h c s) : Law4 (settle h c s) := by
  have settled := hc.entered c .settled
  have off := leaveRamp_off hl hc (changeState_places h c .settled s)
  unfold settle
  dsimp only
  generalize changeState h c .settled s = t at settled off ⊢
  have settled : Placed h (c.inState .settled) (leaveRamp h c t) :=
    ((leaveRamp_quiet (full := True) h c t).place h).trans settled
  have left : Law4 (leaveRamp h c t) := off.law4 fun d hd => by
    rw [(Context.place_eq_iff.1 (settled.eq_of_some hd)).2.2]
    nofun
  have dropped : Places none (leaveRamp h c t) ((leaveRamp h c t).modCtx h fun c => { c with carried := none }) :=
    .modCtx fun _ => rfl
  split
  · exact left.same (.ite (.refl _) (sendOn_places ..))
  · exact left.same (.after (sendOn_places ..) dropped)
  · have sent {b : List Byte} := dropped.trans (sendOn_places _ c.upPort .ready b)
    exact (left.same sent).entered (c := { c with st := .settled }) (settled.same sent) rfl nofun

theorem takeReading_law4 {p : Int} (hl : Law4 s) (hc : s.ctx h = some c) : Law4 (takeReading h c p s) := by
  have applied {d : Context} (hd : d.place = c.place) : Places none s (s.setCtx h (some d)) :=
    .write (by rw [hc]; exact congrArg some hd)
  have placed (d : Context) : Placed h d (s.setCtx h (some d)) := .of_some (by simp)
  unfold takeReading
  dsimp only
  split
  · exact localFault_law4 (hl.same (applied rfl)) (placed _)
  · exact settle_law4 (hl.same (applied rfl)) (placed _)
  · exact hl.same (.after (startDwell_places ..) (applied rfl))
  · exact hl.same (.after (askWss_places ..) (applied rfl))

theorem finishWithdrawal_law4 (hl : Law4 s) (hc : Placed h c s) : Law4 (finishWithdrawal h c s) := by
  have blocked : Places none s (sendTeardown c
      (markModified h c.egress c.first c.count (s.modCtx h fun c => { c with atten := .blocked }))) :=
    .after (sendOn_places ..) (.after (.dir (markModified_dirOnly ..)) (.modCtx fun _ => rfl))
  exact freeRecord_law4 (hl.same blocked) (hc.same blocked)

theorem takeRampResult_law4 {h i : Nat} {p : Purpose} {r : Result} (hl : Law4 s) :
    Law4 (takeRampResult h i p r s) := by
  unfold takeRampResult
  split
  · exact hl
  rename_i c hcur
  have hc : Placed h c s := .of_current hcur
  split
  · split
    · exact takeReading_law4 hl (Option.filter_eq_some_iff.1 hcur).1
    · exact localFault_law4 hl hc
  · exact localFault_law4 hl hc
  · exact hl.same (takeSetting_places ..)
  · exact localFault_law4 hl hc
  · exact hl.same (takeSetting_places ..)
  · exact localFault_law4 hl hc
  · exact finishWithdrawal_law4 hl hc
  · exact hl

/-! ## The whole of a take -/

theorem takeResult_law4 {t : Tag} {r : Result} (hl : Law4 s) : Law4 (takeResult t r s) := by
  unfold takeResult
  split
  · exact hl.same (answerRead_places ..)
  rename_i h i p
  cases p with
  | level | ditherStart | ditherStop | closing => exact takeProbeResult_law4 hl
  | rampGet | rampSet | withdrawSet | withdrawBlock => exact takeRampResult_law4 hl
  | safety => exact hl.same (takeSafetyResult_places ..)
  | auditGet => exact hl.same (takeAuditGet_places ..)
  | auditSet => exact hl.same (takeAuditSet_places ..)

theorem doWork_law4 {w : Work} (hl : Law4 s) : Law4 (doWork w s) := by
  cases w with
  | result => exact takeResult_law4 hl
  | judgeGrant => exact judgeGrant_law4 hl
  | measure => exact hl.same (measure_places ..)

theorem runWork_law4 {n : Nat} (hl : Law4 s) : Law4 (runWork n s) := by
  induction n generalizing s with
  | zero => exact hl
  | succ n ih =>
    unfold runWork
    split
    · exact hl
    · exact ih (doWork_law4 (hl.same (.of_eq rfl rfl)))

theorem settleWork_law4 (hl : Law4 s) : Law4 (settleWork s) := (runWork_law4 hl).same (.of_eq rfl rfl)

theorem endTake_law4 (hl : Law4 s) : Law4 (endTake s) :=
  (settleWork_law4 hl).same (.after (arbitrate_places ..) (sendTold_places ..))

end Sys2Proof.Machine
end

section
/-! SUPPORT. Law 4 under every command: ports, frames and timers. -/
namespace Sys2Proof.Machine

variable {s : State}

/-! ## Ports and reception -/

theorem linkLoss_law4 {p : Nat} (hl : Law4 s) : Law4 (linkLoss p s) :=
  (settleWork_law4 (foldl_keeps (P := Law4) (fun _ _ _ hl => linkLossFault_law4 hl) hl)).same (sendTold_places _)

theorem leaveUp_law4 {p : Nat} {l : LinkState} {a : Option Acq} (hl : Law4 s) : Law4 (leaveUp p l a s) := by
  unfold leaveUp
  dsimp only
  refine Law4.same ?_ (event_places ..)
  split
  · exact linkLoss_law4 (hl.same (.of_eq rfl rfl))
  · exact hl.same (.of_eq rfl rfl)

theorem lineHello_law4 {p n np : Nat} (hl : Law4 s) : Law4 (lineHello p n np s) := by
  have counted (g : Port → Port) : Places none s (s.modPort p g) := .of_eq rfl rfl
  have up (t : State) : Places none t (enterUp p n np t) := .after (event_places ..) (.of_eq rfl rfl)
  unfold lineHello
  dsimp only
  split
  · exact hl
  · split
    · split_ifs
      exacts [hl.same ((counted _).trans (up _)), hl.same (counted _), hl.same (counted _)]
    · exact hl.same (counted _)
  · split_ifs
    exacts [hl.same (counted _), leaveUp_law4 hl]

theorem takeHello_law4 {p : Nat} {body : List Byte} (hl : Law4 s) : Law4 (takeHello p body s) := by
  have bad : Law4 (malformed p s) := hl.same (.of_eq rfl rfl)
  unfold takeHello
  split_ifs
  · exact bad
  · split
    · exact bad
    · split_ifs
      exacts [bad, lineHello_law4 hl]

theorem receive_law4 {p : Nat} {b : Bool} {k : State → State} (hl : Law4 s) (hk : ∀ t, Law4 t → Law4 (k t)) :
    Law4 (receive p b k s) := by
  have counted : Law4 (countRx p s) := hl.same (.of_eq rfl rfl)
  unfold receive
  dsimp only
  split_ifs
  exacts [counted.same (.of_eq rfl rfl), hk _ counted]

theorem commissioning_law4 {α : Type} {hd : Hdr} {x : Option α} {k : α → State → State} (hl : Law4 s)
    (hk : ∀ y t, Law4 t → Law4 (k y t)) : Law4 (receive hd.port false (commissioning hd x k) s) := by
  refine receive_law4 hl fun t ht => ?_
  unfold commissioning
  split
  · exact ht.same (.of_eq rfl rfl)
  · split_ifs
    exacts [ht.same (.of_eq rfl rfl), hk _ _ ht]

theorem onMgmt_law4 {h : Hdr} {k : FrameKind} {body : List Byte} {own adj : State → State} (hl : Law4 s)
    (hown : ∀ t, Law4 t → Law4 (own t)) (hadj : ∀ t, Law4 t → Law4 (adj t)) : Law4 (onMgmt h k body own adj s) := by
  refine receive_law4 hl fun t ht => ?_
  dsimp only
  split_ifs
  exacts [hown t ht, hadj t ht, ht.same (.of_eq rfl rfl), ht.same (forwardFrame_places ..)]

theorem onRequest_law4 {α : Type} {h : Hdr} {code : Nat} {rest : List Byte} {x : Option α} {k : α → State → State}
    (hl : Law4 s) (hk : ∀ y t, Law4 t → Law4 (k y t)) : Law4 (onRequest h code rest x k s) := by
  cases x with
  | none => exact onMgmt_law4 hl (fun _ ht => ht.same (.of_eq rfl rfl)) fun _ ht => ht.same (.of_eq rfl rfl)
  | some y => exact onMgmt_law4 hl (hk y) (hk y)

/-- A request that leaves what Law 4 reads. -/
theorem onRequest_places {α : Type} {h : Hdr} {code : Nat} {rest : List Byte} {x : Option α} {k : α → State → State}
    (hl : Law4 s) (hk : ∀ y t, Places none t (k y t)) : Law4 (onRequest h code rest x k s) :=
  onRequest_law4 hl fun y t ht => ht.same (hk y t)

/-! ## Path setup -/

/-- R21, R41, R55: a record is made at a FREE handle, in a state that no place of the ramp asks for. -/
theorem Law4.made (hl : Law4 s) {n : Nat} (hn : s.ctx n = none) {c : Context} (hst : c.st.offRamp = true)
    (ing eg first count : Nat) : Law4 (reserveSpan n ing eg first count (allocate n c s)) := by
  have off : Law4But (some n) s := hl.off fun d hd => by rw [hn] at hd; cases hd
  have made : Places (some n) s (allocate n c s) := (Places.setCtx s n (some c)).trans (.of_eq rfl rfl)
  refine (((off.same made).law4 fun d hd => ?_)).same (.dir (reserveSpan_dirOnly ..))
  have hd : (s.setCtx n (some c)).ctx n = some d := hd
  rw [State.setCtx_ctx, if_pos rfl] at hd
  cases hd
  intro e
  rw [e] at hst
  cases hst

theorem admission_law4 {role : Role} {ing eg i : Nat} {b : SetupBody} (hl : Law4 s) :
    Law4 (admission role ing eg i b s).2 := by
  have hd := judgeSpan_dirOnly ing eg b.first b.count b.cls s
  have judged : Law4 (judgeSpan ing eg b.first b.count b.cls s).2 := hl.same (.dir hd)
  unfold admission
  dsimp only
  split
  · exact judged
  · exact judged
  · exact judged
  · exact judged
  · rename_i n _ _ _ hn
    exact (judged.made ((hd.ctx n).trans (lowestFree_ctx hn)) (c := newContext s role ing eg b i) rfl ..).same
      (.of_eq rfl rfl)

theorem takeSetup_law4 {h : Hdr} {b : SetupBody} (hl : Law4 s) : Law4 (takeSetup h b s) := by
  unfold takeSetup
  split
  · exact hl.same (.of_eq rfl rfl)
  split
  · exact hl.same (.of_eq rfl rfl)
  · rename_i role _
    have tried := fun ing eg i => admission_law4 (role := role) (ing := ing) (eg := eg) (i := i) (b := b) hl
    split <;> rename_i heq
    all_goals have ended := congrArg Prod.snd heq ▸ tried _ _ _
    · exact ended.same (.of_eq rfl rfl)
    · split
      exacts [ended.same (sendOn_places ..), ended.same (relay_places ..)]

theorem takeSetupAck_law4 {h : Hdr} {body : List Byte} {id : Nat} (hl : Law4 s) :
    Law4 (takeSetupAck h body id s) := by
  have strayed : Law4 (stray s) := hl.same (.of_eq rfl rfl)
  unfold takeSetupAck
  split
  · exact strayed
  rename_i n c hf
  have acked : Places none s (s.modCtx n fun c => { c with setupAcked := true }) := .modCtx fun _ => rfl
  split_ifs with hst
  · dsimp only
    split
    · exact beginProbe_law4 (hl.same acked) ((hl.found hf).same acked) (awaitsReply_reserved hst)
    · exact hl.same (.after (relay_places ..) acked)
    · exact strayed
  · exact strayed

theorem takeSetupReject_law4 {h : Hdr} {body : List Byte} {x : Nat × Reason × Nat} (hl : Law4 s) :
    Law4 (takeSetupReject h body x s) := by
  have strayed : Law4 (stray s) := hl.same (.of_eq rfl rfl)
  unfold takeSetupReject
  split
  · exact strayed
  rename_i hf
  have freed := freeRecord_law4 hl (hl.found hf)
  split_ifs
  · split
    exacts [freed.same (tellEvent_places ..), freed.same (relay_places ..), strayed]
  · exact strayed

/-! ## The probe phase -/

theorem takeProbeFrame_law4 {h : Hdr} {body : List Byte} {x : Nat × Nat} (hl : Law4 s) :
    Law4 (takeProbeFrame h body x s) := by
  have strayed : Law4 (stray s) := hl.same (.of_eq rfl rfl)
  unfold takeProbeFrame
  split
  · exact strayed
  rename_i hf
  split_ifs
  · split
    exacts [takeProbe_law4 hl (hl.found hf), takeProbe_law4 hl (hl.found hf), hl.same (answerArmed_places ..), strayed]
  · exact strayed

theorem takeProbeAck_law4 {h : Hdr} {body : List Byte} {x : Nat × Nat × Bool} (hl : Law4 s) :
    Law4 (takeProbeAck h body x s) := by
  have strayed : Law4 (stray s) := hl.same (.of_eq rfl rfl)
  unfold takeProbeAck
  split
  · exact strayed
  rename_i hf
  have hc := hl.found hf
  split
  · split
    · exact (closeMaint_law4 hl hc).same (tellEvent_places ..)
    · rename_i hst _; exact armHead_law4 hl hc hst
    · split_ifs
      exacts [(closeMaint_law4 hl hc).same (relay_places ..), strayed]
    · rename_i hst _
      split_ifs
      exacts [(hl.entered hc (by rw [hst]; rfl) (st := .armed) nofun).same (relay_places ..), strayed]
    · exact strayed
    · exact hl.same (relay_places ..)
    · exact strayed
  · exact strayed

theorem takeProbeNak_law4 {h : Hdr} {body : List Byte} {x : Nat × Nat × Nat} (hl : Law4 s) :
    Law4 (takeProbeNak h body x s) := by
  have strayed : Law4 (stray s) := hl.same (.of_eq rfl rfl)
  unfold takeProbeNak
  split
  · exact strayed
  rename_i hf
  split
  · split
    · exact hl.same (relay_places ..)
    · split_ifs
      exacts [stepLadder_law4 hl (hl.found hf), strayed]
    · exact strayed
  · exact strayed

theorem probeDwellExpired_law4 {n i : Nat} (hl : Law4 s) : Law4 (probeDwellExpired n i s) := by
  unfold probeDwellExpired
  split
  · exact hl
  · rename_i hcur
    split_ifs
    exacts [stepLadder_law4 hl (.of_current hcur), hl]

theorem probeWindowExpired_places (n i : Nat) (s : State) : Places none s (probeWindowExpired n i s) := by
  unfold probeWindowExpired
  split
  · exact .refl s
  · exact .ite (.after (sendOn_places ..) (.modCtx fun _ => rfl)) (.refl s)

/-! ## Service, withdrawal and faults -/

/-- R116: an ARMED record that joins its queue holds no turn. -/
theorem takeAdvance_law4 {h : Hdr} {x : Nat × List HopReport} (hl : Law4 s) : Law4 (takeAdvance h x s) := by
  have strayed : Law4 (stray s) := hl.same (.of_eq rfl rfl)
  unfold takeAdvance
  split
  · exact strayed
  rename_i n c hf
  split_ifs with hfits
  · obtain ⟨-, -, hst, -⟩ := hfits
    have hc := hl.found hf
    have kept : Places none s (s.modCtx n fun c => { c with carried := some x.2 }) := .modCtx fun _ => rfl
    refine joinRamp_law4 (hl.same kept) (hc.same kept) (.inl hst) fun i ht => ?_
    obtain ⟨⟨d, hd, -, -, hon⟩, -⟩ := (hl.same kept).2.1 _ _ _ ht
    have hdst := (Context.place_eq_iff.1 ((hc.same kept).eq_of_some hd)).2.2
    simp [hdst, hst] at hon
  · exact strayed

theorem takeReady_law4 {h : Hdr} {body : List Byte} {x : Nat × List HopReport} (hl : Law4 s) :
    Law4 (takeReady h body x s) := by
  have strayed : Law4 (stray s) := hl.same (.of_eq rfl rfl)
  unfold takeReady
  split
  · exact strayed
  rename_i hf
  split_ifs with hfits
  · obtain ⟨-, hst, -⟩ := hfits
    have served := hl.entered (hl.found hf) (by rw [hst]; rfl) (st := .inService) nofun
    split
    exacts [served.same (relay_places ..), served.same (.after (tellEvent_places ..) (.modCtx fun _ => rfl)), strayed]
  · exact strayed

theorem passTeardown_places (h : Hdr) (b : TeardownBody) (e : Hop) (rec : Option Nat) (s : State) :
    Places none s (passTeardown h b e rec s) := by
  unfold passTeardown
  split_ifs
  · split
    exacts [.of_eq rfl rfl, relay_places ..]
  · split
    exacts [event_places .., tellEvent_places ..]

theorem takeTeardown_law4 {h : Hdr} {b : TeardownBody} (hl : Law4 s) : Law4 (takeTeardown h b s) := by
  unfold takeTeardown
  split
  · exact hl.same (.of_eq rfl rfl)
  split_ifs
  · exact hl.same (.of_eq rfl rfl)
  split
  · exact hl.same (passTeardown_places ..)
  · rename_i n c hf
    have asked : Places none s (askWss .safety .setBlock false .safety n c s) := askWss_places ..
    split_ifs
    · exact hl.same (.of_eq rfl rfl)
    · exact (freeRecord_law4 (hl.same asked) ((hl.found hf).same asked)).same (passTeardown_places ..)

theorem deadlineExpired_law4 {n i : Nat} (hl : Law4 s) : Law4 (deadlineExpired n i s) := by
  unfold deadlineExpired
  split
  · exact hl
  rename_i c hcur
  have hc : Placed n c s := .of_current hcur
  split_ifs
  · split
    exacts [localFault_law4 hl hc, localFault_law4 hl hc, localFault_law4 hl hc, localFault_law4 hl hc,
      freeRecord_law4 hl hc, hl]
  · exact hl

theorem stepDwellExpired_places (n i : Nat) (s : State) : Places none s (stepDwellExpired n i s) := by
  unfold stepDwellExpired
  split
  · exact .refl s
  refine .ite ?_ (.refl s)
  dsimp only
  split
  exacts [.after (startStep_places ..) (.modCtx fun _ => rfl), .after (withdrawStep_places ..) (.modCtx fun _ => rfl),
    .refl s]

theorem auditExpired_places (f : Nat) (s : State) : Places none s (auditExpired f s) :=
  .ite (.ite (.of_eq rfl rfl) (.after (judgeAudit_places ..) (.of_eq rfl rfl))) (.refl s)

end Sys2Proof.Machine
end

section
/-! SUPPORT. Law 4 under every command: management requests, and every command. -/
namespace Sys2Proof.Machine

variable {s : State}

/-! ## Requests that leave what Law 4 reads -/

theorem Places.of_view {t : State} (hv : t.view = s.view) (hf : t.ramp.faces = s.ramp.faces) : Places none s t :=
  .of_eq (State.view_eq_iff.1 hv).1 hf

theorem retimeAudit_ramp (f old new : Nat) (s : State) : (retimeAudit f old new s).ramp = s.ramp := by
  unfold retimeAudit
  split_ifs <;> rfl

theorem writeFace_places (h : Hdr) (x : (Nat × Nat) × FaceWrite) (s : State) : Places none s (writeFace h x s) := by
  refine .of_view (writeFace_view ..) ?_
  unfold writeFace
  dsimp only
  split_ifs <;> rfl

theorem respond_places (h : Hdr) (code : Nat) (st : Status) (r : List Byte) (s : State) :
    Places none s (respond h code st r s) := .of_eq rfl rfl

theorem respondWrite_places (h : Hdr) (t : Nat) (ix : Nat × Nat) (st : Status) (r : List Byte) (s : State) :
    Places none s (respondWrite h t ix st r s) := .of_eq rfl rfl

theorem writeBlock_places (h : Hdr) (x : (Nat × Nat) × BlockWrite) (s : State) : Places none s (writeBlock h x s) := by
  unfold writeBlock
  dsimp only
  split
  · exact respondWrite_places ..
  split
  · exact respondWrite_places ..
  split
  · exact respondWrite_places ..
  · refine .after (respondWrite_places ..) ?_
    split
    exacts [.after (.dir (clearPage_dirOnly ..)) (.of_eq rfl rfl), .of_eq rfl rfl]

theorem writeSlot_places (h : Hdr) (x : (Nat × Nat) × Nat) (s : State) : Places none s (writeSlot h x s) := by
  have written (f slot : Nat) (a k : EntryKind) : (writeLive f a k (setKind f slot k s)).ramp = s.ramp :=
    (liveChange_dirOnly ..).ramp.trans (setKind_dirOnly ..).ramp
  refine .of_view (writeSlot_view ..) ?_
  unfold writeSlot
  dsimp only
  split
  · rfl
  split
  · rfl
  split
  · rfl
  split
  exacts [rfl, rfl, congrArg RampEngine.faces (written ..)]

theorem writeSettings_places (h : Hdr) (x : (Nat × Nat) × SettingsWrite) (s : State) :
    Places none s (writeSettings h x s) := by
  have retimed (f old new : Nat) (t : State) : (retimeAudit f old new t).ramp.faces = t.ramp.faces :=
    congrArg RampEngine.faces (retimeAudit_ramp ..)
  refine .of_view (writeSettings_view ..) ?_
  unfold writeSettings
  dsimp only
  split_ifs
  exacts [rfl, rfl, rfl, retimed .., retimed ..]

theorem writeProfile_places (h : Hdr) (x : (Nat × Nat) × Profile) (s : State) :
    Places none s (writeProfile h x s) := by
  unfold writeProfile
  dsimp only
  split_ifs <;> exact .of_eq rfl rfl

theorem writeElement_places (h : Hdr) (x : (Nat × Nat) × ElementWrite) (s : State) :
    Places none s (writeElement h x s) := by
  unfold writeElement
  dsimp only
  split
  · exact .of_eq rfl rfl
  split
  · exact .of_eq rfl rfl
  · split <;> exact .of_eq rfl rfl

theorem writeRoute_places (h : Hdr) (x : (Nat × Nat) × Route) (s : State) : Places none s (writeRoute h x s) := by
  unfold writeRoute
  dsimp only
  split_ifs <;> exact .of_eq rfl rfl

theorem writeNode_places (h : Hdr) (x : (Nat × Nat) × NodeWrite) (s : State) : Places none s (writeNode h x s) := by
  unfold writeNode
  dsimp only
  split_ifs <;> exact .of_eq rfl rfl

theorem flagsClear_places (h : Hdr) (x : Nat × Nat) (s : State) : Places none s (flagsClear h x s) := by
  have cleared (t : State) : Places none t ((List.range 24).foldl (fun u b => clearBlockFlags x.1 b u) t) :=
    .dir (DirOnly.foldl (fun u b => clearBlockFlags_dirOnly x.1 b u) (List.range 24) t)
  have face : Places none s (s.modFace x.1 fun y => { y with used := false }) := .of_eq rfl rfl
  unfold flagsClear
  split
  · exact respond_places ..
  split
  · exact .after (respond_places ..) (face.trans (cleared _))
  · exact .after (respond_places ..) (.dir (clearBlockFlags_dirOnly x.1 x.2 s))

theorem contextRead_places (h : Hdr) (id : Nat) (s : State) : Places none s (contextRead h id s) := by
  unfold contextRead
  split <;> exact .of_eq rfl rfl

theorem contextList_places (h : Hdr) (n : Nat) (s : State) : Places none s (contextList h n s) :=
  .ite (.of_eq rfl rfl) (.of_eq rfl rfl)

theorem elementRead_places (h : Hdr) (x : Nat × Nat × Nat) (s : State) : Places none s (elementRead h x s) := by
  unfold elementRead
  split <;> exact .of_eq rfl rfl

theorem elementRevive_places (h : Hdr) (e : Nat) (s : State) : Places none s (elementRevive h e s) :=
  .ite (.of_eq rfl rfl) (.of_eq rfl rfl)

theorem capabilitySet_places (h : Hdr) (w : Overlay) (s : State) : Places none s (capabilitySet h w s) :=
  .ite (.of_eq rfl rfl) (.of_eq rfl rfl)

theorem capabilityRestore_places (h : Hdr) (x : Unit) (s : State) : Places none s (capabilityRestore h x s) :=
  .ite (.of_eq rfl rfl) (.of_eq rfl rfl)

theorem capabilityFreeze_places (h : Hdr) (x : Unit) (s : State) : Places none s (capabilityFreeze h x s) :=
  .ite (.of_eq rfl rfl) (.of_eq rfl rfl)

theorem countersRead_places (h : Hdr) (clear : Bool) (s : State) : Places none s (countersRead h clear s) := by
  have cleared : Places none s (clearCounters s) := by
    rw [clearCounters_eq]
    exact .of_eq rfl rfl
  exact .after (respond_places ..) (.ite cleared (.refl s))

/-! ## Requests that make, withdraw or free records -/

theorem commission_law4 {h : Hdr} {b : SetupBody} (hl : Law4 s) : Law4 (commission h b s) := by
  unfold commission
  split
  · exact hl.same (.of_eq rfl rfl)
  split
  · exact hl.same (.of_eq rfl rfl)
  split
  · exact hl.same (.of_eq rfl rfl)
  have tried := fun ing eg i => admission_law4 (role := .head) (ing := ing) (eg := eg) (i := i) (b := b) hl
  split <;> rename_i heq
  all_goals have ended := congrArg Prod.snd heq ▸ tried _ _ _
  · exact ended.same (.of_eq rfl rfl)
  · exact ended.same (.after (sendOn_places ..) (.of_eq rfl rfl))

/-- R120: an IN_SERVICE record is off the ramp until its withdrawal begins. -/
theorem startWithdrawal_law4 {n : Nat} {c : Context} (hl : Law4 s) (hc : Placed n c s) (hst : c.st = .inService) :
    Law4 (startWithdrawal n c s) := by
  have off := hl.off_of_placed hc (by rw [hst]; rfl)
  refine joinRamp_law4 (c := c.inState .withdrawing) (off.entered c (st := .withdrawing) nofun)
    (hc.entered c .withdrawing) (.inr rfl) fun i ht => ?_
  rw [(changeState_places n c .withdrawing s).turn] at ht
  exact (off.turns _ _ _ ht).1 rfl

theorem withdraw_law4 {h : Hdr} {id : Nat} (hl : Law4 s) : Law4 (withdraw h id s) := by
  have answered {t : State} (ht : Law4 t) (st : Status) : Law4 (respond h reqWithdraw st [] t) :=
    ht.same (.of_eq rfl rfl)
  unfold withdraw
  split
  · exact answered hl _
  rename_i n c hf
  have hc := hl.found hf
  split
  · exact answered hl _
  split
  · rename_i hst
    split
    exacts [answered hl _, answered (startWithdrawal_law4 hl hc hst) _]
  · exact answered hl _
  · have asked : Places none s (sendTeardown c (askSafety n c s)) := .after (sendOn_places ..) (askWss_places ..)
    exact answered (freeRecord_law4 (hl.same asked) (hc.same asked)) _

theorem adopt_law4 {h : Hdr} {b : AdoptBody} (hl : Law4 s) : Law4 (adopt h b s) := by
  have hd := judgeSpan_dirOnly b.ingress b.egress b.first b.count b.cls s
  have judged := hl.same (.dir hd)
  unfold adopt
  split
  · exact hl.same (.of_eq rfl rfl)
  dsimp only
  split
  · exact judged.same (.of_eq rfl rfl)
  · exact judged.same (.of_eq rfl rfl)
  rename_i n _ hn
  split_ifs
  · exact judged.same (.of_eq rfl rfl)
  · generalize (judgeSpan b.ingress b.egress b.first b.count b.cls s).2 = t at hd judged ⊢
    exact (judged.made ((hd.ctx n).trans (lowestFree_ctx hn)) (c := adoptedContext t b) rfl ..).same (.of_eq rfl rfl)

theorem contextDiscard_law4 {h : Hdr} {id : Nat} (hl : Law4 s) : Law4 (contextDiscard h id s) := by
  unfold contextDiscard
  split
  · exact hl.same (.of_eq rfl rfl)
  · rename_i n c hf
    have freed : Law4 (respond h reqContextDiscard .ok [] (freeRecord n c s)) :=
      (freeRecord_law4 hl (hl.found hf)).same (.of_eq rfl rfl)
    split
    exacts [freed, freed, hl.same (.of_eq rfl rfl)]

/-! ## The resets -/

/-- With no place on any ramp and no RAMPING record Law 4 holds. -/
theorem law4_of_idle (hw : s.table.recs.wf) (hf : ∀ f, (s.rampFace f).places = (none, []))
    (hst : ∀ h c, s.ctx h = some c → c.st ≠ .ramping) : Law4 s := by
  have turn (f : Nat) : (s.rampFace f).turn = none := congrArg Prod.fst (hf f)
  have queue (f : Nat) : (s.rampFace f).queue = [] := congrArg Prod.snd (hf f)
  refine ⟨hw, fun f h i ht => ?_, fun f e he => ?_, fun f => ?_, fun h c hc hr => absurd hr (hst h c hc)⟩
  · rw [turn] at ht; cases ht
  · rw [queue] at he; cases he
  · rw [queue]; exact List.nodup_nil

/-- R112, R182: the ramps are cleared, and of the records only those IN_SERVICE stay. -/
theorem nodeResetSteps_law4 (hl : Law4 s) : Law4 (nodeResetSteps s) := by
  refine law4_of_idle (nodeResetSteps_since (.refl hl.1)).wf (fun f => ?_) fun h c hc => ?_
  · rw [State.rampFace, nodeResetSteps_only]
    rfl
  · rw [nodeResetSteps_ctx, servedOnly, Option.filter_eq_some_iff] at hc
    rw [of_decide_eq_true hc.2]
    nofun

theorem localUp_places (s : State) : Places none s (localUp s) := .after (event_places ..) (.of_eq rfl rfl)

theorem powerOn_law4 {straps : Nat} : Law4 (powerOn straps s) := by
  have line (p : Nat) (t : State) : Places none t (powerOnLine p t) := .ite (.of_eq rfl rfl) (.refl t)
  have lines {t : State} (ht : Law4 t) : Law4 ((List.range 8).foldl (fun t p => powerOnLine p t) t) :=
    foldl_keeps (P := Law4) (fun u p _ hu => hu.same (line p u)) ht
  have cleared {t : State} (hr : t.table.recs = Tab.empty none) (hf : t.ramp.faces = Tab.empty RampFace.initial) :
      Law4 t :=
    law4_of_idle (hr ▸ Tab.wf_empty) (fun f => by rw [State.rampFace, hf]; rfl)
      fun h c hc => by rw [State.ctx, hr] at hc; nomatch hc
  unfold powerOn
  dsimp only
  split_ifs
  exacts [(lines (cleared rfl rfl)).same (localUp_places _), lines (cleared rfl rfl)]

/-! ## Every command -/

/-- What a command answers keeps Law 4. -/
def KeepsLaw4 (o : Host.Outcome State Fault Refusal) : Prop := ∀ t, o = .next t → Law4 t

theorem KeepsLaw4.next {t : State} (h : Law4 t) : KeepsLaw4 (.next t) := fun _ e => by cases e; exact h

theorem KeepsLaw4.ite {p : Prop} [Decidable p] {a b : Host.Outcome State Fault Refusal} (ha : KeepsLaw4 a)
    (hb : KeepsLaw4 b) : KeepsLaw4 (if p then a else b) := by split_ifs <;> assumption

/-- A commissioning frame taken to the end of its take. -/
theorem KeepsLaw4.frame (hl : Law4 s) {α : Type} {hd : Hdr} {x : Option α} {k : α → State → State}
    (hk : ∀ y t, Law4 t → Law4 (k y t)) :
    KeepsLaw4 (.next (endTake (receive hd.port false (commissioning hd x k) s))) :=
  .next (endTake_law4 (commissioning_law4 hl hk))

/-- A request taken to the end of its take. -/
theorem KeepsLaw4.request (hl : Law4 s) {α : Type} {h : Hdr} {code : Nat} {rest : List Byte} {x : Option α}
    {k : α → State → State} (hk : ∀ y t, Law4 t → Law4 (k y t)) :
    KeepsLaw4 (.next (endTake (onRequest h code rest x k s))) := .next (endTake_law4 (onRequest_law4 hl hk))

/-- A request that leaves what Law 4 reads. -/
theorem KeepsLaw4.places (hl : Law4 s) {α : Type} {h : Hdr} {code : Nat} {rest : List Byte} {x : Option α}
    {k : α → State → State} (hk : ∀ y t, Places none t (k y t)) : KeepsLaw4 (.next (onRequest h code rest x k s)) :=
  .next (onRequest_places hl hk)

section
variable (hl : Law4 s)
include hl

/-! ## Pins, timers, the element bus -/

theorem execSignalPresent_law4 {p : Fin 8} : KeepsLaw4 (execSignalPresent p s) :=
  .ite (.next (hl.same (.of_eq rfl rfl))) (.next (hl.same (.of_eq rfl rfl)))

theorem execSignalLost_law4 {p : Fin 8} : KeepsLaw4 (execSignalLost p s) := by
  unfold execSignalLost
  dsimp only
  split
  · exact .next (hl.same (.of_eq rfl rfl))
  · exact .next (hl.same (.of_eq rfl rfl))
  · exact .next (endTake_law4 (leaveUp_law4 (hl.same (.of_eq rfl rfl))))

theorem execCarrierPresent_law4 : KeepsLaw4 (execCarrierPresent s) :=
  .ite (.next (hl.same (.after (event_places ..) (.of_eq rfl rfl)))) (.next (hl.same (.of_eq rfl rfl)))

theorem execCarrierLost_law4 : KeepsLaw4 (execCarrierLost s) :=
  .ite (.next (leaveUp_law4 (hl.same (.of_eq rfl rfl)))) (.next (hl.same (.of_eq rfl rfl)))

theorem execHelloTimerExpiry_law4 {p : Fin 8} : KeepsLaw4 (execHelloTimerExpiry p s) :=
  .ite (.next (hl.same (.of_eq rfl rfl))) (.next hl)

theorem execDeadTimerExpiry_law4 {p : Fin 8} : KeepsLaw4 (execDeadTimerExpiry p s) :=
  .ite (.next (endTake_law4 (leaveUp_law4 hl))) (.next hl)

theorem execTransmissionEnd_law4 {p : Fin 9} : KeepsLaw4 (execTransmissionEnd p s) := by
  unfold execTransmissionEnd
  split
  exacts [.next hl, .next (hl.same (.of_eq rfl rfl))]

theorem execSettlePeriodEnd_law4 {e : Fin 32} : KeepsLaw4 (execSettlePeriodEnd e s) :=
  .ite (.next (hl.same (.after (arbitrate_places _) (.of_eq rfl rfl)))) (.next hl)

theorem execTurnaroundEnd_law4 : KeepsLaw4 (execTurnaroundEnd s) := by
  unfold execTurnaroundEnd
  split
  · split
    exacts [.next (hl.same (.of_eq rfl rfl)), .next hl]
  · exact .next hl

theorem execElementAnswer_law4 {txn : Nat} {a : Answer} : KeepsLaw4 (execElementAnswer txn a s) := by
  unfold execElementAnswer
  split
  · split
    · exact .ite (.next (endTake_law4 (hl.same (endTxn_places ..)))) (.next hl)
    · exact .next hl
  · exact .next hl

theorem execResponseTimeout_law4 : KeepsLaw4 (execResponseTimeout s) := by
  unfold execResponseTimeout
  split
  · split
    · exact .ite (.next (endTake_law4 (hl.same (endTxn_places ..)))) (.next hl)
    · exact .next hl
  · exact .next hl

/-! ## Frames -/

section
variable {h : Hdr} {body params : List Byte}

theorem onSetup_law4 : Law4 (onSetup h body s) := commissioning_law4 hl fun _ _ ht => takeSetup_law4 ht

theorem execHello_law4 : KeepsLaw4 (execHello h body s) :=
  .next (endTake_law4 (receive_law4 hl fun _ ht => takeHello_law4 ht))

theorem execSetupAck_law4 : KeepsLaw4 (execSetupAck h body s) := .frame hl fun _ _ ht => takeSetupAck_law4 ht

theorem execSetupReject_law4 : KeepsLaw4 (execSetupReject h body s) := .frame hl fun _ _ ht => takeSetupReject_law4 ht

theorem execProbe_law4 : KeepsLaw4 (execProbe h body s) := .frame hl fun _ _ ht => takeProbeFrame_law4 ht

theorem execProbeAck_law4 : KeepsLaw4 (execProbeAck h body s) := .frame hl fun _ _ ht => takeProbeAck_law4 ht

theorem execProbeNak_law4 : KeepsLaw4 (execProbeNak h body s) := .frame hl fun _ _ ht => takeProbeNak_law4 ht

theorem execAdvance_law4 : KeepsLaw4 (execAdvance h body s) := .frame hl fun _ _ ht => takeAdvance_law4 ht

theorem execReady_law4 : KeepsLaw4 (execReady h body s) := .frame hl fun _ _ ht => takeReady_law4 ht

theorem execFault_law4 : KeepsLaw4 (execFault h body s) := .frame hl fun _ _ ht => takeFault_law4 ht

theorem execTeardown_law4 : KeepsLaw4 (execTeardown h body s) := .frame hl fun _ _ ht => takeTeardown_law4 ht

theorem onReply_law4 {k : FrameKind} : KeepsLaw4 (.next (onReply h k body s)) :=
  .next (onMgmt_law4 hl (fun _ ht => ht.same (.of_eq rfl rfl)) fun _ ht => ht.same (.of_eq rfl rfl))

/-! ## Requests -/

/-- R173: a TABLE WRITE by its table code. -/
theorem tableWriteAs_law4 : KeepsLaw4 (tableWriteAs h body s) := by
  have nothing {code : Nat} {rest : List Byte} :
      KeepsLaw4 (.next (onRequest h code rest (none : Option Unit) (fun _ s => s) s)) := .places hl fun _ t => .refl t
  unfold tableWriteAs
  split
  · exact nothing
  split
  · exact .places hl fun _ _ => writeFace_places ..
  · exact .places hl fun _ _ => writeBlock_places ..
  · exact .places hl fun _ _ => writeSlot_places ..
  · exact .places hl fun _ _ => writeSettings_places ..
  · exact .places hl fun _ _ => writeProfile_places ..
  · exact .places hl fun _ _ => writeElement_places ..
  · exact .places hl fun _ _ => writeRoute_places ..
  · exact .places hl fun _ _ => writeNode_places ..
  · exact nothing

theorem execCommission_law4 : KeepsLaw4 (execCommission h params s) :=
  .next (onRequest_law4 hl fun _ _ ht => commission_law4 ht)

theorem execAdopt_law4 : KeepsLaw4 (execAdopt h params s) := .next (onRequest_law4 hl fun _ _ ht => adopt_law4 ht)

theorem execWithdraw_law4 : KeepsLaw4 (execWithdraw h params s) := .request hl fun _ _ ht => withdraw_law4 ht

theorem execContextDiscard_law4 : KeepsLaw4 (execContextDiscard h params s) :=
  .request hl fun _ _ ht => contextDiscard_law4 ht

theorem execElementRead_law4 : KeepsLaw4 (execElementRead h params s) :=
  .request hl fun _ _ ht => ht.same (elementRead_places ..)

theorem execNodeReset_law4 : KeepsLaw4 (execNodeReset h params s) :=
  .next (Law4.same (onRequest_law4 hl fun _ _ ht => (nodeResetSteps_law4 ht).same (respond_places ..))
    (arbitrate_places _))

/-- R172: a MGMT-REQUEST by its request code. -/
theorem requestAs_law4 : KeepsLaw4 (requestAs h body s) := by
  have answered (t : State) (ht : Law4 t) (p src : Nat) (tag : Byte) (b : List Byte) :
      Law4 (respondTo p src tag b t) := ht.same (.of_eq rfl rfl)
  unfold requestAs
  split
  · exact .next (onMgmt_law4 hl (fun _ ht => answered _ ht ..) fun _ ht => answered _ ht ..)
  split
  · exact .places hl fun _ _ => .of_eq rfl rfl
  · exact tableWriteAs_law4 hl
  · exact .places hl fun _ _ => flagsClear_places ..
  · exact execCommission_law4 hl
  · exact execWithdraw_law4 hl
  · exact execAdopt_law4 hl
  · exact .places hl fun _ _ => contextRead_places ..
  · exact .places hl fun _ _ => contextList_places ..
  · exact execContextDiscard_law4 hl
  · exact execElementRead_law4 hl
  · exact .places hl fun _ _ => elementRevive_places ..
  · exact .places hl fun _ _ => respond_places ..
  · exact .places hl fun _ _ => capabilitySet_places ..
  · exact .places hl fun _ _ => capabilityRestore_places ..
  · exact .places hl fun _ _ => capabilityFreeze_places ..
  · exact .places hl fun _ _ => countersRead_places ..
  · exact execNodeReset_law4 hl
  · exact .places hl fun _ t => .refl t

theorem managementRequest_law4 : KeepsLaw4 (managementRequest h body s) :=
  .ite (requestAs_law4 hl) (.next (onMgmt_law4 hl (fun _ ht => ht) fun _ ht => ht))

theorem execForwarding_law4 {k : MgmtKind} : KeepsLaw4 (execForwarding h k body s) := by
  cases k
  exacts [managementRequest_law4 hl, onReply_law4 hl, onReply_law4 hl]

end

/-- R166: a received frame, as the command of its kind. -/
theorem frameAs_law4 {p : Fin 9} {f : Frame} : KeepsLaw4 (frameAs p f s) := by
  unfold frameAs
  dsimp only
  split
  · exact execHello_law4 hl
  · exact .next (onSetup_law4 hl)
  · exact execSetupAck_law4 hl
  · exact execSetupReject_law4 hl
  · exact execProbe_law4 hl
  · exact execProbeAck_law4 hl
  · exact execProbeNak_law4 hl
  · exact execAdvance_law4 hl
  · exact execReady_law4 hl
  · exact execFault_law4 hl
  · exact execTeardown_law4 hl
  · exact managementRequest_law4 hl
  · exact onReply_law4 hl
  · exact onReply_law4 hl

theorem execRxFrameRejected_law4 {p : Fin 9} {bytes : List Byte} : KeepsLaw4 (execRxFrameRejected p bytes s) := by
  unfold execRxFrameRejected
  split
  exacts [.next (hl.same (.of_eq rfl rfl)), .next (hl.same (.of_eq rfl rfl)), frameAs_law4 hl]

/-- Every command keeps Law 4. -/
theorem exec_law4 (i : Instr) : KeepsLaw4 (exec i s) := by
  cases i with
  | powerOnReset => exact .next powerOn_law4
  | signalPresent => exact execSignalPresent_law4 hl
  | signalLost => exact execSignalLost_law4 hl
  | carrierPresent => exact execCarrierPresent_law4 hl
  | carrierLost => exact execCarrierLost_law4 hl
  | burstReport => exact .next (endTake_law4 (takeBurst_law4 hl))
  | rxFrameRejected => exact execRxFrameRejected_law4 hl
  | hello => exact execHello_law4 hl
  | setup => exact .next (onSetup_law4 hl)
  | setupAck => exact execSetupAck_law4 hl
  | setupReject => exact execSetupReject_law4 hl
  | probe => exact execProbe_law4 hl
  | probeAck => exact execProbeAck_law4 hl
  | probeNak => exact execProbeNak_law4 hl
  | advance => exact execAdvance_law4 hl
  | ready => exact execReady_law4 hl
  | fault => exact execFault_law4 hl
  | teardown => exact execTeardown_law4 hl
  | forwarding => exact execForwarding_law4 hl
  | responseEventDelivery => exact onReply_law4 hl
  | unknownRequestCode => exact requestAs_law4 hl
  | tableRead => exact .places hl fun _ _ => .of_eq rfl rfl
  | faceDescriptorWrite => exact .places hl fun _ _ => writeFace_places ..
  | blockDescriptorWrite => exact .places hl fun _ _ => writeBlock_places ..
  | slotEntryWrite => exact .places hl fun _ _ => writeSlot_places ..
  | faceSettingsWrite => exact .places hl fun _ _ => writeSettings_places ..
  | profileWrite => exact .places hl fun _ _ => writeProfile_places ..
  | elementWrite => exact .places hl fun _ _ => writeElement_places ..
  | routeWrite => exact .places hl fun _ _ => writeRoute_places ..
  | nodeSettingsWrite => exact .places hl fun _ _ => writeNode_places ..
  | flagsClear => exact .places hl fun _ _ => flagsClear_places ..
  | commission => exact execCommission_law4 hl
  | withdraw => exact execWithdraw_law4 hl
  | adopt => exact execAdopt_law4 hl
  | contextRead => exact .places hl fun _ _ => contextRead_places ..
  | contextList => exact .places hl fun _ _ => contextList_places ..
  | contextDiscard => exact execContextDiscard_law4 hl
  | elementRead => exact execElementRead_law4 hl
  | elementRevive => exact .places hl fun _ _ => elementRevive_places ..
  | capabilityIdentify => exact .places hl fun _ _ => respond_places ..
  | capabilitySet => exact .places hl fun _ _ => capabilitySet_places ..
  | capabilityRestore => exact .places hl fun _ _ => capabilityRestore_places ..
  | capabilityFreeze => exact .places hl fun _ _ => capabilityFreeze_places ..
  | countersRead => exact .places hl fun _ _ => countersRead_places ..
  | nodeReset => exact execNodeReset_law4 hl
  | helloTimerExpiry => exact execHelloTimerExpiry_law4 hl
  | deadTimerExpiry => exact execDeadTimerExpiry_law4 hl
  | deadlineExpiry => exact .next (endTake_law4 (deadlineExpired_law4 hl))
  | probeDwellExpiry => exact .next (endTake_law4 (probeDwellExpired_law4 hl))
  | probeWindowExpiry => exact .next (hl.same (probeWindowExpired_places ..))
  | stepDwellExpiry => exact .next (endTake_law4 (hl.same (stepDwellExpired_places ..)))
  | auditTimerExpiry => exact .next (endTake_law4 (hl.same (auditExpired_places ..)))
  | settlePeriodEnd => exact execSettlePeriodEnd_law4 hl
  | turnaroundEnd => exact execTurnaroundEnd_law4 hl
  | elementAnswer => exact execElementAnswer_law4 hl
  | responseTimeout => exact execResponseTimeout_law4 hl
  | transmissionEnd => exact execTransmissionEnd_law4 hl

/-- Every step keeps Law 4: the command at the front of the queue, or the passing of a millisecond. -/
theorem step_law4 : KeepsLaw4 (step s) := by
  unfold step
  split
  · exact .next (hl.same (.of_eq rfl rfl))
  · rename_i i rest _
    have dequeued : Places none s { s with pending := rest } := .of_eq rfl rfl
    exact exec_law4 (hl.same dequeued) i

end

end Sys2Proof.Machine
end

section
/-! CERTIFICATE. A ramp queue joined, a place given up, and Law 4 (O30). -/
namespace Sys2Proof.Machine

/-- The update of a ramp face tells by what it makes of the face that stands there. -/
theorem State.modRamp_congr {s : State} {f : Nat} {g k : RampFace → RampFace}
    (h : g (s.rampFace f) = k (s.rampFace f)) : s.modRamp f g = s.modRamp f k := by
  have h : g (s.ramp.faces.get f) = k (s.ramp.faces.get f) := h
  simp only [State.modRamp, Tab.mod, h]

/-! ## Joining a queue (R95) -/

theorem joinQueue_of_restore {q : List QEntry} {e : QEntry} (hq : ∀ x ∈ q, x.handle ≠ e.handle)
    (he : e.cls = .restore) :
    joinQueue q e = q.filter (fun x => x.cls = .restore) ++ [e] ++ q.filter (fun x => x.cls ≠ .restore) := by
  rw [joinQueue, if_neg (by simpa using hq), if_pos he]

theorem joinQueue_of_other {q : List QEntry} {e : QEntry} (hq : ∀ x ∈ q, x.handle ≠ e.handle)
    (he : e.cls ≠ .restore) : joinQueue q e = q ++ [e] := by
  rw [joinQueue, if_neg (by simpa using hq), if_neg he]

/-- R95: RESTORE entries stay ahead of the others. -/
theorem joinQueue_append {ahead behind : List QEntry} {e : QEntry} (ha : ∀ x ∈ ahead, x.cls = .restore)
    (hb : ∀ x ∈ behind, x.cls ≠ .restore) (hq : ∀ x ∈ ahead ++ behind, x.handle ≠ e.handle) :
    joinQueue (ahead ++ behind) e = if e.cls = .restore then ahead ++ e :: behind else ahead ++ (behind ++ [e]) := by
  split_ifs with he
  · have first : (ahead ++ behind).filter (fun x => x.cls = .restore) = ahead := by
      rw [List.filter_append, List.filter_eq_self.2 (by simpa using ha), List.filter_eq_nil_iff.2 (by simpa using hb),
        List.append_nil]
    have last : (ahead ++ behind).filter (fun x => x.cls ≠ .restore) = behind := by
      rw [List.filter_append, List.filter_eq_nil_iff.2 (by simpa using ha), List.filter_eq_self.2 (by simpa using hb),
        List.nil_append]
    rw [joinQueue_of_restore hq he, first, last, List.append_assoc, List.singleton_append]
  · rw [joinQueue_of_other hq he, List.append_assoc]

/-! ## The turn given up (R97, R99, R137) -/

section
variable {f n : Nat} {c : Context} {s : State}

/-- R137: a pending audit begins when the step in progress is cleared. -/
theorem clearStep_of_pending (hs : (s.rampFace f).inStep = true) (hp : (s.auditFace f).pending = true) :
    clearStep f s =
      ((s.modRamp f fun r => { r with inStep := false }).modAudit f fun a =>
        { a with pending := false, running := true, list := auditList s f, pos := 0 }).push [.measure f] := by
  rw [clearStep, if_pos hs, judgeAudit_of_pending (by simpa using hp) (by simp)]
  rfl

/-- R99: where none is pending only the indication is cleared. -/
theorem clearStep_of_notPending (h : ¬((s.rampFace f).inStep = true ∧ (s.auditFace f).pending = true)) :
    clearStep f s = s ∧ (s.rampFace f).inStep = false ∨
      clearStep f s = s.modRamp f fun r => { r with inStep := false } := by
  cases hs : (s.rampFace f).inStep
  · exact .inl ⟨clearStep_of_clear hs, rfl⟩
  · refine .inr ?_
    rw [clearStep, if_pos hs, judgeAudit_of_idle (.inl (by simpa [hs] using h))]

/-- The face and the record of a holder that has given up its turn. -/
def turnFreed (f n : Nat) (c : Context) (s : State) : State :=
  (s.modRamp f fun r => { r with turn := none, heldGet := false, inStep := false }).setCtx n
    (some { c with rampDwell := none })

theorem releaseTurn_of_pending (hc : s.ctx n = some c) (hs : (s.rampFace f).inStep = true)
    (hp : (s.auditFace f).pending = true) :
    releaseTurn f n s =
      ((turnFreed f n c s).modAudit f fun a =>
        { a with pending := false, running := true, list := auditList s f, pos := 0 }).push
          [.measure f, .judgeGrant f] := by
  have hr : ((s.modRamp f fun r => { r with inStep := false }).modRamp f fun r => { r with turn := none, heldGet := false }) =
      s.modRamp f fun r => { r with turn := none, heldGet := false, inStep := false } := State.modRamp_modRamp ..
  rw [turnFreed, ← hr]
  dsimp only [releaseTurn]
  rw [clearStep_of_pending (s := s.push [.judgeGrant f]) hs hp]
  rw [State.modCtx_of_some (c := c)]
  exacts [rfl, hc]

theorem releaseTurn_of_notPending (hc : s.ctx n = some c)
    (h : ¬((s.rampFace f).inStep = true ∧ (s.auditFace f).pending = true)) :
    releaseTurn f n s = (turnFreed f n c s).push [.judgeGrant f] := by
  have freed : (clearStep f (s.push [.judgeGrant f])).modRamp f (fun r => { r with turn := none, heldGet := false }) =
      (s.push [.judgeGrant f]).modRamp f fun r => { r with turn := none, heldGet := false, inStep := false } := by
    rcases clearStep_of_notPending (s := s.push [.judgeGrant f]) h with ⟨hk, hs⟩ | hk
    · rw [hk]
      refine State.modRamp_congr ?_
      rw [← hs]
    · rw [hk, State.modRamp_modRamp]
  rw [releaseTurn, freed]
  rw [State.modCtx_of_some (c := c)]
  exacts [rfl, hc]

/-- R97: the entry that leaves a queue is the only one of its handle. -/
theorem leaveRamp_of_entry {ahead behind : List QEntry} {cls : OriginClass}
    (ht : (s.rampFace c.egress).turn ≠ some (n, c.inst))
    (hq : (s.rampFace c.egress).queue = ahead ++ ⟨n, c.inst, cls⟩ :: behind) (hn : ∀ x ∈ ahead ++ behind, x.handle ≠ n) :
    leaveRamp n c s = (s.modRamp c.egress fun r => { r with queue := ahead ++ behind }).push [.judgeGrant c.egress] := by
  rw [leaveRamp_of_queued ht ⟨⟨n, c.inst, cls⟩, by simp [hq], rfl, rfl⟩]
  refine congrArg (fun t => State.push t _) (State.modRamp_congr ?_)
  have stay {l : List QEntry} (hl : ∀ x ∈ l, x.handle ≠ n) :
      l.filter (fun e => !(e.handle = n && e.inst = c.inst)) = l :=
    List.filter_eq_self.2 fun e he => by simp [hl e he]
  rw [hq, List.filter_append, List.filter_cons_of_neg (by simp), stay fun x hx => hn x (List.mem_append_left _ hx),
    stay fun x hx => hn x (List.mem_append_right _ hx)]

end

/-- Settles O30: the queue by the place of its RESTORE entries, the giving up of a place by the place it is, Law 4 from
what every command does to the places (`step_law4`). -/
theorem rampQueuePlacesKept : Obligations.RampQueuePlacesKept := by
  unfold Obligations.RampQueuePlacesKept
  refine ⟨fun ahead behind e ha hb => ⟨joinQueue_of_mem, joinQueue_append ha hb⟩, fun n c s hc => ⟨fun ht => ⟨?_, ?_⟩,
    fun _ _ _ => leaveRamp_of_entry, leaveRamp_of_offRamp⟩, fun s t hl => step_law4 hl t⟩
  · rw [leaveRamp_of_turn ht]
    exact releaseTurn_of_pending hc
  · rw [leaveRamp_of_turn ht]
    exact releaseTurn_of_notPending hc

end Sys2Proof.Machine
end

section
/-! CERTIFICATE. The grant of a free ramp turn (O31). -/
namespace Sys2Proof.Machine

theorem ProbeWork.idle_iff (w : ProbeWork) :
    w.idle = true ↔ w.outstanding = false ∧ w.level = Option.none ∧ w.start = false ∧ w.stop = false := by
  simp [ProbeWork.idle, and_assoc]

theorem judgeGrant_of_none {f : Nat} {s : State} (h : (s.rampFace f).turn ≠ none ∨ (s.rampFace f).queue = []) :
    judgeGrant f s = s := by
  unfold judgeGrant
  split
  · rename_i ht hq
    exact absurd h (by simp [ht, hq])
  · rfl

section
variable {f : Nat} {s : State} {e : QEntry} {rest : List QEntry} {c : Context}

/-- R96: the free turn is judged by the probe work of the record at the head of the queue. -/
theorem judgeGrant_of_head (ht : (s.rampFace f).turn = none) (hq : (s.rampFace f).queue = e :: rest)
    (hc : s.ctx e.handle = some c) (hi : c.inst = e.inst) :
    judgeGrant f s = if c.work.idle then grant f e c s else s := by
  have hcur : current s e.handle e.inst = some c := hi ▸ current_of_inst hc
  simp only [judgeGrant, ht, hq, hcur]

/-- R94, R96: the face and the record that the turn is granted to. -/
def turnHeld (f : Nat) (e : QEntry) (rest : List QEntry) (x : Context) (s : State) : State :=
  (s.modRamp f fun r => { r with queue := rest, turn := some (e.handle, e.inst) }).setCtx e.handle (some x)

theorem grant_held (hq : (s.rampFace f).queue = e :: rest) (hc : s.ctx e.handle = some c) (g : Context → Context) :
    (s.modRamp f fun r => { r with queue := r.queue.tail, turn := some (e.handle, e.inst) }).modCtx e.handle g =
      turnHeld f e rest (g c) s := by
  rw [State.modCtx_of_some (c := c) _ (by simpa using hc), turnHeld]
  exact congrArg (fun t => State.setCtx t e.handle _) (State.modRamp_congr (by rw [hq]; rfl))

/-- R96: an ARMED record becomes RAMPING and begins its first step. -/
theorem grant_armed (hq : (s.rampFace f).queue = e :: rest) (hc : s.ctx e.handle = some c) (hst : c.st = .armed) :
    grant f e c s = startStep e.handle c (turnHeld f e rest
      { c with target := targetOf (s.faceSet f).density c.count c.trim, rampHeld := false, st := .ramping,
               deadline := none, watch := none } s) := by
  simp only [grant, hst]
  rw [grant_held hq hc, turnHeld, changeState_setCtx, hst]
  rfl

theorem grant_withdrawing (hq : (s.rampFace f).queue = e :: rest) (hc : s.ctx e.handle = some c)
    (hst : c.st = .withdrawing) :
    grant f e c s = withdrawStep e.handle c (turnHeld f e rest
      { c with target := targetOf (s.faceSet f).density c.count c.trim, rampHeld := false } s) := by
  simp only [grant, hst, grant_held hq hc]

end

/-- Settles O31, by the head entry's probe work and its record's state. -/
theorem turnGrantedToQueueHead : Obligations.TurnGrantedToQueueHead := by
  unfold Obligations.TurnGrantedToQueueHead
  refine fun f s => ⟨judgeGrant_of_none, fun e rest c ht hq hc hi _ => ?_⟩
  have judged := judgeGrant_of_head ht hq hc hi
  refine ⟨fun hw => ?_, fun hw hst => ?_, fun hw hst => ?_⟩
  · rw [judged, if_neg ((ProbeWork.idle_iff _).not.2 hw)]
  · rw [judged, if_pos ((ProbeWork.idle_iff _).2 hw)]
    exact grant_armed hq hc hst
  · rw [judged, if_pos ((ProbeWork.idle_iff _).2 hw)]
    exact grant_withdrawing hq hc hst

end Sys2Proof.Machine
end

section
/-! CERTIFICATE. The expiry of a ramp dwell (O32). -/
namespace Sys2Proof.Machine

/-! ## Requests that are placed, walks beside a record -/

section
variable {cl : BusClass} {e n : Nat} {c : Context} {s : State} {p : Purpose}

theorem askWss_of_placeable (h : Placeable cl (s.faceSet c.egress).wss e s) (t : Txn) (d : Bool) :
    askWss cl t d p n c s = place cl e t d c.first c.count (.ctx n c.inst p) s := handOver_of_placeable h ..

/-- R148: whether a request is placed is read from the bus. -/
theorem Placeable.of_bus {field : Option Nat} {t : State} (h : Placeable cl field e s) (hb : t.bus = s.bus) :
    Placeable cl field e t := by
  obtain ⟨h1, h2, h3⟩ := h
  refine ⟨h1, ?_, hb ▸ h3⟩
  rw [State.elem, hb]
  exact h2

theorem askMonitor_of_placeable (h : Placeable cl (s.faceSet c.egress).monitor e s) :
    askMonitor cl p n c s = place cl e .getPower false c.first c.count (.ctx n c.inst p) s := handOver_of_placeable h ..

theorem endTake_place (h : AtRest s) {u : State} (hw : u.work = s.work) (ht : u.told = s.told) (t : Txn) (d : Bool)
    (f k : Nat) (tag : Tag) : endTake (place cl e t d f k tag u) = arbitrate (place cl e t d f k tag u) :=
  endTake_of_nil (hw.trans h.1) (ht.trans h.2.1)

end

theorem setMarks_setCtx (m : Marks) (s : State) (n : Nat) (c : Option Context) :
    setMarks m (s.setCtx n c) = (setMarks m s).setCtx n c := by
  simp only [setMarks_eq]
  rfl

@[simp] theorem setMarks_told (m : Marks) (s : State) : (setMarks m s).told = s.told := by
  simp only [setMarks_eq]

/-- R8: the span guard names the slots whose walk finds no entry or a guarded one. -/
theorem spanGuard_iff (s : State) (f first count : Nat) : spanGuard s f first count = true ↔
    ∃ w ∈ spanWalks s f first count, w.1 = .faceAbsent ∨ w.1 = .blockAbsent ∨ ∃ k m, w.1 = .found k true m := by
  have barred (r : WalkResult) : (r.absent || r.guarded) = true ↔
      (r = .faceAbsent ∨ r = .blockAbsent ∨ ∃ k m, r = .found k true m) := by
    cases r <;> simp [WalkResult.absent, WalkResult.guarded]
  simp only [spanGuard, List.any_eq_true, barred]

/-! ## A step begins (R99 to R101) -/

section
variable {n : Nat} {c d : Context} {s : State}

/-- The marks of the walks of a step. -/
def stepMarked (c : Context) (s : State) : State := setMarks (allMarks (spanWalks s c.egress c.first c.count)) s

theorem stepMarked_dirOnly (c : Context) (s : State) : DirOnly s (stepMarked c s) := setMarks_dirOnly ..

theorem stepWalk_eq (c : Context) (s : State) :
    stepWalk c.egress c.first c.count s = (spanGuard s c.egress c.first c.count, stepMarked c s) := rfl

theorem stepMarked_setCtx (n : Nat) (x : Option Context) :
    stepMarked c (s.setCtx n x) = (stepMarked c s).setCtx n x := setMarks_setCtx ..

@[simp] theorem stepMarked_now : (stepMarked c s).now = s.now := (stepMarked_dirOnly c s).now

@[simp] theorem stepMarked_profile (j : Nat) : (stepMarked c s).profile j = s.profile j := by
  rw [State.profile, (stepMarked_dirOnly c s).ramp]
  rfl

@[simp] theorem stepMarked_faceSet (j : Nat) : (stepMarked c s).faceSet j = s.faceSet j := by
  rw [State.faceSet, (stepMarked_dirOnly c s).ramp]
  rfl

@[simp] theorem stepMarked_rampFace (j : Nat) : (stepMarked c s).rampFace j = s.rampFace j := by
  rw [State.rampFace, (stepMarked_dirOnly c s).ramp]
  rfl

@[simp] theorem stepMarked_auditFace (j : Nat) : (stepMarked c s).auditFace j = s.auditFace j := by
  rw [State.auditFace, (stepMarked_dirOnly c s).audit]
  rfl

@[simp] theorem stepMarked_bus : (stepMarked c s).bus = s.bus := (stepMarked_dirOnly c s).bus

/-- R100: under a set span guard the step is held, and the dwell starts again. -/
theorem startStep_guarded (hc : s.ctx n = some d) (hg : spanGuard s c.egress c.first c.count = true)
    (hs : (s.rampFace c.egress).inStep = false) :
    startStep n c s = (stepMarked c s).setCtx n (some { d with
      guardHeld := true, rampHeld := true, rampDwell := some (s.now + (s.profile c.profile).stepDwell) }) := by
  have hd : (stepMarked c s).ctx n = some d := ((stepMarked_dirOnly c s).ctx n).trans hc
  simp only [startStep, stepWalk_eq, hg, if_true, State.modCtx_of_some _ hd]
  rw [startDwell, State.modCtx_setCtx, clearStep_of_clear]
  · simp
  · simpa using hs

/-- R99: without one the hold is lifted. -/
theorem startStep_open (hc : s.ctx n = some d) (hg : spanGuard s c.egress c.first c.count = false) :
    startStep n c s =
      if (s.auditFace c.egress).running then
        ((stepMarked c s).setCtx n (some { d with guardHeld := false })).modRamp c.egress fun r =>
          { r with heldGet := true }
      else handGet c.egress n c ((stepMarked c s).setCtx n (some { d with guardHeld := false })) := by
  have hd : (stepMarked c s).ctx n = some d := ((stepMarked_dirOnly c s).ctx n).trans hc
  simp [startStep, stepWalk_eq, hg, State.modCtx_of_some _ hd]

end

/-! ## The dwell's expiry -/

section
variable {n inst e : Nat} {c : Context} {s : State}

/-- R99: the dwell that has run out is that of the turn's holder. -/
def DwellDue (n inst : Nat) (c : Context) (s : State) : Prop :=
  c.inst = inst ∧ (∃ t, c.rampDwell = some t ∧ t ≤ s.now) ∧ (s.rampFace c.egress).turn = some (n, inst)

theorem stepDwellExpired_of_due (hc : s.ctx n = some c) (h : DwellDue n inst c s) :
    (c.st = .ramping → stepDwellExpired n inst s = startStep n c (s.setCtx n (some { c with rampDwell := none }))) ∧
    (c.st = .withdrawing →
      stepDwellExpired n inst s = withdrawStep n c (s.setCtx n (some { c with rampDwell := none }))) ∧
    (c.st ≠ .ramping ∧ c.st ≠ .withdrawing → stepDwellExpired n inst s = s) := by
  obtain ⟨rfl, hd, ht⟩ := h
  have hdue := (due_iff ..).2 hd
  unfold stepDwellExpired
  simp only [current_of_inst hc, hdue, ht, and_self, if_true, State.modCtx_of_some _ hc]
  cases c.st <;> simp

theorem stepDwellExpired_of_not (hc : s.ctx n = some c) (h : ¬DwellDue n inst c s) : stepDwellExpired n inst s = s := by
  rw [stepDwellExpired, current_eq hc]
  by_cases hi : c.inst = inst
  · simp only [if_pos hi, due_iff]
    exact if_neg fun hd => h ⟨hi, hd⟩
  · simp only [if_neg hi]

theorem withdrawStep_block (h : c.atten = .blocked ∨ c.atten = .db 2500) :
    withdrawStep n c s = askWss .ramp .setBlock false .withdrawBlock n c s := by
  rcases h with h | h <;> simp [withdrawStep, h]

theorem withdrawStep_set {a : Nat} (h : c.atten = .db a) (ha : a ≠ 2500) :
    withdrawStep n c s =
      askWss .ramp (.setAtten (min (a + (s.profile c.profile).withdrawStep) 2500)) false
        (.withdrawSet (min (a + (s.profile c.profile).withdrawStep) 2500)) n c s := by
  simp [withdrawStep, h, ha]

end

/-- Settles O32: the step of a due dwell by the state of the turn's holder, and its end by what was placed. -/
theorem rampDwellExpiryStepsRamp : Obligations.RampDwellExpiryStepsRamp := by
  unfold Obligations.RampDwellExpiryStepsRamp
  intro i inst e c s hrest hc isDue walked guarded
  have hguard : guarded ↔ spanGuard s c.egress c.first c.count = true := (spanGuard_iff ..).symm
  have taken {u : State} (h : stepDwellExpired i inst s = u) :
      exec (.stepDwellExpiry i inst) s = .next (endTake u) := congrArg (fun t => Host.Outcome.next (endTake t)) h
  have hd : (s.setCtx i (some { c with rampDwell := none })).ctx i = some { c with rampDwell := none } := by simp
  /- A step without a guard, beside the record whose dwell has run out. -/
  have opened (hg : ¬guarded) := startStep_open (c := c) hd (Bool.eq_false_iff.2 fun h => hg (hguard.2 h))
  simp only [stepMarked_setCtx, State.setCtx_setCtx] at opened
  have kept (x : Option Context) : (walked.setCtx i x).work = s.work ∧ (walked.setCtx i x).told = s.told ∧
      (walked.setCtx i x).bus = s.bus := ⟨setMarks_work .., setMarks_told .., setMarks_bus ..⟩
  refine ⟨fun h hst hg hs => ?_, fun h hst hg hr => ?_, fun h hst hg hr hp => ?_, fun h hst ha hp => ?_,
    fun h hst a ha hne hp => ?_, fun h => ?_⟩
  · have stepped := startStep_guarded (c := c) hd (hguard.1 hg) hs
    simp only [stepMarked_setCtx, State.setCtx_setCtx] at stepped
    obtain ⟨h1, h2, h3⟩ := kept (some { c with
      guardHeld := true, rampHeld := true, rampDwell := some (s.now + (s.profile c.profile).stepDwell) })
    rw [taken (((stepDwellExpired_of_due hc h).1 hst).trans stepped)]
    exact congrArg _ (endTake_of_eq hrest h1 h2 h3)
  · obtain ⟨h1, h2, h3⟩ := kept (some { c with guardHeld := false, rampDwell := none })
    rw [taken (((stepDwellExpired_of_due hc h).1 hst).trans ((opened hg).trans (if_pos hr)))]
    exact congrArg _ (endTake_of_eq hrest h1 h2 h3)
  · obtain rfl : c.inst = inst := h.1
    have asked := (opened hg).trans (if_neg (by simpa using hr))
    obtain ⟨h1, h2, h3⟩ := kept (some { c with guardHeld := false, rampDwell := none })
    have hp' : Placeable .ramp (walked.faceSet c.egress).monitor e (walked.setCtx i _) :=
      (stepMarked_faceSet (c := c) c.egress ▸ hp).of_bus h3
    rw [taken (((stepDwellExpired_of_due hc h).1 hst).trans (asked.trans (askMonitor_of_placeable hp')))]
    exact congrArg _ (endTake_place hrest (by exact h1) (by exact h2) ..)
  · obtain rfl : c.inst = inst := h.1
    rw [taken (((stepDwellExpired_of_due hc h).2.1 hst).trans
      ((withdrawStep_block ha).trans (askWss_of_placeable (by exact hp) ..)))]
    exact congrArg _ (endTake_place hrest (by rfl) (by rfl) ..)
  · obtain rfl : c.inst = inst := h.1
    rw [taken (((stepDwellExpired_of_due hc h).2.1 hst).trans
      ((withdrawStep_set ha hne).trans (askWss_of_placeable (by exact hp) ..)))]
    exact congrArg _ (endTake_place hrest (by rfl) (by rfl) ..)
  · have same : stepDwellExpired i inst s = s := by
      by_cases hdue : isDue
      · exact (stepDwellExpired_of_due hc hdue).2.2 (h.resolve_left (not_not.2 hdue))
      · exact stepDwellExpired_of_not hc hdue
    rw [taken same, endTake_of_atRest hrest]

end Sys2Proof.Machine
end

section
/-! CERTIFICATE. The reading of a ramp step (O33). -/
namespace Sys2Proof.Machine

theorem clampInt_eq {lo hi : Int} (h : lo ≤ hi) (n : Int) : clampInt lo hi n = max lo (min n hi) := by
  unfold clampInt
  split_ifs <;> omega

/-- R102: a reading is clamped, one below floor stands for the lowest. -/
theorem reading_of {r : Result} {p : Int}
    (h : (r = .belowFloor ∧ p = -6000) ∨ ∃ q, r = .power q ∧ p = max (-6000) (min q 2000)) : reading r = some p := by
  rcases h with ⟨rfl, rfl⟩ | ⟨q, rfl, rfl⟩
  · rfl
  · exact congrArg some (clampInt_eq (by decide) q)

/-! ## The verdict (R104, R105) -/

section
variable {pr : Profile} {ceiling target p : Int} {run used att : Nat}

theorem runAfter_of_overpower (h : ceiling < p) : runAfter pr ceiling target run p = run := if_pos h

theorem runAfter_of_inBand (h : p ≤ ceiling) (hb : (target - p).natAbs ≤ pr.deadband) :
    runAfter pr ceiling target run p = run + 1 := by rw [runAfter, if_neg (not_lt.2 h), if_pos hb]

theorem runAfter_of_outside (h : p ≤ ceiling) (hb : ¬(target - p).natAbs ≤ pr.deadband) :
    runAfter pr ceiling target run p = 0 := by rw [runAfter, if_neg (not_lt.2 h), if_neg hb]

theorem judgeReading_of_overpower (h : ceiling < p) :
    judgeReading pr ceiling target run used att p = .fault .overpower := if_pos h

theorem judgeReading_of_inBand (h : p ≤ ceiling) (hb : (target - p).natAbs ≤ pr.deadband) :
    judgeReading pr ceiling target run used att p =
      if pr.settleCount ≤ run then .settle else if pr.maxSteps ≤ used then .fault .stepExhausted else .dwell := by
  simp only [judgeReading, if_neg (not_lt.2 h), if_pos hb]

theorem judgeReading_of_outside (h : p ≤ ceiling) (hb : ¬(target - p).natAbs ≤ pr.deadband) :
    judgeReading pr ceiling target run used att p =
      if pr.maxSteps ≤ used then .fault .stepExhausted
      else if 0 < target - p ∧ att = 0 then .fault .shortfall
      else if target - p < 0 ∧ att = 2500 then .fault .excess
      else .set := by
  simp only [judgeReading, if_neg (not_lt.2 h), if_neg hb]

end

/-! ## The reading applied (R102) -/

/-- What a verdict makes of the record with the reading. -/
def carryOut (n : Nat) (c : Context) (p : Int) (run : Nat) (v : Verdict) (s : State) : State :=
  let d := c.withReading p run
  let t := s.setCtx n (some d)
  match v with
  | .fault cause => localFault n d cause t
  | .settle => settle n d t
  | .dwell => startDwell n d t
  | .set => stepSetting n d (c.target - p) t

section
variable {n e : Nat} {c : Context} {s : State} {p : Int}

theorem takeReading_eq {run : Nat} {v : Verdict}
    (hr : runAfter (s.profile c.profile) (s.faceSet c.egress).ceilingPower c.target c.settledRun p = run)
    (hv : judgeReading (s.profile c.profile) (s.faceSet c.egress).ceilingPower c.target run (c.readingsUsed + 1)
      c.atten.asNumber p = v) :
    takeReading n c p s = carryOut n c p run v s := by
  subst hr hv
  rfl

theorem takeRampGet_of_reading (hc : s.ctx n = some c) (hst : c.st = .ramping) {r : Result} (hr : reading r = some p) :
    doWork (.result (.ctx n c.inst .rampGet) r) s = takeReading n c p s := by
  simp only [doWork, takeResult, takeRampResult, current_of_inst hc, hst, hr]

theorem takeRampGet_of_failed (hc : s.ctx n = some c) (hst : c.st = .ramping) :
    doWork (.result (.ctx n c.inst .rampGet) .failed) s = localFault n c .element s := by
  simp only [doWork, takeResult, takeRampResult, current_of_inst hc, hst, reading]

end

/-- Settles O33: the reading by what the element answered, its verdict by the branches of R104 and R105. -/
theorem rampReadingJudged : Obligations.RampReadingJudged := by
  unfold Obligations.RampReadingJudged
  intro n e c r s hc hst pr taken
  refine ⟨fun hr => ?_, fun p hp => ?_⟩
  · subst hr
    exact takeRampGet_of_failed hc hst
  have carried {run : Nat} {v : Verdict}
      (hr : runAfter pr (s.faceSet c.egress).ceilingPower c.target c.settledRun p = run)
      (hv : judgeReading pr (s.faceSet c.egress).ceilingPower c.target run (c.readingsUsed + 1) c.atten.asNumber p = v) :
      taken = carryOut n c p run v s :=
    (takeRampGet_of_reading hc hst (reading_of hp)).trans (takeReading_eq hr hv)
  intro err att used read faulted inBand limit delta target ceiling
  refine ⟨fun h => ?_, fun h hb hs => ?_, fun h hb hs hu => ?_, fun h hb hs hu => ?_, fun h hb hu => ?_,
    fun h hb hu he ha => ?_, fun h hb hu he ha => ?_, fun h hb hu h1 h2 hp => ?_⟩
  · exact carried (runAfter_of_overpower h) (judgeReading_of_overpower h)
  · exact carried (runAfter_of_inBand h hb) ((judgeReading_of_inBand h hb).trans (if_pos hs))
  · exact carried (runAfter_of_inBand h hb)
      ((judgeReading_of_inBand h hb).trans (by rw [if_neg (not_le.2 hs), if_pos hu]))
  · exact carried (runAfter_of_inBand h hb)
      ((judgeReading_of_inBand h hb).trans (by rw [if_neg (not_le.2 hs), if_neg (not_le.2 hu)]))
  · exact carried (runAfter_of_outside h hb) ((judgeReading_of_outside h hb).trans (if_pos hu))
  · exact carried (runAfter_of_outside h hb)
      ((judgeReading_of_outside h hb).trans (by rw [if_neg (not_le.2 hu), if_pos ⟨he, ha⟩]))
  · exact carried (runAfter_of_outside h hb)
      ((judgeReading_of_outside h hb).trans (by rw [if_neg (not_le.2 hu), if_neg (by omega), if_pos ⟨he, ha⟩]))
  · have set := carried (runAfter_of_outside h hb)
      ((judgeReading_of_outside h hb).trans (by rw [if_neg (not_le.2 hu), if_neg h1, if_neg h2]))
    exact set.trans (askWss_of_placeable (by exact hp) ..)

end Sys2Proof.Machine
end

section
/-! SUPPORT. What the giving up of a ramp place (R97) leaves: the record at the handle but for its dwell, and all that
reads neither ramp faces nor audits. -/
namespace Sys2Proof.Machine

section
variable {n : Nat} {c d : Context} {s : State}

/-- R97: of the record only the dwell changes, where it held the turn. -/
theorem leaveRamp_ctx_self (hd : s.ctx n = some d) :
    (leaveRamp n c s).ctx n = some { d with
      rampDwell := if (s.rampFace c.egress).turn = some (n, c.inst) then none else d.rampDwell } := by
  unfold leaveRamp
  dsimp only
  split_ifs with ht
  · have hk : (clearStep c.egress (s.push [.judgeGrant c.egress])).ctx n = some d := by
      rw [State.ctx, (clearStep_keeps _ _).2.2.2]
      exact hd
    rw [releaseTurn, State.modCtx_ctx, if_pos rfl, State.modRamp_ctx, hk]
    rfl
  · exact hd
  · exact hd

theorem leaveRamp_now : (leaveRamp n c s).now = s.now := by rw [leaveRamp_abortOnly n c s]

theorem leaveRamp_profile (j : Nat) : (leaveRamp n c s).profile j = s.profile j := by
  rw [leaveRamp_abortOnly n c s]
  rfl

end

end Sys2Proof.Machine
end

section
/-! CERTIFICATE. ADVANCE, READY and settling (O35). -/
namespace Sys2Proof.Machine

/-! ## ADVANCE and READY (R116, R118) -/

section
variable {h : Hdr} {body : List Byte} {id n : Nat} {l : List HopReport} {c : Context} {s : State}

/-- R116: the record takes an ADVANCE on this link with these reports. -/
def Advances (h : Hdr) (l : List HopReport) (c : Context) : Prop :=
  c.role ≠ .head ∧ c.upPort = some h.port.val ∧ c.st = .armed ∧ c.carried = none ∧ l.length = c.hopIndex

/-- R118: the record takes a READY on this link with these reports. -/
def Readies (h : Hdr) (l : List HopReport) (c : Context) : Prop :=
  c.downPort = some h.port.val ∧ c.st = .settled ∧ l.length = c.hopCount

theorem takeAdvance_of_advances (hf : findLp s id = some (n, c)) (hc : s.ctx n = some c) (ha : Advances h l c) :
    takeAdvance h (id, l) s = joinRamp n c (s.setCtx n (some { c with carried := some l })) := by
  have taken : _ ∧ _ ∧ _ ∧ _ ∧ _ := ha
  simp only [takeAdvance, hf]
  rw [if_pos taken, State.modCtx_of_some _ hc]

theorem takeAdvance_stray (hf : findLp s id = some (n, c)) (ha : ¬Advances h l c) :
    takeAdvance h (id, l) s = stray s := by
  simp only [takeAdvance, hf]
  exact if_neg ha

/-- R118: the record of a READY passes from SETTLED to IN_SERVICE, already counted. -/
theorem changeState_serving (hc : s.ctx n = some c) (hst : c.st = .settled) :
    changeState n c .inService s = s.setCtx n (some { c with st := .inService, deadline := none, watch := none }) := by
  rw [changeState_of_some hc, Context.enter, hst]
  rfl

theorem takeReady_of_readies (hf : findLp s id = some (n, c)) (hc : s.ctx n = some c) (hr : Readies h l c) :
    let served : Context := { c with st := .inService, deadline := none, watch := none }
    (c.role = .transit → takeReady h body (id, l) s = relay c.upPort .ready h body (s.setCtx n (some served))) ∧
    (c.role = .head → takeReady h body (id, l) s =
      tellEvent n (evReady c.lpId c.hopCount) (s.setCtx n (some { served with hopReports := some l }))) ∧
    (c.role = .tail → takeReady h body (id, l) s = stray s) := by
  have taken : c.downPort = some h.port.val ∧ c.st = .settled ∧ l.length = c.hopCount := hr
  simp only [takeReady, hf, if_pos taken, changeState_serving hc hr.2.1]
  refine ⟨fun hrole => ?_, fun hrole => ?_, fun hrole => ?_⟩
  · rw [hrole]
  · rw [hrole]
    dsimp only
    rw [State.modCtx_setCtx]
    rfl
  · rw [hrole]

theorem takeReady_stray (hf : findLp s id = some (n, c)) (hr : ¬Readies h l c) :
    takeReady h body (id, l) s = stray s := by
  simp only [takeReady, hf]
  exact if_neg hr

end

/-! ## Settling (R107, R114, R115, R117) -/

section
variable {n : Nat} {c : Context} {s : State}

/-- R107, R119: the record SETTLED under the ready timeout. -/
def Context.asSettled (c : Context) (s : State) : Context :=
  { c with st := .settled, deadline := some (s.now + 1000 * (s.profile c.profile).readyTimeout), watch := none }

/-- R107, R137: the span counted and the turn given up. -/
def settledState (n : Nat) (c : Context) (s : State) : State :=
  leaveRamp n c (raiseLive c.egress c.count (s.setCtx n (some (c.asSettled s))))

theorem changeState_settled (hc : s.ctx n = some c) (hst : c.st = .ramping) :
    changeState n c .settled s = raiseLive c.egress c.count (s.setCtx n (some (c.asSettled s))) := by
  rw [changeState_of_some hc, Context.enter, hst]
  exact congrArg (fun d => raiseLive c.egress c.count (s.setCtx n (some { c.asSettled s with drift := d })))
    (if_neg (by decide))

/-- R115, R117: a settling, part by part of the role. -/
theorem settle_eq (hc : s.ctx n = some c) (hst : c.st = .ramping) :
    (c.role = .head → c.cls ≠ .maint →
      settle n c s = sendOn c.downPort .advance (reportsBody c.lpId [hopReport s c]) (settledState n c s)) ∧
    (c.role = .transit → settle n c s =
      sendOn c.downPort .advance (reportsBody c.lpId (c.carried.getD [] ++ [hopReport s c]))
        ((settledState n c s).modCtx n fun x => { x with carried := none })) ∧
    (c.role = .tail → settle n c s = changeState n { c with st := .settled } .inService
      (sendOn c.upPort .ready (reportsBody c.lpId (c.carried.getD [] ++ [hopReport s c]))
        ((settledState n c s).modCtx n fun x => { x with carried := none }))) := by
  unfold settle
  rw [changeState_settled hc hst]
  refine ⟨fun hrole hcls => ?_, fun hrole => ?_, fun hrole => ?_⟩
  · have same : hopReport (settledState n c s) c = hopReport s c := by
      simp only [hopReport, settledState, (leaveRamp_abortOnly ..).switch]
      rfl
    simp only [hrole, if_neg hcls, ← same, settledState]
  · simp only [hrole, settledState]
  · simp only [hrole, settledState]

/-- The record as a settling leaves it before the Controller's part. -/
theorem settledState_ctx : ∃ d, (settledState n c s).ctx n = some d ∧ d.st = .settled ∧ d.watch = none :=
  ⟨_, leaveRamp_ctx_self (s := raiseLive c.egress c.count (s.setCtx n (some (c.asSettled s)))) (d := c.asSettled s)
    (by simp [raiseLive]), rfl, rfl⟩

/-- R117: the tail that has sent READY is IN_SERVICE. -/
theorem settle_tail (hc : s.ctx n = some c) (hst : c.st = .ramping) (hrole : c.role = .tail) :
    settle n c s = sendOn c.upPort .ready (reportsBody c.lpId (c.carried.getD [] ++ [hopReport s c]))
      ((settledState n c s).modCtx n fun x => { x with carried := none, st := .inService, deadline := none }) := by
  obtain ⟨d, hd, hst', hwatch⟩ := settledState_ctx (n := n) (c := c) (s := s)
  have sent (b : List Byte) (t : State) (x : Context) :
      (sendOn c.upPort .ready b (t.setCtx n (some x))).ctx n = some x := by
    rw [← setCtx_sendOn, State.setCtx_ctx, if_pos rfl]
  rw [(settle_eq hc hst).2.2 hrole, State.modCtx_of_some _ hd, State.modCtx_of_some _ hd,
    changeState_of_some (sent ..), setCtx_sendOn, State.setCtx_setCtx, counted_settled, counted_inService,
    liveChange_true_true, Context.enter, hst', hwatch]
  rfl

/-- R114: the hop report on the wire. -/
theorem reportsBody_append (id : Nat) (l : List HopReport) (r : HopReport) :
    reportsBody id (l ++ [r]) = e32 id ++ e8 (l.length + 1) ++ encodeReports l ++ r.encode := by
  simp [reportsBody, encodeReports]

end

/-- Settles O35: ADVANCE and READY by whether the record takes them, settling by role. -/
theorem reportsCarriedToService : Obligations.ReportsCarriedToService := by
  unfold Obligations.ReportsCarriedToService
  refine ⟨fun h body id n l c s hrest hl hp hfind hc => ?_, fun n c s hc hst => ?_⟩
  · intro advances readies serving
    have hfind' : findLp (countRx h.port s) id = some (n, c) := hfind
    have hc' : (countRx h.port s).ctx n = some c := hc
    refine ⟨fun ha => ?_, fun ha => ?_, fun hr hrole => ?_, fun hr hrole => ?_, fun hr => ?_⟩
    · exact endTake_onLink hl hp (k := takeAdvance h) (takeAdvance_of_advances hfind' hc' ha)
    · exact take_onLink hrest hl hp (k := takeAdvance h) (takeAdvance_stray hfind' ha) rfl rfl rfl
    · have rested : AtRest ((countRx h.port s).setCtx n (some serving)) := hrest.of_eq rfl rfl rfl
      exact take_sent hl hp (k := takeReady h body) ((takeReady_of_readies hfind' hc' hr).1 hrole) rested
        (relay_frame ..)
    · refine (endTake_onLink hl hp (k := takeReady h body) ((takeReady_of_readies hfind' hc' hr).2.1 hrole)).trans ?_
      exact congrArg Host.Outcome.next (endTake_tellEvent_atRest hrest (by rfl) (by rfl) (by rfl) ..)
    · by_cases hready : readies
      · exact take_onLink hrest hl hp (k := takeReady h body)
          ((takeReady_of_readies hfind' hc' hready).2.2 (hr.resolve_left (not_not.2 hready))) rfl rfl rfl
      · exact take_onLink hrest hl hp (k := takeReady h body) (takeReady_stray hfind' hready) rfl rfl rfl
  · intro report settled left
    refine ⟨fun hrole hcls d hd => ?_, fun hrole d l hd hl => ?_, fun hrole u l hu hl => ?_⟩
    · rw [(settle_eq hc hst).1 hrole hcls, hd]
      exact congrArg (fun b => sendAdjacent d .advance b left) (reportsBody_append c.lpId [] _)
    · rw [(settle_eq hc hst).2.1 hrole, hd, hl]
      exact congrArg (fun b => sendAdjacent d .advance b _) (reportsBody_append c.lpId l _)
    · rw [settle_tail hc hst hrole, hu, hl]
      exact congrArg (fun b => sendAdjacent u .ready b _) (reportsBody_append c.lpId l _)

end Sys2Proof.Machine
end

section
/-! CERTIFICATE. Entry into FAULTED, and the order of the events told (O36). -/
namespace Sys2Proof.Machine

/-- R148: a request that is not placed fails at once, and its failure is handed back in the take. -/
theorem handOver_of_notPlaceable {cl : BusClass} {field : Option Nat} {s : State} (h : ∀ e, ¬Placeable cl field e s)
    (t : Txn) (d : Bool) (f c : Nat) (tag : Tag) :
    handOver cl field t d f c tag s = s.push [.result tag .failed] := by
  cases field with
  | none => rfl
  | some e =>
    have fails : failsAtOnce cl (some e) s = true := by
      have := h e
      simp only [Placeable, true_and, not_and_or, not_not, not_lt] at this
      simpa [failsAtOnce] using this
    simp only [handOver, fails, if_true]

section
variable {n : Nat} {c : Context} {s : State} {cause : Cause} {origin : Nat} {d : Direction}

theorem leaveRamp_faceSet (j : Nat) : (leaveRamp n c s).faceSet j = s.faceSet j := (leaveRamp_abortOnly ..).faceSet j

/-- R126: the record in FAULTED. -/
def faultedRecord (n : Nat) (c : Context) (cause : Cause) (origin : Nat) (d : Direction) (s : State) : Context :=
  { c with
      st := .faulted, watch := none, probeTimer := none, carried := none, rampHeld := false,
      rampDwell := if (s.rampFace c.egress).turn = some (n, c.inst) then none else c.rampDwell,
      work := { c.work with level := none, start := false, stop := false, dithering := false },
      deadline := if (s.profile c.profile).faultHold = 0 then none
        else some (s.now + 1000 * (s.profile c.profile).faultHold),
      faultRec := some ⟨cause, origin, d, false⟩ }

/-- R12, R97, R126: the place given up, the span no longer counted, the record in FAULTED. -/
def faultedState (n : Nat) (c : Context) (cause : Cause) (origin : Nat) (d : Direction) (s : State) : State :=
  (if c.st = .settled then lowerLive c.egress c.count (leaveRamp n c s) else leaveRamp n c s).setCtx n
    (some (faultedRecord n c cause origin d s))

/-- R12: of the states that a fault takes, only SETTLED counts in the live slot count. -/
theorem liveChange_faulted (hst : c.st.faultable = true) (f k : Nat) (t : State) :
    liveChange f k c.st.counted CtxState.faulted.counted t = if c.st = .settled then lowerLive f k t else t := by
  cases h : c.st <;> simp_all [CtxState.faultable]

theorem setCtx_ctx_self (t : State) (x : Option Context) : (t.setCtx n x).ctx n = x := by simp

/-- A record changed after its safety work was asked might as well be changed before. -/
theorem modCtx_askSafety {t : State} {x : Context} (hx : t.ctx n = some x) (g : Context → Context) :
    (askSafety n c t).modCtx n g = askSafety n c (t.setCtx n (some (g x))) := by
  have asked : (askSafety n c t).ctx n = some x := by rw [askSafety, askWss_ctx, hx]
  rw [State.modCtx_of_some _ asked]
  exact setCtx_handOver ..

/-- R126: what a fault entry makes of its record, and the safety work it asks. -/
theorem enterFaulted_eq (hc : s.ctx n = some c) (hst : c.st.faultable = true) (up down : Bool) :
    enterFaulted n c cause origin d up down s =
      let t := askSafety n c (faultedState n c cause origin d s)
      let t := if up then sendFault c.upPort .upstream c cause origin t else t
      let t := if down then sendFault c.downPort .downstream c cause origin t else t
      if c.role = .head then tellEvent n (evFault c.lpId cause origin) t else t := by
  have hleft := leaveRamp_ctx_self (c := c) hc
  have hdrift : ¬c.st = .inService := fun e => by rw [e] at hst; cases hst
  unfold enterFaulted
  dsimp only
  rw [State.modCtx_of_some _ hleft, changeState_setCtx, ← setCtx_liveChange, liveChange_faulted hst,
    State.modCtx_setCtx, Option.map_some, modCtx_askSafety (setCtx_ctx_self ..), State.setCtx_setCtx]
  simp only [Context.enter, Context.dropWork, leaveRamp_now, leaveRamp_profile, hdrift, if_false]
  rfl

end

/-- Settles O36: the entry as one record and one hand-over, placed or failed; the events as a list in handle order. -/
theorem faultEntryDarkensContext : Obligations.FaultEntryDarkensContext := by
  unfold Obligations.FaultEntryDarkensContext
  refine ⟨fun n c cause origin d up down s hc hst => ?_, fun h b ahead behind s ht ha hb => ?_, fun s => rfl⟩
  · intro faulted left entered body sentUp sentDown reported
    have entry := enterFaulted_eq (cause := cause) (origin := origin) (d := d) hc hst up down
    have hset : entered.faceSet c.egress = s.faceSet c.egress := by
      have hleft : left.faceSet c.egress = s.faceSet c.egress := leaveRamp_faceSet ..
      simp only [entered]
      split_ifs <;> exact hleft
    have hbus : entered.bus = s.bus := by
      have hleft : left.bus = s.bus := (leaveRamp_keeps ..).2.1
      simp only [entered]
      split_ifs <;> exact hleft
    have asked {t : State} (ht : handOver .safety (s.faceSet c.egress).wss .setBlock c.work.dithering c.first c.count
        (.ctx n c.inst .safety) entered = t) : askSafety n c entered = t := by
      rw [← ht, ← hset]
      rfl
    have same : faultedState n c cause origin d s = entered := rfl
    refine ⟨fun e hp => ?_, fun hp => ?_⟩
    · have placed := asked (handOver_of_placeable (hp.of_bus hbus) ..)
      rw [entry, same, placed]
      rfl
    · have failed := asked (handOver_of_notPlaceable (fun e he => hp e (he.of_bus hbus.symm)) ..)
      rw [entry, same, failed]
      rfl
  · rw [tellEvent, ht, joinTold_append ha hb]

end Sys2Proof.Machine
end

section
/-! CERTIFICATE. FACE SETTINGS and PROFILE writes (O51). -/
namespace Sys2Proof.Machine

theorem clampNat_eq {lo hi : Nat} (h : lo ≤ hi) (n : Nat) : clampNat lo hi n = max lo (min n hi) := by
  unfold clampNat
  split_ifs <;> omega

theorem clampNat_zero (hi n : Nat) : clampNat 0 hi n = min n hi := by rw [clampNat_eq (Nat.zero_le _), Nat.zero_max]

/-- Section 11.4: a write that found its record answers it. -/
theorem respondWrite_record (h : Hdr) (t : Nat) (ix : Nat × Nat) {st : Status} (r : List Byte) (s : State)
    (hst : st = .ok ∨ st = .clamped ∨ st = .badValue ∨ st = .inUse) :
    respondWrite h t ix st r s = respond h reqTableWrite st (tableResult t ix r) s := by
  rcases hst with rfl | rfl | rfl | rfl <;> rfl

/-! ## Face settings (R92, R93, R136) -/

theorem SettingsWrite.clamped_eq (w : SettingsWrite) : w.clamped =
    { wss := if w.wss = 255 then none else some w.wss, monitor := if w.monitor = 255 then none else some w.monitor,
      density := max (-2000) (min w.density 500), transient := max 10 (min w.transient 300),
      ceilingPower := max (-1000) (min w.ceilingPower 2000), auditInterval := min w.auditInterval 3600,
      auditTol := max 50 (min w.auditTol 500), autoTrim := w.autoTrim == 1,
      spacingMin := max 5 (min w.spacingMin 500), spacingMax := max 5 (min w.spacingMax 500),
      helloInterval := max 50 (min w.helloInterval 1000) } := by
  rw [SettingsWrite.clamped, clampInt_eq (by decide), clampNat_eq (by decide), clampInt_eq (by decide), clampNat_zero,
    clampNat_eq (by decide), clampNat_eq (by decide), clampNat_eq (by decide), clampNat_eq (by decide)]
  rfl

/-- R93: the clamping changed no field. -/
theorem SettingsWrite.wasClamped_iff (w : SettingsWrite) : w.wasClamped = false ↔
    w.clamped.density = w.density ∧ w.clamped.transient = w.transient ∧ w.clamped.ceilingPower = w.ceilingPower ∧
      w.clamped.auditInterval = w.auditInterval ∧ w.clamped.auditTol = w.auditTol ∧
      w.clamped.spacingMin = w.spacingMin ∧ w.clamped.spacingMax = w.spacingMax ∧
      w.clamped.helloInterval = w.helloInterval := by
  simp [SettingsWrite.wasClamped, and_assoc]

theorem fieldFits_iff (s : State) (n : Nat) (r : ElemRole) :
    fieldFits s n r = true ↔ n = 255 ∨ (n ≤ 31 ∧ (s.elem n).role = r) := by
  simp [fieldFits]

/-- R93: the written face settings that are not BAD_VALUE. -/
def SettingsWrite.Good (w : SettingsWrite) (s : State) : Prop :=
  fieldFits s w.wss .wss = true ∧ fieldFits s w.monitor .monitor = true ∧ w.autoTrim ≤ 1 ∧
    w.clamped.spacingMin ≤ w.clamped.spacingMax

section
variable {h : Hdr} {f m : Nat} {s : State}

theorem writeSettings_badIndex (hix : ¬(f ≤ 11 ∧ m = 0)) (w : SettingsWrite) :
    writeSettings h ((f, m), w) s = respond h reqTableWrite .badIndex [] s := by
  simp only [writeSettings]
  rw [if_pos (by omega)]
  rfl

theorem writeSettings_badValue {w : SettingsWrite} (hix : f ≤ 11 ∧ m = 0) (hg : ¬w.Good s) :
    writeSettings h ((f, m), w) s = respondWrite h tabSettings (f, m) .badValue (s.faceSet f).encode s := by
  simp only [writeSettings]
  rw [if_neg (by omega)]
  by_cases hf : (fieldFits s w.wss .wss && fieldFits s w.monitor .monitor && decide (w.autoTrim ≤ 1)) = true
  · have order : w.clamped.spacingMax < w.clamped.spacingMin := by
      simp only [Bool.and_eq_true, decide_eq_true_eq, and_assoc] at hf
      exact lt_of_not_ge fun hle => hg ⟨hf.1, hf.2.1, hf.2.2, hle⟩
    rw [hf, if_neg (by simp), if_pos order]
  · rw [Bool.eq_false_iff.2 hf, if_pos (by simp)]

theorem writeSettings_good {w : SettingsWrite} (hix : f ≤ 11 ∧ m = 0) (hg : w.Good s) :
    writeSettings h ((f, m), w) s =
      respondWrite h tabSettings (f, m) (if w.wasClamped then .clamped else .ok) w.clamped.encode
        (retimeAudit f (s.faceSet f).auditInterval w.clamped.auditInterval (s.setFaceSet f w.clamped)) := by
  obtain ⟨h1, h2, h3, h4⟩ := hg
  have read : (retimeAudit f (s.faceSet f).auditInterval w.clamped.auditInterval (s.setFaceSet f w.clamped)).faceSet f =
      w.clamped := by
    rw [State.faceSet, retimeAudit_ramp]
    exact (State.setFaceSet_faceSet ..).trans (if_pos rfl)
  simp only [writeSettings]
  rw [if_neg (by omega), if_neg (by simp [h1, h2, h3]), if_neg (not_lt.2 h4), read]

end

/-! ## Profiles (R90, R91) -/

theorem Profile.clamped_eq (w : Profile) : w.clamped =
    { sMax := max 10 (min w.sMax 300), deadband := max 5 (min w.deadband 100),
      settleCount := max 1 (min w.settleCount 4), gain := max 1 (min w.gain 8),
      stepDwell := max 50 (min w.stepDwell 5000), maxSteps := max 8 (min w.maxSteps 128), l0 := min w.l0 2500,
      l1 := min w.l1 2500, l2 := min w.l2 2500, l3 := min w.l3 2500,
      probeDwell := max 500 (min w.probeDwell 10000), probeWindow := max 200 (min w.probeWindow 10000),
      setupTimeout := max 1 (min w.setupTimeout 3600), armTimeout := max 1 (min w.armTimeout 3600),
      readyTimeout := max 1 (min w.readyTimeout 3600), faultHold := min w.faultHold 3600,
      withdrawStep := max 10 (min w.withdrawStep 300) } := by
  simp only [Profile.clamped, clampNat_zero]
  rw [clampNat_eq (by decide), clampNat_eq (by decide), clampNat_eq (by decide), clampNat_eq (by decide),
    clampNat_eq (by decide), clampNat_eq (by decide), clampNat_eq (by decide), clampNat_eq (by decide),
    clampNat_eq (by decide), clampNat_eq (by decide), clampNat_eq (by decide), clampNat_eq (by decide)]

theorem Profile.ladderFalls_iff (p : Profile) : p.ladderFalls = true ↔ p.l1 ≤ p.l0 ∧ p.l2 ≤ p.l1 ∧ p.l3 ≤ p.l2 := by
  simp [Profile.ladderFalls, and_assoc]

theorem profileInUse_iff (s : State) (n : Nat) : profileInUse s n = true ↔
    ∃ x ∈ s.table.recs.cells, ∃ c, x.2 = some c ∧ c.st ≠ .inService ∧ c.profile = n := by
  have named (x : Option Context) : (x.map fun c => c.st.active && c.profile == n).getD false = true ↔
      ∃ c, x = some c ∧ c.st ≠ .inService ∧ c.profile = n := by
    cases x <;> simp [CtxState.active_iff]
  simp only [profileInUse, List.any_eq_true, named]

section
variable {h : Hdr} {f m : Nat} {s : State} {w : Profile}

theorem writeProfile_badIndex (hix : ¬(f ≤ 7 ∧ m = 0)) :
    writeProfile h ((f, m), w) s = respond h reqTableWrite .badIndex [] s := by
  simp only [writeProfile]
  rw [if_pos (by omega)]
  rfl

theorem writeProfile_eq (hix : f ≤ 7 ∧ m = 0) :
    writeProfile h ((f, m), w) s =
      if w.clamped.ladderFalls = false then respondWrite h tabProfile (f, m) .badValue (s.profile f).encode s
      else if profileInUse s f then respondWrite h tabProfile (f, m) .inUse (s.profile f).encode s
      else respondWrite h tabProfile (f, m) (if w.clamped = w then .ok else .clamped) w.clamped.encode
        (s.setProfile f w.clamped) := by
  have read : (s.setProfile f w.clamped).profile f = w.clamped := (State.setProfile_profile ..).trans (if_pos rfl)
  simp only [writeProfile, read, Bool.not_eq_true']
  rw [if_neg (by omega)]

end

/-- Settles O51: both writes check after check, the clamped record field by field. -/
theorem rampTableWritesJudged : Obligations.RampTableWritesJudged := by
  unfold Obligations.RampTableWritesJudged
  refine fun h params f m s hf => ⟨fun w hp => ?_, fun w hp => ?_⟩
  · intro answer names new kept good stored
    have hnew : w.clamped = new := w.clamped_eq
    have hgood : w.Good (countRx h.port s) ↔ good := by
      simp only [SettingsWrite.Good, fieldFits_iff, hnew]
      rfl
    have hkept : w.wasClamped = false ↔ kept := by
      rw [w.wasClamped_iff, hnew]
    have taken {t : State} (ht : writeSettings h ((f, m), w) (countRx h.port s) = t) :
        exec (.faceSettingsWrite h params) s = .next t := by
      change Host.Outcome.next (onTableWrite h tabSettings params (SettingsWrite.parse params) (writeSettings h) s) = _
      rw [hp, onTableWrite_forNode hf, ht]
    refine ⟨fun hix => taken (writeSettings_badIndex hix w), fun h11 hm hbad => ?_, fun h11 hm hok => ?_⟩
    · exact taken ((writeSettings_badValue ⟨h11, hm⟩ (hgood.not.2 hbad)).trans
        (respondWrite_record h tabSettings (f, m) _ _ (by simp)))
    · have written := writeSettings_good (h := h) ⟨h11, hm⟩ (hgood.2 hok)
      rw [hnew] at written
      refine taken (written.trans ?_)
      by_cases hk : kept
      · rw [if_pos hk, hkept.2 hk]
        exact respondWrite_record h tabSettings (f, m) _ _ (by simp)
      · rw [if_neg hk, eq_true_of_ne_false (hkept.not.2 hk)]
        exact respondWrite_record h tabSettings (f, m) _ _ (by simp)
  · intro answer new falls held
    have hnew : w.clamped = new := w.clamped_eq
    have hfalls : w.clamped.ladderFalls = true ↔ falls := by rw [Profile.ladderFalls_iff, hnew]
    have hheld : profileInUse (countRx h.port s) f = true ↔ held := profileInUse_iff ..
    have taken {t : State} (ht : writeProfile h ((f, m), w) (countRx h.port s) = t) :
        exec (.profileWrite h params) s = .next t := by
      change Host.Outcome.next (onTableWrite h tabProfile params (parseProfileWrite params) (writeProfile h) s) = _
      rw [hp, onTableWrite_forNode hf, ht]
    refine ⟨fun hix => taken (writeProfile_badIndex hix), fun h7 hm hrise => ?_, fun h7 hm hfall hh => ?_,
      fun h7 hm hfall hfree => ?_⟩
    · exact taken ((writeProfile_eq ⟨h7, hm⟩).trans ((if_pos (Bool.eq_false_iff.2 (hfalls.not.2 hrise))).trans
        (respondWrite_record h tabProfile (f, m) _ _ (by simp))))
    · have written := writeProfile_eq (h := h) (s := countRx h.port s) (w := w) ⟨h7, hm⟩
      rw [if_neg (by simp [hfalls.2 hfall]), if_pos (hheld.2 hh)] at written
      exact taken (written.trans (respondWrite_record h tabProfile (f, m) _ _ (by simp)))
    · have written := writeProfile_eq (h := h) (s := countRx h.port s) (w := w) ⟨h7, hm⟩
      rw [if_neg (by simp [hfalls.2 hfall]), if_neg (hheld.not.2 hfree), hnew] at written
      exact taken (written.trans (respondWrite_record h tabProfile (f, m) _ _ (by split_ifs <;> simp)))

end Sys2Proof.Machine
end

section
/-! SUPPORT. The entries of an audit pass (R138), and a take with one thing left to do. -/
namespace Sys2Proof.Machine

/-! ## One thing left to do -/

theorem runWork_of_nil {s : State} (h : s.work = []) (k : Nat) : runWork k s = s := by
  cases k with
  | zero => rfl
  | succ k => simp only [runWork, h]

theorem dropWork_of_nil {s : State} (h : s.work = []) : { s with work := [] } = s := by
  cases s
  simp only at h
  rw [h]

/-- A take with one thing left to do ends where that has been done, when nothing more comes of it. -/
theorem endTake_push {s : State} {w : Work} (hs : s.work = []) (hd : (doWork w s).work = []) :
    endTake (s.push [w]) = endTake (doWork w s) := by
  have one (k : Nat) : runWork (k + 1) (s.push [w]) = doWork w s := by
    have hw : (s.push [w]).work = [w] := by simp [State.push, hs]
    have popped : { s.push [w] with work := [] } = s := dropWork_of_nil hs
    simp only [runWork, hw]
    rw [popped, runWork_of_nil hd]
  have settled : settleWork (s.push [w]) = doWork w s := by
    obtain ⟨k, hk⟩ : ∃ k, Config.workFuel = k + 1 := ⟨_, rfl⟩
    rw [settleWork, hk, one, dropWork_of_nil hd]
  rw [endTake, settled, endTake, settleWork_of_nil hd]

/-! ## The entry at the position (R138) -/

/-- The update of an audit face tells by what it makes of the face that stands there. -/
theorem State.modAudit_congr {s : State} {f : Nat} {g k : AuditFace → AuditFace}
    (h : g (s.auditFace f) = k (s.auditFace f)) : s.modAudit f g = s.modAudit f k := by
  have h : g (s.audit.get f) = k (s.audit.get f) := h
  simp only [State.modAudit, Tab.mod, h]

section
variable {f n i e : Nat} {c : Context} {s : State}

theorem measure_of_idle (h : (s.auditFace f).running = false) : measure f s = s := by simp [measure, h]

section
variable (hr : (s.auditFace f).running = true)
include hr

theorem measure_skips (hx : (s.auditFace f).list[(s.auditFace f).pos]? = some (n, i))
    (hc : ∀ c, s.ctx n = some c → ¬(c.inst = i ∧ c.st = .inService)) : measure f s = finishEntry f s := by
  simp only [measure, hr, hx, Bool.not_true, Bool.false_eq_true, if_false]
  split
  · rfl
  · rename_i c hcur
    obtain ⟨hs, hi⟩ := Option.filter_eq_some_iff.1 hcur
    exact if_neg fun hst => hc c hs ⟨of_decide_eq_true hi, hst⟩

theorem measure_asks (hx : (s.auditFace f).list[(s.auditFace f).pos]? = some (n, i)) (hc : s.ctx n = some c)
    (hi : c.inst = i) (hst : c.st = .inService) : measure f s = askMonitor .audit (.auditGet f) n c s := by
  subst hi
  simp [measure, hr, hx, current_of_inst hc, hst]

theorem measure_ends (hx : (s.auditFace f).list.length ≤ (s.auditFace f).pos) : measure f s = endPass f s := by
  simp [measure, hr, List.getElem?_eq_none hx]

end

/-! ## The end of a pass (R138) -/

/-- The pass over. -/
def passOver (f : Nat) (s : State) : State := s.modAudit f fun x => { x with running := false, list := [], pos := 0 }

theorem endPass_of_notHeld (h : (s.rampFace f).heldGet = false) : endPass f s = passOver f s := by
  simp only [endPass, State.modAudit_rampFace, h]
  rfl

/-- R101: a GET held back for a turn that no record holds any longer is dropped. -/
theorem endPass_drops (h : (s.rampFace f).heldGet = true)
    (ht : ∀ n c, (s.rampFace f).turn = some (n, c.inst) → s.ctx n ≠ some c) :
    endPass f s = (passOver f s).modRamp f fun r => { r with heldGet := false } := by
  simp only [endPass, State.modAudit_rampFace, h, if_true]
  split
  · rfl
  · rename_i n i hturn
    split
    · rfl
    · rename_i c hcur
      obtain ⟨hs, hi⟩ := Option.filter_eq_some_iff.1 hcur
      exact absurd hs (ht n c (hturn.trans (by rw [of_decide_eq_true hi])))

/-- R101: a GET held back is handed to the bus, the step in progress. -/
theorem endPass_hands (h : (s.rampFace f).heldGet = true) (ht : (s.rampFace f).turn = some (n, c.inst))
    (hc : s.ctx n = some c) :
    endPass f s = askMonitor .ramp .rampGet n c
      ((passOver f s).modRamp f fun r => { r with heldGet := false, inStep := true }) := by
  have hcur : current ((passOver f s).modRamp f fun r => { r with heldGet := false }) n c.inst = some c :=
    current_of_inst hc
  unfold passOver at hcur
  simp only [endPass, State.modAudit_rampFace, h, if_true, ht, hcur, handGet, State.modRamp_modRamp]
  rfl

end

end Sys2Proof.Machine
end

section
/-! CERTIFICATE. The audit timer, readings, trims and the entries of a pass (O41). -/
namespace Sys2Proof.Machine

/-! ## The audit timer (R137) -/

section
variable {f : Nat} {s : State}

/-- R137: the next interval's end. -/
def auditAgain (f : Nat) (s : State) : Option Nat := some (s.now + 1000 * (s.faceSet f).auditInterval)

/-- R137, R138: the pass as it begins, with its list taken. -/
def auditBegun (f : Nat) (s : State) : State :=
  s.modAudit f fun a =>
    { a with timer := auditAgain f s, pending := false, running := true, list := auditList s f, pos := 0 }

theorem auditBegun_face : (auditBegun f s).auditFace f = { s.auditFace f with
    timer := auditAgain f s, pending := false, running := true, list := auditList s f, pos := 0 } := by
  simp [auditBegun]

theorem auditBegun_running : ((auditBegun f s).auditFace f).running = true := by rw [auditBegun_face]

theorem auditExpired_of_notDue (h : ¬due (s.auditFace f).timer s.now = true) : auditExpired f s = s := if_neg h

section
variable (hd : due (s.auditFace f).timer s.now = true)
include hd

theorem auditExpired_overruns (h : ¬((s.auditFace f).pending = false ∧ (s.auditFace f).running = false)) :
    auditExpired f s = s.modAudit f fun a => { a with timer := auditAgain f s, overruns := bump a.overruns } := by
  have busy : ((s.auditFace f).pending || (s.auditFace f).running) = true := by simpa [imp_iff_or_not, or_comm] using h
  simp only [auditExpired, hd, if_true, State.modAudit_auditFace, busy, State.modAudit_modAudit]
  rfl

/-- R137: on a free face the pass is pending. -/
theorem auditExpired_of_free (h : (s.auditFace f).pending = false ∧ (s.auditFace f).running = false) :
    auditExpired f s = judgeAudit f (s.modAudit f fun a => { a with timer := auditAgain f s, pending := true }) := by
  simp only [auditExpired, hd, if_true, State.modAudit_auditFace, h.1, h.2, Bool.or_self, Bool.false_eq_true, if_false,
    State.modAudit_modAudit]
  rfl

theorem auditExpired_waits (h : (s.auditFace f).pending = false ∧ (s.auditFace f).running = false)
    (hs : (s.rampFace f).inStep = true) :
    auditExpired f s = s.modAudit f fun a => { a with timer := auditAgain f s, pending := true } := by
  rw [auditExpired_of_free hd h, judgeAudit_of_idle (.inr (by simpa using hs))]

theorem auditExpired_begins (h : (s.auditFace f).pending = false ∧ (s.auditFace f).running = false)
    (hs : (s.rampFace f).inStep = false) : auditExpired f s = (auditBegun f s).push [.measure f] := by
  rw [auditExpired_of_free hd h, judgeAudit_of_pending (by simp) (by simpa using hs), State.modAudit_modAudit]
  rfl

end

/-- R138: no record is IN_SERVICE there. -/
theorem auditList_eq_nil (hw : s.table.recs.wf) (h : ∀ n c, s.ctx n = some c → ¬(c.st = .inService ∧ c.egress = f)) :
    auditList s f = [] := by
  refine List.filterMap_eq_nil_iff.2 fun x hx => ?_
  obtain ⟨n, v⟩ := x
  have hv := ((Tab.mem_cells hw n v).1 hx).1
  cases v with
  | none => rfl
  | some c => exact if_neg (h n c hv)

end

/-! ## The end of the timer's take -/

section
variable {f : Fin 12} {e n : Nat} {c : Context} {l : List (Nat × Nat)} {s t : State}

theorem exec_auditTimer (ht : auditExpired f s = t) : exec (.auditTimerExpiry f) s = .next (endTake t) :=
  congrArg (fun t => Host.Outcome.next (endTake t)) ht

theorem endTake_modAudit (hrest : AtRest s) (g : AuditFace → AuditFace) : endTake (s.modAudit f g) = s.modAudit f g :=
  endTake_of_eq hrest rfl rfl rfl

section
variable (hrest : AtRest s) (hd : due (s.auditFace f).timer s.now = true)
  (h : (s.auditFace f).pending = false ∧ (s.auditFace f).running = false) (hs : (s.rampFace f).inStep = false)
include hrest hd h hs

/-- R138: the first entry is measured in the take in which the pass begins. -/
theorem exec_auditTimer_measured (ht : measure f (auditBegun f s) = t) (hw : t.work = []) :
    exec (.auditTimerExpiry f) s = .next (endTake t) := by
  subst ht
  rw [exec_auditTimer (auditExpired_begins hd h hs)]
  exact congrArg Host.Outcome.next (endTake_push (s := auditBegun f s) (w := .measure f) hrest.1 hw)

/-- R138: a pass on an empty list ends at once. -/
theorem exec_auditTimer_empty (hheld : (s.rampFace f).heldGet = false) (hl : auditList s f = []) :
    exec (.auditTimerExpiry f) s =
      .next (s.modAudit f fun a => { a with timer := auditAgain f s, list := [], pos := 0 }) := by
  have passed : passOver f (auditBegun f s) =
      s.modAudit f fun a => { a with timer := auditAgain f s, list := [], pos := 0 } := by
    rw [passOver, auditBegun, State.modAudit_modAudit]
    refine State.modAudit_congr ?_
    rw [h.1, h.2]
  have past : ((auditBegun f s).auditFace f).list.length ≤ ((auditBegun f s).auditFace f).pos := by
    rw [auditBegun_face, hl]
    exact le_rfl
  have ended := (measure_ends auditBegun_running past).trans ((endPass_of_notHeld (s := auditBegun f s) hheld).trans passed)
  rw [exec_auditTimer_measured hrest hd h hs ended hrest.1, endTake_modAudit hrest]

/-- R138: else the first record's GET is asked. -/
theorem exec_auditTimer_asks (hl : auditList s f = (n, c.inst) :: l) (hc : s.ctx n = some c) (hst : c.st = .inService)
    (hp : Placeable .audit (s.faceSet c.egress).monitor e s) :
    exec (.auditTimerExpiry f) s = .next (arbitrate
      (place .audit e .getPower false c.first c.count (.ctx n c.inst (.auditGet f)) (auditBegun f s))) := by
  have first : ((auditBegun f s).auditFace f).list[((auditBegun f s).auditFace f).pos]? = some (n, c.inst) := by
    rw [auditBegun_face, hl]
    rfl
  have asked := (measure_asks auditBegun_running first hc rfl hst).trans (askMonitor_of_placeable (by exact hp))
  rw [exec_auditTimer_measured hrest hd h hs asked hrest.1]
  exact congrArg Host.Outcome.next (endTake_place hrest (by rfl) (by rfl) ..)

end

end

/-! ## Audit readings (R139, R140) -/

section
variable {f n a : Nat} {c : Context} {s : State} {p : Int} {r : Result}

/-- R139: the flag that a reading finds. -/
def driftBefore (c : Context) : Bool := match c.drift with | some x => x.flag | none => false

/-- R139: the reading written, and the change of the flag told. -/
def driftTold (f n : Nat) (c : Context) (p : Int) (s : State) : State :=
  let d := p - c.target
  let flag := driftFlag d (s.faceSet f).auditTol
  let written := s.setCtx n (some { c with drift := some ⟨p, d, flag⟩ })
  if flag = driftBefore c then written else tellEvent n (evDrift c.lpId f d flag) written

theorem takeAuditGet_of_reading (hc : s.ctx n = some c) (hst : c.st = .inService) (hr : reading r = some p) :
    doWork (.result (.ctx n c.inst (.auditGet f)) r) s = takeAuditReading f n c p s := by
  simp [doWork, takeResult, takeAuditGet, current_of_inst hc, hst, hr]

theorem takeAuditGet_of_failed (hc : s.ctx n = some c) (hst : c.st = .inService) :
    doWork (.result (.ctx n c.inst (.auditGet f)) .failed) s = finishEntry f s := by
  simp [doWork, takeResult, takeAuditGet, current_of_inst hc, hst, reading]

/-- R140: the trim is judged on what the reading leaves, of which it reads nothing that the reading wrote. -/
theorem takeAuditReading_eq (hc : s.ctx n = some c) :
    takeAuditReading f n c p s =
      if trims s f c (p - c.target) && trimAtten c (p - c.target) != c.atten.asNumber then
        askWss .audit (.setAtten (trimAtten c (p - c.target))) false (.auditSet f (trimAtten c (p - c.target))) n c
          (driftTold f n c p s)
      else finishEntry f (driftTold f n c p s) := by
  have hbefore : (c.drift.map (·.flag)).getD false = driftBefore c := by
    unfold driftBefore
    cases c.drift <;> rfl
  have told : (if driftBefore c = driftFlag (p - c.target) (s.faceSet f).auditTol then
      s.modCtx n fun c' => { c' with drift := some ⟨p, p - c.target, driftFlag (p - c.target) (s.faceSet f).auditTol⟩ }
      else tellEvent n (evDrift c.lpId f (p - c.target) (driftFlag (p - c.target) (s.faceSet f).auditTol))
        (s.modCtx n fun c' =>
          { c' with drift := some ⟨p, p - c.target, driftFlag (p - c.target) (s.faceSet f).auditTol⟩ })) =
      driftTold f n c p s := by
    rw [State.modCtx_of_some _ hc]
    exact if_congr eq_comm rfl rfl
  have read : trims (driftTold f n c p s) f c (p - c.target) = trims s f c (p - c.target) := by
    unfold driftTold
    dsimp only
    split_ifs <;> rfl
  unfold takeAuditReading
  dsimp only
  rw [hbefore, told, read]

/-- R140: what a trim asks of the face, the overlay, the flag and the span. -/
theorem trims_iff {d : Int} : trims s f c d = true ↔
    ((s.faceSet f).autoTrim = true ∧ s.resp.overlay.autoTrim = true ∧ driftFlag d (s.faceSet f).auditTol = true ∧
      ¬∃ w ∈ spanWalks s f c.first c.count,
        w.1 = .faceAbsent ∨ w.1 = .blockAbsent ∨ ∃ k m, w.1 = .found k true m) ∧ c.atten ≠ .blocked := by
  rw [← spanGuard_iff, trims, driftFlag]
  simp only [Bool.and_eq_true, bne_iff_ne, Bool.not_eq_true', Bool.not_eq_true]
  tauto

/-- R140: a drift past the tolerance, which is at least 50, moves the attenuation by 50 within 0 to 2500. -/
theorem trimAtten_eq {d : Int} (ht : 50 ≤ (s.faceSet f).auditTol) (hf : driftFlag d (s.faceSet f).auditTol = true)
    (ha : c.atten = .db a) (h : a ≤ 2500) : trimAtten c d = if 0 < d then min (a + 50) 2500 else a - 50 := by
  have hd : (s.faceSet f).auditTol < d.natAbs := of_decide_eq_true hf
  rw [trimAtten, trimChange, clampInt_eq (by decide), clampInt_eq (by decide), ha, Atten.asNumber]
  split_ifs <;> omega

end

/-! ## Results of audit requests (R140, R141) -/

section
variable {f n i a : Nat} {c : Context} {s : State}

theorem auditResult_discarded (hc : ∀ c, s.ctx n = some c → ¬(c.inst = i ∧ c.st = .inService)) (r : Result) :
    takeAuditSet f n i a r s = finishEntry f s ∧ takeAuditGet f n i r s = finishEntry f s := by
  unfold takeAuditSet takeAuditGet
  cases hcur : current s n i with
  | none => exact ⟨rfl, rfl⟩
  | some c =>
    obtain ⟨hs, hi⟩ := Option.filter_eq_some_iff.1 hcur
    have hst : c.st ≠ .inService := fun e => hc c hs ⟨of_decide_eq_true hi, e⟩
    exact ⟨if_pos (.inl hst), if_pos hst⟩

theorem takeAuditSet_served (hc : s.ctx n = some c) (hst : c.st = .inService) :
    takeAuditSet f n c.inst a .failed s = finishEntry f s ∧
    takeAuditSet f n c.inst a .done s =
      finishEntry f (markModified n c.egress c.first c.count (s.setCtx n (some { c with atten := .db a }))) := by
  simp [takeAuditSet, current_of_inst hc, hst, State.modCtx_of_some _ hc]

end

/-- Settles O41: the timer by what the face is at, a reading by its flag and trim, the results by their record, the entry
at the position by its record or the end of the pass. -/
theorem auditTimerAndReadingsJudged : Obligations.AuditTimerAndReadingsJudged := by
  unfold Obligations.AuditTimerAndReadingsJudged
  refine ⟨fun f e s hrest => ?_, fun f n e a c r s hc hst hface htol => ?_, fun f n a s => ?_, fun f e s => ?_⟩
  · intro isDue again free
    have hdue : isDue → due (s.auditFace f).timer s.now = true := (due_iff ..).2
    refine ⟨fun hd => ?_, fun hd h => ?_, fun hd h hs => ?_, fun hd h hs hheld hnone hw => ?_,
      fun n c l hd h hs hlist hc hst hface hp => ?_⟩
    · rw [exec_auditTimer (auditExpired_of_notDue ((due_iff ..).not.2 hd)), endTake_of_atRest hrest]
    · exact (exec_auditTimer (auditExpired_overruns (hdue hd) h)).trans (congrArg _ (endTake_modAudit hrest _))
    · exact (exec_auditTimer (auditExpired_waits (hdue hd) h hs)).trans (congrArg _ (endTake_modAudit hrest _))
    · exact exec_auditTimer_empty hrest (hdue hd) h hs hheld (auditList_eq_nil hw hnone)
    · rw [exec_auditTimer_asks hrest (hdue hd) h hs hlist hc hst (hface ▸ hp), auditBegun, hlist]
      rfl
  · subst hface
    intro taken finished
    refine ⟨fun hr => ?_, fun p hp => ?_⟩
    · subst hr
      exact takeAuditGet_of_failed hc hst
    · have judged : taken = _ := (takeAuditGet_of_reading hc hst (reading_of hp)).trans (takeAuditReading_eq hc)
      intro d flag before written told allowed trimmed
      have htrims : trims s c.egress c d = true ↔ allowed ∧ c.atten ≠ .blocked := trims_iff
      have stays (h : ¬(trims s c.egress c d && trimAtten c d != c.atten.asNumber) = true) : taken = finished told :=
        judged.trans (if_neg h)
      have moved (hal : allowed) (ha : c.atten = .db a) (hle : a ≤ 2500) : trimAtten c d = trimmed :=
        trimAtten_eq htol hal.2.2.1 ha hle
      refine ⟨fun h => stays fun ht => ?_, fun hal ha hsame => stays fun ht => ?_, fun hal ha hle hne hp => ?_⟩
      · obtain ⟨h1, h2⟩ := htrims.1 (Bool.and_eq_true_iff.1 ht).1
        exact h.elim (absurd h1) h2
      · have hle : a ≤ 2500 := by
          rw [← hsame]
          simp only [trimmed] at hsame ⊢
          split_ifs at hsame ⊢ <;> omega
        have changed := (Bool.and_eq_true_iff.1 ht).2
        rw [moved hal ha hle, hsame, ha] at changed
        simp [Atten.asNumber] at changed
      · have htrim : (trims s c.egress c d && trimAtten c d != c.atten.asNumber) = true := by
          rw [Bool.and_eq_true, moved hal ha hle, ha]
          exact ⟨htrims.2 ⟨hal, by rw [ha]; nofun⟩, bne_iff_ne.2 hne⟩
        have hp' : Placeable .audit (told.faceSet c.egress).wss e told := by
          simp only [told]
          split_ifs <;> exact hp
        refine judged.trans ((if_pos htrim).trans ?_)
        rw [show trimAtten c (p - c.target) = trimmed from moved hal ha hle]
        exact askWss_of_placeable hp' ..
  · intro finished result
    exact ⟨fun i r hno => auditResult_discarded hno r, fun c hc hst => takeAuditSet_served hc hst⟩
  · intro x r measured ended
    refine ⟨measure_of_idle, fun hr => ⟨fun h i hx => ⟨measure_skips hr hx, fun c hc hi hst hface => ?_⟩, fun hx => ?_⟩⟩
    · subst hi hface
      have asked := measure_asks hr hx hc rfl hst
      exact ⟨fun hp => asked.trans (askMonitor_of_placeable hp), fun hp => asked.trans (handOver_of_notPlaceable hp ..)⟩
    · have passed : measured = endPass f s := measure_ends hr hx
      refine ⟨fun hheld => passed.trans (endPass_of_notHeld hheld), fun hheld hgone => passed.trans (endPass_drops hheld hgone),
        fun n c hheld hturn hc hface hp => ?_⟩
      subst hface
      exact passed.trans ((endPass_hands hheld hturn hc).trans (askMonitor_of_placeable (by exact hp)))

end Sys2Proof.Machine
end

section
/-! CERTIFICATE. A received FAULT (O37). -/
namespace Sys2Proof.Machine

section
variable {port id origin n : Nat} {cause : Cause} {travel : Direction} {c : Context} {s : State}

theorem faultFits_iff : faultFits c port travel = true ↔
    (travel = .downstream ∧ c.upPort = some port) ∨ (travel = .upstream ∧ c.downPort = some port) := by
  cases travel <;> simp [faultFits]

/-- R129: a FAULT that fits a record in RESERVED to SETTLED. -/
theorem takeFault_enters (hf : findLp s id = some (n, c)) (hst : c.st.faultable = true)
    (hfit : faultFits c port travel = true) :
    takeFault port id cause origin travel s = countReceivedFault
      (enterFaulted n c cause origin travel.receivedFrom (travel == .upstream) (travel == .downstream) s) := by
  simp only [takeFault, hf, hst, hfit, Bool.and_self, if_true]

/-- R130: a FAULT from downstream that fits a WITHDRAWING head. -/
theorem takeFault_endsWithdrawal (hf : findLp s id = some (n, c)) (hst : c.st = .withdrawing)
    (hup : c.downPort = some port) :
    takeFault port id cause origin .upstream s = countReceivedFault (endWithdrawal n c s) := by
  simp [takeFault, hf, hst, faultFits, hup, CtxState.faultable]

/-- R129: every other FAULT. -/
theorem takeFault_discarded (hf : findLp s id = some (n, c))
    (hno : ¬(c.st.faultable = true ∧ faultFits c port travel = true))
    (hnow : ¬(c.st = .withdrawing ∧ travel = .upstream ∧ c.downPort = some port)) :
    takeFault port id cause origin travel s = countDiscardedFault s := by
  have ends : (c.st == .withdrawing && travel == .upstream && faultFits c port travel) = true →
      c.st = .withdrawing ∧ travel = .upstream ∧ c.downPort = some port := by
    cases travel <;> simp [faultFits]
  simp only [takeFault, hf]
  rw [if_neg (by rwa [Bool.and_eq_true]), if_neg fun h => hnow (ends h)]

end

/-- Settles O37: a FAULT by the travel that fits the record and by the state it is in. -/
theorem faultFrameTaken : Obligations.FaultFrameTaken := by
  intro h body id origin n cause travel c s hr hl hp hfind down up
  have hfind' : findLp (countRx h.port s) id = some (n, c) := hfind
  let take (x : Nat × Cause × Nat × Direction) : State → State := takeFault h.port x.1 x.2.1 x.2.2.1 x.2.2.2
  have hfit : faultFits c h.port travel = true ↔ down ∨ up := faultFits_iff
  refine ⟨fun hst hd => ?_, fun hst hu => ?_, fun hst hu => ?_, fun hno hnow => ?_⟩
  · have entered := takeFault_enters (cause := cause) (origin := origin) hfind' hst (hfit.2 (.inl hd))
    rw [hd.1] at entered hp
    exact endTake_onLink hl hp (k := take) entered
  · have entered := takeFault_enters (cause := cause) (origin := origin) hfind' hst (hfit.2 (.inr hu))
    rw [hu.1] at entered hp
    exact endTake_onLink hl hp (k := take) entered
  · rw [hu.1] at hp
    exact endTake_onLink hl hp (k := take) (takeFault_endsWithdrawal hfind' hst hu.2)
  · exact take_onLink hr hl hp (k := take) (takeFault_discarded hfind' (by rwa [hfit]) hnow) rfl rfl rfl

end Sys2Proof.Machine
end

section
/-! CERTIFICATE. TEARDOWN at a transit or tail position (O39). -/
namespace Sys2Proof.Machine

section
variable {h : Hdr} {b : TeardownBody} {x : Hop} {s : State}

theorem takeTeardown_elsewhere (hx : b.hops[b.cursor]? = some x) (hn : x.node ≠ s.switch.nodeId) :
    takeTeardown h b s = stray s := by
  simp only [takeTeardown, hx]
  exact if_pos hn

theorem takeTeardown_unknown (hx : b.hops[b.cursor]? = some x) (hn : x.node = s.switch.nodeId)
    (hf : findLp s b.id = none) : takeTeardown h b s = passTeardown h b x none s := by
  simp only [takeTeardown, hx, hf]
  exact if_neg (not_not.2 hn)

/-- R122: a TEARDOWN never comes to a head. -/
theorem takeTeardown_head {n : Nat} {c : Context} (hx : b.hops[b.cursor]? = some x) (hn : x.node = s.switch.nodeId)
    (hf : findLp s b.id = some (n, c)) (hrole : c.role = .head) : takeTeardown h b s = stray s := by
  simp only [takeTeardown, hx, hf, hn, hrole, ne_eq, not_true_eq_false, if_false, if_true]

theorem takeTeardown_frees {n : Nat} {c : Context} (hx : b.hops[b.cursor]? = some x) (hn : x.node = s.switch.nodeId)
    (hf : findLp s b.id = some (n, c)) (hrole : c.role ≠ .head) :
    takeTeardown h b s = passTeardown h b x (some n) (teardownRecord n c s) := by
  simp only [takeTeardown, hx, hf, hn, hrole, ne_eq, not_true_eq_false, if_false]

/-- R123: the frame sent on from a transit position, or the report at the tail position. -/
def teardownPassed (h : Hdr) (b : TeardownBody) (x : Hop) (s : State) : State :=
  if b.cursor + 1 < b.hops.length then
    if x.egress ≤ 7 then
      handFrame x.egress
        { kind := .teardown, dst := 65535, src := h.src.toNat, hop := 1, tag := h.tag,
          body := TeardownBody.encode { b with cursor := b.cursor + 1 } } s
    else stray s
  else event (evWithdrawn b.id) s

theorem teardownPassed_frame : ∃ p r, teardownPassed h b x s =
    { s with ports := p, resp := { s.resp with counters := r } } := by
  unfold teardownPassed
  split_ifs
  · exact ⟨_, s.resp.counters, rfl⟩
  · exact ⟨s.ports, _, rfl⟩
  · exact ⟨_, _, event_frame ..⟩

/-- R123: with nothing left to do or to tell, the arbiter's choice ends a take that passed a TEARDOWN on. -/
theorem endTake_passTeardown (hw : s.work = []) (ht : s.told = []) (rec : Option Nat) :
    endTake (passTeardown h b x rec s) = arbitrate (teardownPassed h b x s) := by
  have passed {t : State} (htw : t.work = s.work) (htt : t.told = s.told) : endTake t = arbitrate t :=
    endTake_of_nil (htw.trans hw) (htt.trans ht)
  unfold passTeardown teardownPassed portOfFace
  split_ifs
  · exact passed rfl rfl
  · exact passed rfl rfl
  · cases rec with
    | none =>
      dsimp only
      rw [event_frame]
      exact passed rfl rfl
    | some n => exact endTake_tellEvent hw ht n _

theorem arbitrate_teardownPassed (hr : AtRest s) : arbitrate (teardownPassed h b x s) = teardownPassed h b x s := by
  obtain ⟨p, r, hframe⟩ := teardownPassed_frame (h := h) (b := b) (x := x) (s := s)
  have rested : AtRest (teardownPassed h b x s) := by
    rw [hframe]
    exact hr
  rw [← endTake_of_nil rested.1 rested.2.1, endTake_of_atRest rested]

end

/-- R10, R25, R122: a record off the ramp is blocked, its span freed, and the record is gone. -/
theorem teardownRecord_of_offRamp {n e : Nat} {c : Context} {s : State} (hoff : OffRamp n c s)
    (hp : Placeable .safety (s.faceSet c.egress).wss e s) :
    teardownRecord n c s = (liveChange c.egress c.count c.st.counted false
      (freeSpan n c.ingress c.egress c.first c.count
        (place .safety e .setBlock false c.first c.count (.ctx n c.inst .safety) s))).setCtx n none := by
  rw [teardownRecord, askWss_of_placeable hp]
  exact freeRecord_of_offRamp hoff

/-- R12: of a record's states SETTLED and IN_SERVICE are counted. -/
theorem liveChange_freed (st : CtxState) (f k : Nat) (t : State) :
    liveChange f k st.counted false t = if st = .settled ∨ st = .inService then lowerLive f k t else t := by
  cases st <;> rfl

/-- Settles O39: a TEARDOWN by the entry at its cursor and the record it names. -/
theorem teardownTaken : Obligations.TeardownTaken := by
  intro h body b x s hr hl hp hx passed freed
  have hpassed (t : State) : teardownPassed h b x t = passed t := rfl
  refine ⟨fun hn => ?_, fun hn hf => ?_, fun n c hn hf => ⟨fun hrole => ?_, fun hrole hoff e hplace => ?_⟩⟩
  · exact take_onLink hr hl hp (k := takeTeardown h) (takeTeardown_elsewhere hx hn) rfl rfl rfl
  · refine (endTake_onLink hl hp (k := takeTeardown h) (takeTeardown_unknown hx hn hf)).trans ?_
    rw [endTake_passTeardown (s := countRx h.port s) hr.1 hr.2.1, arbitrate_teardownPassed (s := countRx h.port s) hr,
      hpassed]
  · exact take_onLink hr hl hp (k := takeTeardown h) (takeTeardown_head hx hn hf hrole) rfl rfl rfl
  · refine (endTake_onLink hl hp (k := takeTeardown h) (takeTeardown_frees hx hn hf hrole)).trans ?_
    have record := teardownRecord_of_offRamp (s := countRx h.port s) hoff hplace
    have hdir : DirOnly (place .safety e .setBlock false c.first c.count (.ctx n c.inst .safety) (countRx h.port s))
        (liveChange c.egress c.count c.st.counted false (freed n c e)) :=
      (freeSpan_dirOnly ..).trans (liveChange_dirOnly ..)
    have htold : (liveChange c.egress c.count c.st.counted false (freed n c e)).told = [] := by
      rw [hdir]
      exact hr.2.1
    rw [← liveChange_freed, record, ← hpassed]
    exact congrArg Host.Outcome.next (endTake_passTeardown
      (s := (liveChange c.egress c.count c.st.counted false (freed n c e)).setCtx n none) (hdir.work.trans hr.1) htold _)

end Sys2Proof.Machine
end

section
/-! CERTIFICATE. WITHDRAW at the head (O40). -/
namespace Sys2Proof.Machine

section
variable {h : Hdr} {id : Nat} {s : State}

theorem withdraw_unknown (hf : findLp s id = none) : withdraw h id s = respond h reqWithdraw .notFound [] s := by
  simp only [withdraw, hf]

section
variable {n : Nat} {c : Context} (hf : findLp s id = some (n, c))
include hf

theorem withdraw_notHead (hrole : c.role ≠ .head) : withdraw h id s = respond h reqWithdraw .notAllowed [] s := by
  simp only [withdraw, hf]
  exact if_pos hrole

section
variable (hrole : c.role = .head)
include hrole

/-- R37, R120: a withdrawal makes its context active, and at most 16 are. -/
theorem withdraw_busy (hst : c.st = .inService) (hmax : 16 ≤ activeCount s) :
    withdraw h id s = respond h reqWithdraw .busy [] s := by
  simp only [withdraw, hf, hrole, hst, ne_eq, not_true_eq_false, if_false]
  exact if_pos hmax

theorem withdraw_starts (hst : c.st = .inService) (hmax : activeCount s < 16) :
    withdraw h id s = respond h reqWithdraw .ok [] (startWithdrawal n c s) := by
  simp only [withdraw, hf, hrole, hst, ne_eq, not_true_eq_false, if_false]
  exact if_neg (not_le.2 hmax)

theorem withdraw_again (hst : c.st = .withdrawing) : withdraw h id s = respond h reqWithdraw .ok [] s := by
  simp only [withdraw, hf, hrole, hst, ne_eq, not_true_eq_false, if_false]

theorem withdraw_aborts (hs : c.st ≠ .inService) (hw : c.st ≠ .withdrawing) :
    withdraw h id s = respond h reqWithdraw .ok [] (abortLightpath n c s) := by
  simp only [withdraw, hf, hrole, ne_eq, not_true_eq_false, if_false]

end
end

/-- R35, R95, R120: an IN_SERVICE head starts its withdrawal. -/
theorem startWithdrawal_eq {n : Nat} {c : Context} (hc : s.ctx n = some c) (hst : c.st = .inService) :
    startWithdrawal n c s = joinRamp n c (lowerLive c.egress c.count (s.setCtx n (some { c with
      st := .withdrawing, deadline := none, watch := none, drift := none }))) := by
  rw [startWithdrawal, changeState_of_some hc, Context.enter, if_pos hst, hst]
  rfl

theorem exec_withdraw {params : List Byte} (hf : ForNode h s) (hp : parseWithdraw params = some id) :
    exec (.withdraw h params) s = .next (endTake (withdraw h id (countRx h.port s))) := by
  change Host.Outcome.next (endTake (onRequest h reqWithdraw params (parseWithdraw params) (withdraw h) s)) = _
  rw [hp, onRequest_forNode hf]

/-- R120: a WITHDRAW that changes no record is answered alone. -/
theorem exec_withdraw_answered {params : List Byte} (hf : ForNode h s) (hp : parseWithdraw params = some id)
    (hr : AtRest s) {st : Status}
    (ht : withdraw h id (countRx h.port s) = respond h reqWithdraw st [] (countRx h.port s)) :
    exec (.withdraw h params) s = .next (respond h reqWithdraw st [] (countRx h.port s)) := by
  rw [exec_withdraw hf hp, ht]
  exact congrArg Host.Outcome.next (endTake_of_eq hr rfl rfl rfl)

end

/-- Settles O40: a WITHDRAW by the record it names, its role and its state. -/
theorem withdrawByState : Obligations.WithdrawByState := by
  intro h params id s hr hf hp
  refine ⟨fun hl => exec_withdraw_answered hf hp hr (withdraw_unknown hl), fun n c hl hc => ?_⟩
  refine ⟨fun hrole => exec_withdraw_answered hf hp hr (withdraw_notHead hl hrole),
    fun hrole hst hmax => exec_withdraw_answered hf hp hr (withdraw_busy hl hrole hst hmax),
    fun hrole hst hmax => ?_,
    fun hrole hst => exec_withdraw_answered hf hp hr (withdraw_again hl hrole hst),
    fun hrole hs hw => ?_⟩
  · have started := startWithdrawal_eq (s := countRx h.port s) hc hst
    rw [exec_withdraw hf hp, withdraw_starts (s := countRx h.port s) hl hrole hst hmax, started]
    rfl
  · rw [exec_withdraw hf hp, withdraw_aborts (s := countRx h.port s) hl hrole hs hw]
    rfl

end Sys2Proof.Machine
end

section
/-! SUPPORT. What the faults of a link loss, and all that follows from them in their take, spare (R97, R132): a port that
is not UP, the records other than the one that an operation is about, and what the work that follows may be. -/
namespace Sys2Proof.Machine

/-! ## A port that is not UP -/

/-- R169: the port with frames counted that found it not UP. -/
def Port.missed (x : Port) (n : Nat) : Port := { x with counters := { x.counters with notUp := n } }

/-- R169: a port that is not UP takes no frame but a HELLO. -/
theorem Port.hand_of_notUp {x : Port} {f : Frame} (hx : x.link ≠ .up) (hf : f.kind ≠ .hello) :
    x.hand f = x.missed (bump x.counters.notUp) := by
  have barred : x.takes f.kind = false := by
    unfold Port.takes
    split
    · exact absurd ‹_› hx
    · exact absurd ‹_› hf
    · rfl
  simp only [Port.hand, barred, Bool.not_false, if_true, Port.missed]

/-! ## What may follow in the take -/

/-- What a fault leaves to be done: grants, audit entries, and the failures of requests that it or a grant asks; a
failed safety request is of the record at the handle that `x` names. -/
def Work.Follows (x : Option Nat) : Work → Prop
  | .judgeGrant _ | .measure _ => True
  | .result (.read ..) _ => False
  | .result (.ctx h _ p) r => r = .failed ∧
      (p = .rampGet ∨ p = .withdrawBlock ∨ (∃ a, p = .withdrawSet a) ∨ (∃ f, p = .auditGet f) ∨
        p = .safety ∧ x = some h)

/-- From `s` to `t` port `p` misses frames at most where it is not UP, no record changes but at the handle that `x`
names, and what is left to do beside what was left in `s` follows from a fault of that record or from a grant. -/
structure Spares (p : Nat) (x : Option Nat) (s t : State) : Prop where
  port   : (s.port p).link ≠ .up → ∃ n, t.port p = (s.port p).missed n
  recs   : ∀ k, some k ≠ x → t.ctx k = s.ctx k
  switch : t.switch = s.switch
  work   : ∀ w ∈ t.work, w ∈ s.work ∨ w.Follows x

section
variable {p : Nat} {x : Option Nat} {s t u : State}

theorem Spares.of_eq (hp : t.ports = s.ports) (hr : t.table.recs = s.table.recs) (hs : t.switch = s.switch)
    (hw : t.work = s.work) : Spares p x s t :=
  ⟨fun _ => ⟨_, by rw [State.port, hp]; rfl⟩, fun k _ => by rw [State.ctx, hr]; rfl, hs, fun _ h => .inl (hw ▸ h)⟩

theorem Spares.refl (s : State) : Spares p x s s := .of_eq rfl rfl rfl rfl

theorem Spares.trans (h : Spares p x s t) (k : Spares p x t u) : Spares p x s u where
  port hs := by
    obtain ⟨n, hn⟩ := h.port hs
    obtain ⟨m, hm⟩ := k.port (by rw [hn]; exact hs)
    exact ⟨m, by rw [hm, hn]; rfl⟩
  recs j hj := (k.recs j hj).trans (h.recs j hj)
  switch := k.switch.trans h.switch
  work w hw := (k.work w hw).elim (h.work w) .inr

/-- Of two operations in a row, named from the last one back. -/
theorem Spares.after (k : Spares p x t u) (h : Spares p x s t) : Spares p x s u := h.trans k

theorem Spares.ite {b : Prop} [Decidable b] (ht : Spares p x s t) (hu : Spares p x s u) :
    Spares p x s (if b then t else u) := by split_ifs <;> assumption

theorem Spares.dir (h : DirOnly s t) : Spares p x s t := .of_eq h.ports (by rw [h.table]) h.switch h.work

theorem Spares.push {w : Work} (hw : w.Follows x) : Spares p x s (s.push [w]) where
  port _ := ⟨_, rfl⟩
  recs _ _ := rfl
  switch := rfl
  work _ hv := (List.mem_cons.1 hv).elim (fun e => .inr (e ▸ hw)) .inl

/-- Whatever is written at the handle excepted. -/
theorem Spares.setCtx (s : State) (h : Nat) (c : Option Context) : Spares p (some h) s (s.setCtx h c) where
  port _ := ⟨_, rfl⟩
  recs k hk := by rw [State.setCtx_ctx, if_neg fun e => hk (congrArg some e)]
  switch := rfl
  work _ := .inl

theorem Spares.modRamp (s : State) (f : Nat) (g : RampFace → RampFace) : Spares p x s (s.modRamp f g) :=
  .of_eq rfl rfl rfl rfl

theorem Spares.modCtx (s : State) (h : Nat) (g : Context → Context) : Spares p (some h) s (s.modCtx h g) := .setCtx ..

end

section
variable {p : Nat} {x : Option Nat} (s : State)

/-! ## Sending -/

theorem handFrame_spares (q : Nat) {f : Frame} (hf : f.kind ≠ .hello) : Spares p x s (handFrame q f s) where
  port hs := by
    rw [handFrame, State.modPort_port]
    split_ifs with hq
    · rw [← hq]
      exact ⟨_, Port.hand_of_notUp hs hf⟩
    · exact ⟨_, rfl⟩
  recs _ _ := rfl
  switch := rfl
  work _ := .inl

theorem sendOn_spares (q : Option Nat) {k : FrameKind} (hk : k ≠ .hello) (b : List Byte) :
    Spares p x s (sendOn q k b s) := by
  cases q
  exacts [.refl s, handFrame_spares s _ hk]

theorem event_spares (b : List Byte) : Spares p x s (event b s) := by
  unfold event routeFrame
  refine .ite (.refl s) (.ite (handFrame_spares s _ nofun) ?_)
  split
  exacts [handFrame_spares s _ nofun, .of_eq rfl rfl rfl rfl]

theorem sendTold_spares : Spares p x s (sendTold s) :=
  foldl_keeps (P := Spares p x s) (fun _ _ _ h => .after (event_spares ..) h) (.of_eq rfl rfl rfl rfl)

theorem tellEvent_spares (h : Nat) (b : List Byte) : Spares p x s (tellEvent h b s) := .of_eq rfl rfl rfl rfl

theorem countLocalFault_spares : Spares p x s (countLocalFault s) := .of_eq rfl rfl rfl rfl

/-! ## The element bus -/

theorem handOver_spares (cl : BusClass) (e : Option Nat) (t : Txn) (d : Bool) (f n : Nat) {tag : Tag}
    (h : (Work.result tag .failed).Follows x) : Spares p x s (handOver cl e t d f n tag s) := by
  cases e with
  | none => exact .push h
  | some e => exact .ite (.push h) (.of_eq rfl rfl rfl rfl)

theorem arbitrate_spares : Spares p x s (arbitrate s) := by
  unfold arbitrate
  split <;> exact .of_eq rfl rfl rfl rfl

/-! ## Steps in progress, audits, places in the ramp (R97, R99, R137) -/

theorem judgeAudit_spares (f : Nat) : Spares p x s (judgeAudit f s) :=
  .ite (.after (.push trivial) (.of_eq rfl rfl rfl rfl)) (.refl s)

theorem clearStep_spares (f : Nat) : Spares p x s (clearStep f s) :=
  .ite (.after (judgeAudit_spares ..) (.of_eq rfl rfl rfl rfl)) (.refl s)

theorem leaveRamp_spares (h : Nat) (c : Context) : Spares p (some h) s (leaveRamp h c s) := by
  have released : Spares p (some h) s (releaseTurn c.egress h s) :=
    .after (.modCtx ..) (.after (.modRamp ..) (.after (clearStep_spares ..) (.push (w := .judgeGrant _) trivial)))
  exact .ite released (.ite (.after (.push (w := .judgeGrant _) trivial) (.modRamp ..)) (.refl s))

/-! ## Changes of state and faults (R25, R35, R126, R130) -/

theorem changeState_spares (h : Nat) (c : Context) (st : CtxState) : Spares p (some h) s (changeState h c st s) :=
  .after (.dir (liveChange_dirOnly ..)) (.modCtx ..)

theorem freeRecord_spares (h : Nat) (c : Context) : Spares p (some h) s (freeRecord h c s) :=
  .after (.setCtx ..) (.after (.dir (spanFreed_dirOnly ..)) (leaveRamp_spares ..))

theorem askSafety_spares (d : Bool) (h : Nat) (c : Context) :
    Spares p (some h) s (askWss .safety .setBlock d .safety h c s) :=
  handOver_spares s _ _ _ _ _ _ ⟨rfl, .inr (.inr (.inr (.inr ⟨rfl, rfl⟩)))⟩

theorem enterFaulted_spares (h : Nat) (c : Context) (cause : Cause) (origin : Nat) (d : Direction) (up down : Bool) :
    Spares p (some h) s (enterFaulted h c cause origin d up down s) := by
  have send (b : Bool) (q : Option Nat) (d : Direction) {u : State} (k : Spares p (some h) s u) :
      Spares p (some h) s (if b = true then sendFault q d c cause origin u else u) :=
    .ite (.after (sendOn_spares _ _ (k := .fault) nofun _) k) k
  have asked := ((leaveRamp_spares s h c (p := p)).trans (.modCtx _ h Context.dropWork)).trans
    (changeState_spares _ h c .faulted)
  have entered := send down c.downPort .downstream <| send up c.upPort .upstream <|
    .after (.modCtx _ h fun c => { c with work := { c.work with dithering := false } }) <|
    .after (askSafety_spares _ c.work.dithering h c) <|
    .after (.modCtx _ h fun c => { c with faultRec := some ⟨cause, origin, d, false⟩ }) asked
  exact .ite (.after (tellEvent_spares ..) entered) entered

theorem localFaultOn_spares (h : Nat) (c : Context) (cause : Cause) (up down : Bool) :
    Spares p (some h) s (localFaultOn h c cause up down s) := by
  have ended : Spares p (some h) s (endWithdrawal h c s) :=
    .after (freeRecord_spares ..) (.after (sendOn_spares _ _ (k := .teardown) nofun _) (askSafety_spares ..))
  exact .ite (.after (countLocalFault_spares _) (enterFaulted_spares ..))
    (.ite (.after (countLocalFault_spares _) ended) (.refl s))

/-! ## Steps of the ramp and of the audit -/

theorem handGet_spares (f h : Nat) (c : Context) : Spares p x s (handGet f h c s) :=
  .after (handOver_spares _ _ _ _ _ _ _ ⟨rfl, .inl rfl⟩) (.of_eq rfl rfl rfl rfl)

theorem startStep_spares (h : Nat) (c : Context) : Spares p (some h) s (startStep h c s) := by
  have walked (g : Context → Context) : Spares p (some h) s ((stepWalk c.egress c.first c.count s).2.modCtx h g) :=
    .after (.modCtx ..) (.dir (stepWalk_dirOnly ..))
  exact .ite (.after (clearStep_spares ..) (.after (.modCtx ..) (walked _)))
    (.ite (.after (.modRamp ..) (walked _)) (.after (handGet_spares ..) (walked _)))

theorem withdrawStep_spares (h : Nat) (c : Context) : Spares p x s (withdrawStep h c s) := by
  have blocks : Spares p x s (askWss .ramp .setBlock false .withdrawBlock h c s) :=
    handOver_spares _ _ _ _ _ _ _ ⟨rfl, .inr (.inl rfl)⟩
  unfold withdrawStep
  split
  · exact blocks
  · exact .ite blocks (handOver_spares _ _ _ _ _ _ _ ⟨rfl, .inr (.inr (.inl ⟨_, rfl⟩))⟩)

theorem grant_spares (f : Nat) {e : QEntry} {c : Context} (hst : c.st = .armed ∨ c.st = .withdrawing) :
    Spares p (some e.handle) s (grant f e c s) := by
  have held (g : Context → Context) : Spares p (some e.handle) s
      ((s.modRamp f fun r => { r with queue := r.queue.tail, turn := some (e.handle, e.inst) }).modCtx e.handle g) :=
    .after (.modCtx ..) (.modRamp ..)
  rcases hst with hst | hst <;> simp only [grant, hst]
  · exact .after (startStep_spares ..) (.after (changeState_spares ..) (held _))
  · exact .after (withdrawStep_spares ..) (held _)

theorem finishEntry_spares (f : Nat) : Spares p x s (finishEntry f s) :=
  .after (.push trivial) (.of_eq rfl rfl rfl rfl)

theorem endPass_spares (f : Nat) : Spares p x s (endPass f s) := by
  have dropped : Spares p x s ((passOver f s).modRamp f fun r => { r with heldGet := false }) := .of_eq rfl rfl rfl rfl
  refine .ite ?_ (.of_eq rfl rfl rfl rfl)
  split
  · exact dropped
  · split
    exacts [dropped, .after (handGet_spares ..) dropped]

theorem measure_spares (f : Nat) : Spares p x s (measure f s) := by
  refine .ite (.refl s) ?_
  split
  · exact endPass_spares ..
  split
  · exact finishEntry_spares ..
  · exact .ite (handOver_spares _ _ _ _ _ _ _ ⟨rfl, .inr (.inr (.inr (.inl ⟨_, rfl⟩)))⟩) (finishEntry_spares ..)

end

/-! ## One thing done of what a fault leaves to be done -/

/-- R132: the record at `k` is IN_SERVICE or FAULTED: a link loss does not touch it. -/
def State.Still (s : State) (k : Nat) : Prop := ∃ c, s.ctx k = some c ∧ (c.st = .inService ∨ c.st = .faulted)

section
variable {p h i : Nat} {s : State} {c : Context}

theorem State.not_still (hc : s.ctx h = some c) (hst : c.st ≠ .inService ∧ c.st ≠ .faulted) : ¬s.Still h := by
  rintro ⟨d, hd, hstill⟩
  obtain rfl := Option.some.inj (hc.symm.trans hd)
  exact hstill.elim hst.1 hst.2

theorem ctx_of_current (hc : current s h i = some c) : s.ctx h = some c := (Option.filter_eq_some_iff.1 hc).1

/-- R95: a record in another state than ARMED or WITHDRAWING is granted nothing. -/
theorem grant_of_other (f : Nat) {e : QEntry} (hst : ¬(c.st = .armed ∨ c.st = .withdrawing)) : grant f e c s = s := by
  unfold grant
  split
  · exact absurd (.inl ‹_›) hst
  · exact absurd (.inr ‹_›) hst
  · rfl

/-- R96: of the records a grant changes at most that of the queue's head, which waits for the turn. -/
theorem judgeGrant_spares (f : Nat) (s : State) :
    ∃ x, Spares p x s (judgeGrant f s) ∧ ∀ k, x = some k → ¬s.Still k := by
  have idle : ∃ x, Spares p x s s ∧ ∀ k, x = some k → ¬s.Still k := ⟨none, .refl s, nofun⟩
  unfold judgeGrant
  split
  · split
    · rename_i e _ _ _ _ c hcur
      split_ifs
      · by_cases hst : c.st = .armed ∨ c.st = .withdrawing
        · refine ⟨some e.handle, grant_spares s f hst, fun k hk => ?_⟩
          obtain rfl := Option.some.inj hk
          exact State.not_still (ctx_of_current hcur) (by rcases hst with hst | hst <;> simp [hst])
        · rw [grant_of_other f hst]
          exact idle
      · exact idle
    · exact idle
  · exact idle

/-- R111: a ramp request that failed faults a record in RAMPING or WITHDRAWING alone. -/
theorem takeRampResult_failed (h i : Nat) (q : Purpose) (s : State) : takeRampResult h i q .failed s = s ∨
    ∃ c, s.ctx h = some c ∧ (c.st = .ramping ∨ c.st = .withdrawing) ∧
      takeRampResult h i q .failed s = localFault h c .element s := by
  unfold takeRampResult
  split
  · exact .inl rfl
  rename_i c hcur
  have faults (hst : c.st = .ramping ∨ c.st = .withdrawing) {t : State} (ht : t = localFault h c .element s) :
      t = s ∨ ∃ c, s.ctx h = some c ∧ (c.st = .ramping ∨ c.st = .withdrawing) ∧ t = localFault h c .element s :=
    .inr ⟨c, ctx_of_current hcur, hst, ht⟩
  cases hst : c.st
  case ramping =>
    cases q
    case rampGet | rampSet => exact faults (.inl hst) rfl
    all_goals exact .inl rfl
  case withdrawing =>
    cases q
    case withdrawSet | withdrawBlock => exact faults (.inr hst) rfl
    all_goals exact .inl rfl
  all_goals exact .inl rfl

theorem takeRampResult_spares (h i : Nat) (q : Purpose) (s : State) :
    ∃ x, Spares p x s (takeRampResult h i q .failed s) ∧ ∀ k, x = some k → ¬s.Still k := by
  rcases takeRampResult_failed h i q s with e | ⟨c, hc, hst, e⟩ <;> rw [e]
  · exact ⟨none, .refl s, nofun⟩
  · refine ⟨some h, localFaultOn_spares .., fun k hk => ?_⟩
    obtain rfl := Option.some.inj hk
    exact State.not_still hc (by rcases hst with hst | hst <;> simp [hst])

theorem takeSafetyResult_spares (h i : Nat) (r : Result) (s : State) :
    Spares p (some h) s (takeSafetyResult h i r s) := by
  unfold takeSafetyResult
  split
  · exact .refl s
  · exact .ite (.refl s) (.ite (.modCtx ..) (.modCtx ..))

/-- R127: a safety request that failed leaves its record but for the note that the block is unconfirmed. -/
theorem takeSafetyResult_failed (i : Nat) (hc : s.ctx h = some c) :
    ∃ d, (takeSafetyResult h i .failed s).ctx h = some d ∧
      (d = c ∨ d = { c with faultRec := c.faultRec.map fun x => { x with unconfirmed := true } }) := by
  unfold takeSafetyResult
  split
  · exact ⟨c, hc, .inl rfl⟩
  · split_ifs
    · exact ⟨c, hc, .inl rfl⟩
    · exact ⟨_, by rw [State.modCtx_ctx, if_pos rfl, hc]; rfl, .inr rfl⟩
    · exact absurd rfl ‹¬_›

theorem takeAuditGet_failed (f h i : Nat) (s : State) : takeAuditGet f h i .failed s = finishEntry f s := by
  unfold takeAuditGet
  split
  · rfl
  · split_ifs <;> rfl

/-- What follows in the take touches a record that stands still only with the failure of its own safety request. -/
theorem doWork_spares {w : Work} {y : Option Nat} (hw : w.Follows y) : ∃ x, Spares p x s (doWork w s) ∧
    ∀ k, x = some k → ¬s.Still k ∨ y = some k ∧ ∃ i, w = .result (.ctx k i .safety) .failed := by
  have moved {t : State} (ht : ∃ x, Spares p x s t ∧ ∀ k, x = some k → ¬s.Still k) : ∃ x, Spares p x s t ∧
      ∀ k, x = some k → ¬s.Still k ∨ y = some k ∧ ∃ i, w = .result (.ctx k i .safety) .failed := by
    obtain ⟨x, hx, hk⟩ := ht
    exact ⟨x, hx, fun k e => .inl (hk k e)⟩
  cases w with
  | judgeGrant f => exact moved (judgeGrant_spares f s)
  | measure f => exact ⟨none, measure_spares s f, nofun⟩
  | result tag r =>
    cases tag with
    | read => exact hw.elim
    | ctx h i q =>
      obtain ⟨rfl, rfl | rfl | ⟨a, rfl⟩ | ⟨f, rfl⟩ | ⟨rfl, hy⟩⟩ := hw
      · exact moved (takeRampResult_spares ..)
      · exact moved (takeRampResult_spares ..)
      · exact moved (takeRampResult_spares ..)
      · refine ⟨none, ?_, nofun⟩
        rw [show doWork (.result (.ctx h i (.auditGet f)) .failed) s = _ from takeAuditGet_failed f h i s]
        exact finishEntry_spares s f
      · refine ⟨some h, takeSafetyResult_spares .., fun k hk => ?_⟩
        obtain rfl := Option.some.inj hk
        exact .inr ⟨hy, i, rfl⟩

end

end Sys2Proof.Machine
end

section
/-! CERTIFICATE. A line port leaves UP (O6): what the loss makes of the port, of the records that name it, and of those
that stand still. -/
namespace Sys2Proof.Machine

section
variable {p h : Nat} {c x : Context} {s : State}

/-! ## The fault of one record -/

/-- R132: only a record in RESERVED to SETTLED that names the port faults. -/
theorem linkLossFault_of_names (hc : s.ctx h = some c) (hst : c.st.faultable = true)
    (hp : c.upPort = some p ∨ c.downPort = some p) :
    linkLossFault p h s = countLocalFault (enterFaulted h c .linkLoss s.switch.nodeId .here
      (c.upPort ≠ some p) (c.downPort ≠ some p) s) := by
  simp only [linkLossFault, hc]
  rw [if_pos ⟨hst, hp⟩]
  exact if_pos hst

theorem linkLossFault_of_other (hno : ∀ c, s.ctx h = some c → ¬(c.st.faultable = true ∧
    (c.upPort = some p ∨ c.downPort = some p))) : linkLossFault p h s = s := by
  unfold linkLossFault
  split
  · rfl
  · rename_i c hc
    exact if_neg (hno c hc)

theorem faultable_not_still {st : CtxState} (h : st.faultable = true) : st ≠ .inService ∧ st ≠ .faulted := by
  cases st <;> simp_all [CtxState.faultable]

theorem linkLossFault_spares (p h : Nat) (s : State) :
    ∃ x, Spares p x s (linkLossFault p h s) ∧ ∀ k, x = some k → k = h ∧ ¬s.Still k := by
  by_cases hno : ∀ c, s.ctx h = some c → ¬(c.st.faultable = true ∧ (c.upPort = some p ∨ c.downPort = some p))
  · exact ⟨none, by rw [linkLossFault_of_other hno]; exact .refl s, nofun⟩
  · push Not at hno
    obtain ⟨c, hc, hst, hp⟩ := hno
    refine ⟨some h, ?_, fun k hk => ?_⟩
    · rw [linkLossFault_of_names hc hst hp]
      exact .after (countLocalFault_spares _) (enterFaulted_spares ..)
    · obtain rfl := Option.some.inj hk
      exact ⟨rfl, State.not_still hc (faultable_not_still hst)⟩

/-- R126: the record of a fault entry. -/
theorem enterFaulted_ctx (hc : s.ctx h = some c) (hst : c.st.faultable = true) (cause : Cause) (origin : Nat)
    (d : Direction) (up down : Bool) :
    (enterFaulted h c cause origin d up down s).ctx h = some (faultedRecord h c cause origin d s) := by
  have sent (b : Bool) (q : Option Nat) (d : Direction) (t : State) :
      (if b = true then sendFault q d c cause origin t else t).ctx h = t.ctx h := by
    split_ifs
    · rw [sendFault, sendOn_frame]
      rfl
    · rfl
  have told (t : State) : (if c.role = .head then tellEvent h (evFault c.lpId cause origin) t else t).ctx h = t.ctx h := by
    split_ifs <;> rfl
  rw [enterFaulted_eq hc hst]
  dsimp only
  rw [told, sent, sent, askSafety, askWss_ctx, faultedState, State.setCtx_ctx, if_pos rfl]

end

/-! ## What the take carries through -/

/-- What follows from the faults of a link loss. -/
def Work.Brought (w : Work) : Prop := ∃ y, w.Follows y

/-- What follows from them, but no safety request of the record at `h`. -/
def Work.BroughtBut (h : Nat) (w : Work) : Prop := ∃ y, y ≠ some h ∧ w.Follows y

/-- Port `p` is as `x`, but for the frames it missed. -/
def PortLost (p : Nat) (x : Port) (s : State) : Prop := ∃ n, s.port p = x.missed n

/-- R132: the record `c` at `h` is one that a link loss does not touch. -/
def StandsStill (h : Nat) (c : Context) (s : State) : Prop := s.ctx h = some c ∧ (c.st = .inService ∨ c.st = .faulted)

/-- R132: what a record that names the lost port has become. -/
def Context.LostTo (c : Context) (origin : Nat) (d : Context) : Prop :=
  d.st = .faulted ∧ d.inst = c.inst ∧ ∃ unconfirmed, d.faultRec = some ⟨.linkLoss, origin, .here, unconfirmed⟩

/-- R132: the record at `h`, which was `c`, is FAULTED with LINK_LOSS. -/
def RecordLost (h : Nat) (c : Context) (origin : Nat) (s : State) : Prop := ∃ d, s.ctx h = some d ∧ c.LostTo origin d

section
variable {p h origin : Nat} {x : Port} {c d : Context} {y : Option Nat} {s t : State} {w : Work}

theorem PortLost.spared (hl : PortLost p x s) (hx : x.link ≠ .up) (k : Spares p y s t) : PortLost p x t := by
  obtain ⟨n, hn⟩ := hl
  obtain ⟨m, hm⟩ := k.port (by rw [hn]; exact hx)
  exact ⟨m, by rw [hm, hn]; rfl⟩

theorem StandsStill.spared (hl : StandsStill h c s) (k : Spares p y s t) (hy : y ≠ some h) : StandsStill h c t :=
  ⟨(k.recs h hy.symm).trans hl.1, hl.2⟩

theorem RecordLost.spared (hl : RecordLost h c origin s) (k : Spares p y s t) (hy : y ≠ some h) :
    RecordLost h c origin t := by
  unfold RecordLost
  rw [k.recs h hy.symm]
  exact hl

theorem StandsStill.still (hl : StandsStill h c s) : s.Still h := ⟨c, hl⟩

theorem RecordLost.still (hl : RecordLost h c origin s) : s.Still h := by
  obtain ⟨d, hd, hst, -⟩ := hl
  exact ⟨d, hd, .inr hst⟩

/-- R127: the note of an unconfirmed block leaves the record FAULTED with LINK_LOSS. -/
theorem Context.LostTo.noted (hl : c.LostTo origin d) :
    c.LostTo origin { d with faultRec := d.faultRec.map fun x => { x with unconfirmed := true } } := by
  obtain ⟨hst, hi, u, hu⟩ := hl
  exact ⟨hst, hi, true, by rw [hu]; rfl⟩

theorem Spares.brought (k : Spares p y s t) : ∀ v ∈ t.work, v ∈ s.work ∨ v.Brought :=
  fun v hv => (k.work v hv).imp_right fun hf => ⟨y, hf⟩

theorem Spares.broughtBut (k : Spares p y s t) (hy : y ≠ some h) : ∀ v ∈ t.work, v ∈ s.work ∨ v.BroughtBut h :=
  fun v hv => (k.work v hv).imp_right fun hf => ⟨y, hy, hf⟩

/-! ### One thing done, and all of it -/

theorem PortLost.doWork (hl : PortLost p x s) (hx : x.link ≠ .up) (hw : w.Brought) :
    PortLost p x (doWork w s) ∧ ∀ v ∈ (doWork w s).work, v ∈ s.work ∨ v.Brought := by
  obtain ⟨y, hw⟩ := hw
  obtain ⟨z, k, -⟩ := doWork_spares (p := p) (s := s) hw
  exact ⟨hl.spared hx k, k.brought⟩

theorem StandsStill.doWork (hl : StandsStill h c s) (hw : w.BroughtBut h) :
    StandsStill h c (doWork w s) ∧ ∀ v ∈ (doWork w s).work, v ∈ s.work ∨ v.BroughtBut h := by
  obtain ⟨y, hy, hw⟩ := hw
  obtain ⟨z, k, hz⟩ := doWork_spares (p := 0) (s := s) hw
  have other : z ≠ some h := fun e => (hz h e).elim (fun hno => hno hl.still) fun hsafe => hy hsafe.1
  exact ⟨hl.spared k other, k.broughtBut other⟩

/-- R127: of the work that follows, its failed safety request alone reaches the record. -/
theorem RecordLost.doWork (hl : RecordLost h c origin s) (hw : w.Brought) :
    RecordLost h c origin (doWork w s) ∧ ∀ v ∈ (doWork w s).work, v ∈ s.work ∨ v.Brought := by
  obtain ⟨y, hw⟩ := hw
  obtain ⟨z, k, hz⟩ := doWork_spares (p := 0) (s := s) hw
  refine ⟨?_, k.brought⟩
  by_cases hy : z = some h
  · obtain ⟨-, i, rfl⟩ := (hz h hy).resolve_left (not_not.2 hl.still)
    obtain ⟨d, hd, hlost⟩ := hl
    obtain ⟨e, he, rfl | rfl⟩ := takeSafetyResult_failed i hd
    · exact ⟨_, he, hlost⟩
    · exact ⟨_, he, hlost.noted⟩
  · exact hl.spared k hy

/-- What each thing done carries through, the work of a take carries through. -/
theorem settleWork_carries {Q : State → Prop} {W : Work → Prop} (hQ : ∀ s ws, Q s → Q { s with work := ws })
    (hdo : ∀ w s, Q s → W w → Q (doWork w s) ∧ ∀ v ∈ (doWork w s).work, v ∈ s.work ∨ W v)
    (hs : Q s ∧ ∀ w ∈ s.work, W w) : Q (settleWork s) := by
  have ran (n : Nat) : Q (runWork n s) := by
    induction n generalizing s with
    | zero => exact hs.1
    | succ n ih =>
      unfold runWork
      split
      · exact hs.1
      · rename_i w ws hws
        obtain ⟨hq, hv⟩ := hdo w { s with work := ws } (hQ _ _ hs.1) (hs.2 w (hws ▸ .head ws))
        exact ih ⟨hq, fun v hm => (hv v hm).elim (fun hold => hs.2 v (hws ▸ .tail w hold)) id⟩
  exact hQ _ _ (ran _)

/-! ### The faults of the records, and the whole of the loss -/

theorem linkLossFault_brought (p k : Nat) (hw : ∀ w ∈ s.work, w.Brought) :
    ∀ w ∈ (linkLossFault p k s).work, w.Brought := by
  obtain ⟨z, hz, -⟩ := linkLossFault_spares p k s
  exact fun w hm => (hz.brought w hm).elim (hw w) id

theorem PortLost.faults (hx : x.link ≠ .up) (hl : PortLost p x s ∧ ∀ w ∈ s.work, w.Brought) (l : List Nat) :
    PortLost p x (l.foldl (fun s k => linkLossFault p k s) s) ∧
      ∀ w ∈ (l.foldl (fun s k => linkLossFault p k s) s).work, w.Brought :=
  foldl_keeps (P := fun s => PortLost p x s ∧ ∀ w ∈ s.work, w.Brought) (fun s k _ hl => by
    obtain ⟨z, hz, -⟩ := linkLossFault_spares p k s
    exact ⟨hl.1.spared hx hz, linkLossFault_brought p k hl.2⟩) hl

theorem StandsStill.faults (hl : StandsStill h c s ∧ ∀ w ∈ s.work, w.BroughtBut h) (l : List Nat) :
    StandsStill h c (l.foldl (fun s k => linkLossFault p k s) s) ∧
      ∀ w ∈ (l.foldl (fun s k => linkLossFault p k s) s).work, w.BroughtBut h :=
  foldl_keeps (P := fun s => StandsStill h c s ∧ ∀ w ∈ s.work, w.BroughtBut h) (fun s k _ hl => by
    obtain ⟨z, hz, hstill⟩ := linkLossFault_spares p k s
    have other : z ≠ some h := fun e => (hstill h e).2 hl.1.still
    exact ⟨hl.1.spared hz other, fun w hm => (hz.broughtBut other w hm).elim (hl.2 w) id⟩) hl

theorem RecordLost.faults (hl : RecordLost h c origin s ∧ ∀ w ∈ s.work, w.Brought) (l : List Nat) :
    RecordLost h c origin (l.foldl (fun s k => linkLossFault p k s) s) ∧
      ∀ w ∈ (l.foldl (fun s k => linkLossFault p k s) s).work, w.Brought :=
  foldl_keeps (P := fun s => RecordLost h c origin s ∧ ∀ w ∈ s.work, w.Brought) (fun s k _ hl => by
    obtain ⟨z, hz, hstill⟩ := linkLossFault_spares p k s
    exact ⟨hl.1.spared hz fun e => (hstill h e).2 hl.1.still, linkLossFault_brought p k hl.2⟩) hl

/-- R132: a record that names the port waits unchanged for its turn among the handles, and then faults. -/
theorem recordLost_of_faults {l : List Nat} (hmem : h ∈ l) (hc : s.ctx h = some c) (hst : c.st.faultable = true)
    (hp : c.upPort = some p ∨ c.downPort = some p) (hw : ∀ w ∈ s.work, w.Brought) :
    RecordLost h c s.switch.nodeId (l.foldl (fun s k => linkLossFault p k s) s) ∧
      ∀ w ∈ (l.foldl (fun s k => linkLossFault p k s) s).work, w.Brought := by
  induction l generalizing s with
  | nil => exact absurd hmem List.not_mem_nil
  | cons k l ih =>
    rw [List.foldl_cons]
    by_cases hk : h = k
    · subst hk
      have faulted : (linkLossFault p h s).ctx h = some (faultedRecord h c .linkLoss s.switch.nodeId .here s) := by
        rw [linkLossFault_of_names hc hst hp]
        exact enterFaulted_ctx hc hst ..
      exact RecordLost.faults ⟨⟨_, faulted, rfl, rfl, false, rfl⟩, linkLossFault_brought p h hw⟩ l
    · obtain ⟨z, hz, hself⟩ := linkLossFault_spares p k s
      have untouched := hz.recs h fun e => hk (hself h e.symm).1
      rw [← hz.switch]
      exact ih ((List.mem_cons.1 hmem).resolve_left hk) (untouched.trans hc) (linkLossFault_brought p k hw)

/-- R132, R163: what the loss of a port that has left UP makes of the port and of the records. -/
theorem linkLoss_leaves (hx : (s.port p).link ≠ .up) (hw : s.work = []) :
    PortLost p (s.port p) (linkLoss p s) ∧
    (∀ h c, s.ctx h = some c → c.st = .inService ∨ c.st = .faulted → StandsStill h c (linkLoss p s)) ∧
    (∀ h c, s.ctx h = some c → c.st.faultable = true → c.upPort = some p ∨ c.downPort = some p →
      RecordLost h c s.switch.nodeId (linkLoss p s)) := by
  have none_left {W : Work → Prop} : ∀ w ∈ s.work, W w := by
    rw [hw]
    exact nofun
  have told (t : State) : Spares p none t (sendTold t) := sendTold_spares t
  refine ⟨?_, fun h c hc hst => ?_, fun h c hc hst hp => ?_⟩
  · refine PortLost.spared ?_ hx (told _)
    exact settleWork_carries (fun _ _ => id) (fun _ _ hl hw => hl.doWork hx hw)
      (PortLost.faults hx ⟨⟨_, rfl⟩, none_left⟩ _)
  · refine StandsStill.spared ?_ (told _) nofun
    exact settleWork_carries (fun _ _ => id) (fun _ _ hl hw => hl.doWork hw)
      (StandsStill.faults ⟨⟨hc, hst⟩, none_left⟩ _)
  · refine RecordLost.spared ?_ (told _) nofun
    exact settleWork_carries (fun _ _ => id) (fun _ _ hl hw => hl.doWork hw)
      (recordLost_of_faults (mem_handles hc) hc hst hp none_left)

end

/-! ## The port leaves UP (R163) -/

/-- R163: the port as it leaves UP. -/
def Port.left (x : Port) (link : LinkState) (acq : Option Acq) : Port :=
  { x.flush with link := link, neighbour := none, acq := acq, deadTimer := none,
                 helloTimer := if link = .down then none else x.helloTimer }

theorem leaveUp_line (p : Fin 8) (link : LinkState) (acq : Option Acq) (s : State) :
    leaveUp p link acq s = event (evLinkChange p link (s.port p).neighbour)
      (linkLoss p (s.modPort p fun x => x.left link acq)) := by
  unfold leaveUp
  dsimp only
  rw [if_pos (by omega)]
  rfl

theorem linkLoss_rested (p : Nat) (s : State) : (linkLoss p s).work = [] ∧ (linkLoss p s).told = [] := by
  obtain ⟨q, r, h⟩ := sendTold_frame (settleWork ((handles s).foldl (fun s h => linkLossFault p h s) s))
  rw [linkLoss, h]
  exact ⟨rfl, rfl⟩

theorem endTake_leaveUp (p : Fin 8) (link : LinkState) (acq : Option Acq) (s : State) :
    endTake (leaveUp p link acq s) = arbitrate (leaveUp p link acq s) := by
  obtain ⟨hw, ht⟩ := linkLoss_rested p (s.modPort p fun x => x.left link acq)
  rw [leaveUp_line, event_frame]
  exact endTake_of_nil hw ht

/-- The three ways out of UP, each from a state that agrees with the one before it in all that the loss reads. -/
theorem exec_leaves {p : Fin 8} {s : State} {c : Instr} {link : LinkState} {acq : Option Acq}
    (hup : (s.port p).link = .up)
    (hc : (c = .signalLost p ∧ link = .down ∧ acq = none) ∨
      (c = .deadTimerExpiry p ∧ due (s.port p).deadTimer s.now = true ∧ link = .acquire ∧ acq = none) ∨
      (∃ h body n np, c = .hello h body ∧ h.port.val = p.val ∧ parseHello body = some (n, np) ∧
        n ≠ s.switch.nodeId ∧ (s.port p).neighbour.map (·.1) ≠ some n ∧ link = .acquire ∧
        acq = some ⟨n, 1, s.now⟩)) :
    ∃ r : State, exec c s = .next (endTake (leaveUp p link acq r)) ∧ link ≠ .up ∧ r.table = s.table ∧
      r.switch = s.switch ∧ r.work = s.work ∧
      ∃ k, r.port p = { s.port p with counters := { (s.port p).counters with rx := k } } := by
  rcases hc with ⟨rfl, rfl, rfl⟩ | ⟨rfl, hdue, rfl, rfl⟩ | ⟨h, body, n, np, rfl, hport, hp, hn, hnb, rfl, rfl⟩
  · refine ⟨{ s with pins := { s.pins with signal := s.pins.signal.set p false } }, ?_, nofun, rfl, rfl, rfl, _, rfl⟩
    change execSignalLost p s = _
    simp only [execSignalLost, show (({ s with pins := { s.pins with signal := s.pins.signal.set p false } } :
      State).port p).link = .up from hup]
  · exact ⟨s, if_pos ⟨hdue, hup⟩, nofun, rfl, rfl, rfl, _, rfl⟩
  · have counted : (countRx p s).port p =
        { s.port p with counters := { (s.port p).counters with rx := bump (s.port p).counters.rx } } := by
      rw [countRx, State.modPort_port, if_pos rfl]
    refine ⟨countRx p s, ?_, nofun, rfl, rfl, rfl, _, counted⟩
    change Host.Outcome.next (endTake (receive h.port true (takeHello h.port body) s)) = _
    have hline : lineHello p n np (countRx p s) = leaveUp p .acquire (some ⟨n, 1, s.now⟩) (countRx p s) := by
      unfold lineHello
      simp only [counted, hup, if_neg hnb]
      rfl
    rw [receive_hello, hport, takeHello, if_neg (by omega), hp]
    exact congrArg (fun t => Host.Outcome.next (endTake t)) ((if_neg hn).trans hline)

/-- Settles O6: the loss taken from the state in which the port has left UP, and the fault of one record. -/
theorem leavingUpFaultsNamedContexts : Obligations.LeavingUpFaultsNamedContexts := by
  unfold Obligations.LeavingUpFaultsNamedContexts
  refine ⟨fun p s c link acq hup hw ht hc => ?_, fun p h x s hc hst => ?_⟩
  · obtain ⟨r, hexec, hlink, htable, hswitch, hwork, k, hport⟩ := exec_leaves hup hc
    let left : State := r.modPort p fun x => x.left link acq
    have hleft : left.port p = (r.port p).left link acq := by simp only [left, State.modPort_port, if_true]
    have hctx (h : Nat) : left.ctx h = s.ctx h := by
      rw [State.modPort_ctx, State.ctx, htable]
      rfl
    obtain ⟨lost, still, faulted⟩ := linkLoss_leaves (s := left) (p := p) (by rw [hleft]; exact hlink) (hwork.trans hw)
    obtain ⟨hlw, hlt⟩ := linkLoss_rested p left
    have hnb : (r.port p).neighbour = (s.port p).neighbour := by rw [hport]
    rw [endTake_leaveUp, leaveUp_line, hnb] at hexec
    refine ⟨_, linkLoss p left, hexec, rfl, hlw, hlt, ?_⟩
    have told : Spares p none (linkLoss p left)
        (arbitrate (event (evLinkChange p link (s.port p).neighbour) (linkLoss p left))) :=
      .after (arbitrate_spares _) (event_spares ..)
    obtain ⟨m, hm⟩ := lost.spared (by rw [hleft]; exact hlink) told
    rw [hm, hleft, hport]
    refine ⟨rfl, rfl, rfl, rfl, rfl, rfl, rfl, fun h x hx hst hp => ?_, fun h x hx hst => ?_⟩
    · obtain ⟨y, hy, hyst, hyi, u, hu⟩ := (faulted h x ((hctx h).trans hx) hst hp).spared told nofun
      exact ⟨y, u, hy, hyst, hyi, by rw [← hswitch]; exact hu⟩
    · exact ((still h x ((hctx h).trans hx) hst).spared told nofun).1
  · refine ⟨fun hu hd => ?_, fun hd hu => ?_, fun hu hd => ?_⟩
    · rw [linkLossFault_of_names hc hst (.inl hu)]
      simp only [hu, ne_eq, not_true_eq_false, decide_false, hd, not_false_eq_true, decide_true]
    · rw [linkLossFault_of_names hc hst (.inr hd)]
      simp only [hd, ne_eq, not_true_eq_false, decide_false, hu, not_false_eq_true, decide_true]
    · exact linkLossFault_of_other fun d hd' h => by
        obtain rfl := Option.some.inj (hc.symm.trans hd')
        exact h.2.elim hu hd

end Sys2Proof.Machine
end

section
/-! SUPPORT. Steps in progress and running audits kept apart (R137) by each operation of a take, in the order of the
model's files. -/
namespace Sys2Proof.Machine

/-! ## States that keep a running audit and a step in progress apart -/

/-- R137: where no running audit and step in progress are at work together on a face of `s`, none are on one of `t`. -/
def Apart (s t : State) : Prop := AuditStepApart s → AuditStepApart t

section
variable {s t u : State} {f : Nat}

/-- R137 reads the step and running indications alone. -/
theorem Apart.of_eq (hr : t.ramp.faces = s.ramp.faces) (ha : t.audit = s.audit) : Apart s t := fun h f => by
  rw [State.rampFace, State.auditFace, hr, ha]
  exact h f

theorem Apart.refl (s : State) : Apart s s := id

/-- Of two operations in a row, named from the last one back. -/
theorem Apart.after (k : Apart t u) (h : Apart s t) : Apart s u := k ∘ h

theorem Apart.ite {p : Prop} [Decidable p] (ht : Apart s t) (hu : Apart s u) : Apart s (if p then t else u) := by
  split_ifs <;> assumption

theorem Apart.dir (h : DirOnly s t) : Apart s t := .of_eq (by rw [h.ramp]) h.audit

theorem Apart.foldl {α : Type} {g : State → α → State} (hg : ∀ s a, Apart s (g s a)) {l : List α} :
    Apart s (l.foldl g s) := fun h => foldl_keeps (P := AuditStepApart) (fun t a _ ht => hg t a ht) h

theorem Apart.setCtx {h : Nat} {c : Option Context} : Apart s (s.setCtx h c) := .of_eq rfl rfl

theorem Apart.modCtx {h : Nat} {g : Context → Context} : Apart s (s.modCtx h g) := .setCtx

/-- A change of a ramp face that begins no step. -/
theorem Apart.modRamp {g : RampFace → RampFace} (hg : ∀ r, (g r).inStep = true → r.inStep = true) :
    Apart s (s.modRamp f g) := fun h j => by
  rw [State.modRamp_rampFace, State.modRamp_auditFace]
  split_ifs with hj
  · rw [hj]
    exact fun hw => h f ⟨hg _ hw.1, hw.2⟩
  · exact h j

/-- A change of an audit face that begins no pass. -/
theorem Apart.modAudit {g : AuditFace → AuditFace} (hg : ∀ a, (g a).running = true → a.running = true) :
    Apart s (s.modAudit f g) := fun h j => by
  rw [State.modAudit_auditFace, State.modAudit_rampFace]
  split_ifs with hj
  · rw [hj]
    exact fun hw => h f ⟨hw.1, hg _ hw.2⟩
  · exact h j

/-- R101: a step begins on a face whose audit is not running. -/
theorem Apart.stepBegun {g : RampFace → RampFace} (hidle : (s.auditFace f).running = false) :
    Apart s (s.modRamp f g) := fun h j => by
  rw [State.modRamp_rampFace, State.modRamp_auditFace]
  split_ifs with hj
  · rw [hj, hidle]
    exact fun hw => nomatch hw.2
  · exact h j

/-- R137: a pass begins on a face with no step in progress. -/
theorem Apart.passBegun {g : AuditFace → AuditFace} (hclear : (s.rampFace f).inStep = false) :
    Apart s (s.modAudit f g) := fun h j => by
  rw [State.modAudit_auditFace, State.modAudit_rampFace]
  split_ifs with hj
  · rw [hj, hclear]
    exact fun hw => nomatch hw.1
  · exact h j

end

section
variable {s : State} {f h i k : Nat} {c : Context}

/-! ## Sending -/

theorem sendOn_apart {p : Option Nat} {k : FrameKind} {b : List Byte} : Apart s (sendOn p k b s) := by
  rw [sendOn_frame]
  exact .of_eq rfl rfl

theorem relay_apart {p : Option Nat} {k : FrameKind} {h : Hdr} {b : List Byte} : Apart s (relay p k h b s) := by
  rw [relay_frame]
  exact .of_eq rfl rfl

theorem event_apart {b : List Byte} : Apart s (event b s) := by
  rw [event_frame]
  exact .of_eq rfl rfl

theorem tellEvent_apart {b : List Byte} : Apart s (tellEvent h b s) := .of_eq rfl rfl

theorem sendTold_apart : Apart s (sendTold s) := by
  obtain ⟨p, r, h⟩ := sendTold_frame s
  rw [h]
  exact .of_eq rfl rfl

theorem respond_apart {h : Hdr} {code : Nat} {st : Status} {r : List Byte} : Apart s (respond h code st r s) :=
  .of_eq rfl rfl

theorem forwardFrame_apart {p : Nat} {x : Frame} : Apart s (forwardFrame p x s) := by
  rw [forwardFrame_frame]
  exact .of_eq rfl rfl

theorem stray_apart : Apart s (stray s) := .of_eq rfl rfl

theorem malformed_apart {p : Nat} : Apart s (malformed p s) := .of_eq rfl rfl

/-! ## Places in the ramp, changes of state, freeing (R35, R97, R99, R137) -/

/-- R137: a pending audit waits for the step to end. -/
theorem judgeAudit_apart : Apart s (judgeAudit f s) := by
  by_cases h : (s.auditFace f).pending = true ∧ (s.rampFace f).inStep = false
  · obtain ⟨hpending, hclear⟩ := h
    rw [judgeAudit_of_pending hpending hclear]
    exact .after (.of_eq rfl rfl) (.passBegun hclear)
  · rw [judgeAudit_of_idle (by simpa [imp_iff_not_or] using h)]
    exact .refl s

theorem clearStep_apart : Apart s (clearStep f s) := .ite (.after judgeAudit_apart (.modRamp nofun)) (.refl s)

theorem leaveRamp_apart : Apart s (leaveRamp h c s) := by
  have dequeued {g : RampFace → RampFace} (hg : ∀ r, (g r).inStep = true → r.inStep = true) :
      Apart s ((s.modRamp c.egress g).push [.judgeGrant c.egress]) := .after (.of_eq rfl rfl) (.modRamp hg)
  have released : Apart s (releaseTurn c.egress h s) :=
    .after .modCtx (.after (.modRamp fun _ => id) (.after clearStep_apart (.of_eq rfl rfl)))
  exact .ite released (.ite (dequeued fun _ => id) (.refl s))

theorem changeState_apart {st : CtxState} : Apart s (changeState h c st s) :=
  .after (.dir (liveChange_dirOnly ..)) .modCtx

theorem freeRecord_apart : Apart s (freeRecord h c s) := by
  rw [freeRecord_eq]
  exact .after .setCtx (.after (.dir (spanFreed_dirOnly ..)) leaveRamp_apart)

/-! ## The element bus -/

theorem handOver_apart {cl : BusClass} {e : Option Nat} {t : Txn} {d : Bool} {n : Nat} {tag : Tag} :
    Apart s (handOver cl e t d f n tag s) := by
  rw [handOver_frame]
  exact .of_eq rfl rfl

theorem askWss_apart {cl : BusClass} {t : Txn} {d : Bool} {p : Purpose} : Apart s (askWss cl t d p h c s) :=
  handOver_apart

theorem askMonitor_apart {cl : BusClass} {p : Purpose} : Apart s (askMonitor cl p h c s) := handOver_apart

theorem arbitrate_apart : Apart s (arbitrate s) := by
  unfold arbitrate
  split <;> exact .of_eq rfl rfl

theorem endTxn_apart {b : OnBus} {r : Result} : Apart s (endTxn b r s) := by
  have settling {t : State} {e : Nat} {x : Txn} : Apart t (startSettle e x t) := .ite (.of_eq rfl rfl) (.refl t)
  have judged {t : State} {e : Nat} {good : Bool} : Apart t (healthStep e good t) :=
    .ite (.after (.of_eq rfl rfl) (.after event_apart (.of_eq rfl rfl))) (.of_eq rfl rfl)
  exact .after settling (.after judged (.of_eq rfl rfl))

/-! ## Faults -/

theorem sendTeardown_apart : Apart s (sendTeardown c s) := sendOn_apart

theorem enterFaulted_apart {cause : Cause} {origin : Nat} {d : Direction} {up down : Bool} :
    Apart s (enterFaulted h c cause origin d up down s) := by
  have sent {b : Bool} {p : Option Nat} {travel : Direction} {t : State} (ht : Apart s t) :
      Apart s (if b then sendFault p travel c cause origin t else t) := .ite (.after sendOn_apart ht) ht
  have told {e : List Byte} {t : State} (ht : Apart s t) :
      Apart s (if c.role = .head then tellEvent h e t else t) := .ite (.after tellEvent_apart ht) ht
  exact told (sent (sent (.after .modCtx (.after askWss_apart
    (.after .modCtx (.after changeState_apart (.after .modCtx leaveRamp_apart)))))))

theorem endWithdrawal_apart : Apart s (endWithdrawal h c s) :=
  .after freeRecord_apart (.after sendTeardown_apart askWss_apart)

theorem localFaultOn_apart {cause : Cause} {up down : Bool} : Apart s (localFaultOn h c cause up down s) :=
  .ite (.after (.of_eq rfl rfl) enterFaulted_apart) (.ite (.after (.of_eq rfl rfl) endWithdrawal_apart) (.refl s))

theorem localFault_apart {cause : Cause} : Apart s (localFault h c cause s) := localFaultOn_apart

theorem linkLossFault_apart {p : Nat} : Apart s (linkLossFault p h s) := by
  unfold linkLossFault
  split
  exacts [.refl s, .ite localFaultOn_apart (.refl s)]

theorem takeFault_apart {port id : Nat} {cause : Cause} {origin : Nat} {d : Direction} :
    Apart s (takeFault port id cause origin d s) := by
  unfold takeFault
  split
  · exact .of_eq rfl rfl
  · exact .ite (.after (.of_eq rfl rfl) enterFaulted_apart)
      (.ite (.after (.of_eq rfl rfl) endWithdrawal_apart) (.of_eq rfl rfl))

/-! ## The probe phase -/

theorem pumpProbe_apart : Apart s (pumpProbe h s) := by
  have asked {t : Txn} {p : Purpose} {c : Context} {g : Context → Context} :
      Apart s (askWss .ramp t false p h c (s.modCtx h g)) := .after askWss_apart .modCtx
  unfold pumpProbe
  split
  · exact .refl s
  refine .ite (.refl s) ?_
  split
  exacts [asked, .ite asked (.ite asked (.refl s))]

theorem takeLevel_apart : Apart s (takeLevel h k s) := .after pumpProbe_apart .modCtx

theorem pumpClosing_apart : Apart s (pumpClosing h i s) := by
  have asked {t : Txn} {x : Closing} {g : Closing → Option Closing} : Apart s
      (handOver .ramp (s.faceSet x.face).wss t false x.first x.count (.ctx h i .closing) (setClosing h i g s)) :=
    .after handOver_apart (.of_eq rfl rfl)
  unfold pumpClosing
  split
  exacts [.refl s, .ite (.refl s) (.ite asked (.ite asked (.of_eq rfl rfl)))]

theorem closeMaint_apart : Apart s (closeMaint h c s) :=
  .after pumpClosing_apart (.after freeRecord_apart (.of_eq rfl rfl))

theorem takeProbeResult_apart {a : Option Nat} {r : Result} : Apart s (takeProbeResult h i a r s) := by
  unfold takeProbeResult
  split
  · refine .ite (.ite (.after localFault_apart .modCtx) ?_) (.refl s)
    dsimp only
    generalize hp : pumpProbe h _ = t
    have pumped : Apart s t := by
      rw [← hp]
      refine .after pumpProbe_apart ?_
      split
      exacts [.modCtx, .after (.dir (markModified_dirOnly ..)) (.after .modCtx .modCtx)]
    split
    exacts [pumped, .ite (.after (.of_eq rfl rfl) pumped) pumped]
  · exact .after pumpClosing_apart (.of_eq rfl rfl)

theorem beginProbe_apart : Apart s (beginProbe h c s) :=
  .after sendOn_apart (.after takeLevel_apart (.after .modCtx changeState_apart))

theorem stepLadder_apart : Apart s (stepLadder h c s) :=
  .ite (.after sendOn_apart (.after takeLevel_apart .modCtx)) localFault_apart

theorem joinRamp_apart : Apart s (joinRamp h c s) := .after (.of_eq rfl rfl) (.modRamp fun _ => id)

theorem armHead_apart : Apart s (armHead h c s) :=
  .after joinRamp_apart (.after pumpProbe_apart (.after .modCtx changeState_apart))

theorem takeProbe_apart {hd : Hdr} {body : List Byte} : Apart s (takeProbe hd body h c k s) := by
  have taken : Apart s (takeLevel h k (if c.st = .reserved then changeState h c .probing s else s)) :=
    .after takeLevel_apart (.ite changeState_apart (.refl s))
  exact .ite (.ite (.after relay_apart taken) taken) (.after .modCtx taken)

theorem answerArmed_apart {hd : Hdr} {body : List Byte} : Apart s (answerArmed hd body h c k s) := by
  have taken : Apart s (if c.probeLevel < k then takeLevel h k s else s) := .ite takeLevel_apart (.refl s)
  unfold answerArmed
  dsimp only
  split
  exacts [.after relay_apart taken, .after sendOn_apart taken, taken]

theorem validate_apart : Apart s (validate h c s) := by
  unfold validate
  dsimp only
  split
  · exact .after closeMaint_apart (.after sendOn_apart .modCtx)
  · exact .after changeState_apart (.after sendOn_apart .modCtx)
  · exact .after sendOn_apart .modCtx

theorem takeBurst_apart {g code : Nat} : Apart s (takeBurst g code s) := by
  unfold takeBurst
  dsimp only
  split
  · exact .of_eq rfl rfl
  · exact .ite (.ite validate_apart .modCtx) (.ite (.after localFault_apart .modCtx) .modCtx)

/-! ## The ramp -/

theorem startDwell_apart : Apart s (startDwell h c s) := .after clearStep_apart .modCtx

/-- R101, R138: a GET goes to the bus where no audit runs. -/
theorem handGet_apart (hidle : (s.auditFace f).running = false) : Apart s (handGet f h c s) :=
  .after askMonitor_apart (.stepBegun hidle)

/-- R99 to R101: while the face's audit runs, the GET of a step is held back. -/
theorem startStep_apart : Apart s (startStep h c s) := by
  have walked {g : Context → Context} : Apart s ((stepWalk c.egress c.first c.count s).2.modCtx h g) :=
    .after .modCtx (.dir (stepWalk_dirOnly ..))
  unfold startStep
  dsimp only
  refine .ite (.after startDwell_apart walked) ?_
  split_ifs with hrun
  · exact .after (.modRamp fun _ => id) walked
  · exact .after (handGet_apart (Bool.eq_false_iff.2 hrun)) walked

theorem withdrawStep_apart : Apart s (withdrawStep h c s) := by
  unfold withdrawStep
  split
  exacts [askWss_apart, .ite askWss_apart askWss_apart]

theorem judgeGrant_apart : Apart s (judgeGrant f s) := by
  have granted {e : QEntry} {c : Context} : Apart s (grant f e c s) := by
    unfold grant
    dsimp only
    split
    · exact .after startStep_apart (.after changeState_apart (.after .modCtx (.modRamp fun _ => id)))
    · exact .after withdrawStep_apart (.after .modCtx (.modRamp fun _ => id))
    · exact .refl s
  unfold judgeGrant
  split
  · split
    exacts [.ite granted (.refl s), .refl s]
  · exact .refl s

theorem settle_apart : Apart s (settle h c s) := by
  have left : Apart s (leaveRamp h c (changeState h c .settled s)) := .after leaveRamp_apart changeState_apart
  unfold settle
  dsimp only
  split
  · exact .ite left (.after sendOn_apart left)
  · exact .after sendOn_apart (.after .modCtx left)
  · exact .after changeState_apart (.after sendOn_apart (.after .modCtx left))

theorem takeReading_apart {p : Int} : Apart s (takeReading h c p s) := by
  unfold takeReading
  dsimp only
  split
  exacts [.after localFault_apart .setCtx, .after settle_apart .setCtx, .after startDwell_apart .setCtx,
    .after askWss_apart .setCtx]

theorem takeSetting_apart {a : Atten} : Apart s (takeSetting h c a s) :=
  .after startDwell_apart (.after (.dir (markModified_dirOnly ..)) .modCtx)

theorem finishWithdrawal_apart : Apart s (finishWithdrawal h c s) :=
  .after freeRecord_apart (.after sendTeardown_apart (.after (.dir (markModified_dirOnly ..)) .modCtx))

theorem takeRampResult_apart {p : Purpose} {r : Result} : Apart s (takeRampResult h i p r s) := by
  unfold takeRampResult
  split
  · exact .refl s
  split
  · split
    exacts [takeReading_apart, localFault_apart]
  · exact localFault_apart
  · exact takeSetting_apart
  · exact localFault_apart
  · exact takeSetting_apart
  · exact localFault_apart
  · exact finishWithdrawal_apart
  · exact .refl s

theorem takeSafetyResult_apart {r : Result} : Apart s (takeSafetyResult h i r s) := by
  unfold takeSafetyResult
  split
  exacts [.refl s, .ite (.refl s) (.ite .modCtx .modCtx)]

/-! ## The audit -/

theorem finishEntry_apart : Apart s (finishEntry f s) := .after (.of_eq rfl rfl) (.modAudit fun _ => id)

/-- R138: the GET that the audit held back goes to the bus after the running indication is cleared. -/
theorem endPass_apart : Apart s (endPass f s) := by
  have ended : Apart s (passOver f s) := .modAudit nofun
  have dropped : Apart s ((passOver f s).modRamp f fun r => { r with heldGet := false }) :=
    .after (.modRamp fun _ => id) ended
  have idle : (((passOver f s).modRamp f fun r => { r with heldGet := false }).auditFace f).running = false := by
    rw [State.modRamp_auditFace, passOver, State.modAudit_auditFace, if_pos rfl]
  unfold endPass
  dsimp only
  refine .ite ?_ ended
  split
  · exact dropped
  · split
    exacts [dropped, .after (handGet_apart idle) dropped]

theorem measure_apart : Apart s (measure f s) := by
  unfold measure
  refine .ite (.refl s) ?_
  split
  · exact endPass_apart
  · split
    exacts [finishEntry_apart, .ite askMonitor_apart finishEntry_apart]

theorem takeAuditGet_apart {r : Result} : Apart s (takeAuditGet f h i r s) := by
  have told {b : Prop} [Decidable b] {e : List Byte} {g : Context → Context} :
      Apart s (if b then s.modCtx h g else tellEvent h e (s.modCtx h g)) := .ite .modCtx (.after tellEvent_apart .modCtx)
  have applied {c : Context} {p : Int} : Apart s (takeAuditReading f h c p s) :=
    .ite (.after askWss_apart told) (.after finishEntry_apart told)
  unfold takeAuditGet
  split
  · exact finishEntry_apart
  refine .ite finishEntry_apart ?_
  split
  exacts [applied, finishEntry_apart]

theorem takeAuditSet_apart {a : Nat} {r : Result} : Apart s (takeAuditSet f h i a r s) := by
  unfold takeAuditSet
  split
  · exact finishEntry_apart
  · exact .ite finishEntry_apart (.after finishEntry_apart (.after (.dir (markModified_dirOnly ..)) .modCtx))

/-! ## The whole of a take -/

theorem takeResult_apart {t : Tag} {r : Result} : Apart s (takeResult t r s) := by
  unfold takeResult
  split
  · unfold answerRead
    dsimp only
    split <;> exact .of_eq rfl rfl
  rename_i h i p
  cases p with
  | level | ditherStart | ditherStop | closing => exact takeProbeResult_apart
  | rampGet | rampSet | withdrawSet | withdrawBlock => exact takeRampResult_apart
  | safety => exact takeSafetyResult_apart
  | auditGet => exact takeAuditGet_apart
  | auditSet => exact takeAuditSet_apart

theorem doWork_apart {w : Work} : Apart s (doWork w s) := by
  cases w with
  | result => exact takeResult_apart
  | judgeGrant => exact judgeGrant_apart
  | measure => exact measure_apart

theorem runWork_apart {n : Nat} : Apart s (runWork n s) := by
  induction n generalizing s with
  | zero => exact .refl s
  | succ n ih =>
    unfold runWork
    split
    exacts [.refl s, .after ih (.after doWork_apart (.of_eq rfl rfl))]

theorem settleWork_apart : Apart s (settleWork s) := .after (.of_eq rfl rfl) runWork_apart

theorem endTake_apart : Apart s (endTake s) := .after arbitrate_apart (.after sendTold_apart settleWork_apart)

end

end Sys2Proof.Machine
end

section
/-! SUPPORT. Steps in progress and running audits kept apart (R137) by ports, frames, timers, requests and resets. -/
namespace Sys2Proof.Machine

section
variable {s : State} {f i n : Nat} {c : Context}

/-! ## Ports and reception -/

theorem leaveUp_apart {p : Nat} {l : LinkState} {a : Option Acq} : Apart s (leaveUp p l a s) := by
  have lost {t : State} : Apart t (linkLoss p t) :=
    .after sendTold_apart (.after settleWork_apart (.foldl fun _ _ => linkLossFault_apart))
  exact .after event_apart (.ite (.after lost (.of_eq rfl rfl)) (.of_eq rfl rfl))

theorem lineHello_apart {p n np : Nat} : Apart s (lineHello p n np s) := by
  have counted {g : Port → Port} : Apart s (s.modPort p g) := .of_eq rfl rfl
  have up {t : State} : Apart t (enterUp p n np t) := .after event_apart (.of_eq rfl rfl)
  unfold lineHello
  dsimp only
  split
  · exact .refl s
  · split
    exacts [.ite (.ite (.after up counted) counted) counted, counted]
  · exact .ite counted leaveUp_apart

theorem takeHello_apart {p : Nat} {body : List Byte} : Apart s (takeHello p body s) := by
  refine .ite malformed_apart ?_
  split
  exacts [malformed_apart, .ite malformed_apart lineHello_apart]

theorem receive_apart {p : Nat} {b : Bool} {k : State → State} (hk : ∀ t, Apart t (k t)) :
    Apart s (receive p b k s) :=
  .ite (.of_eq rfl rfl) (.after (hk _) (.of_eq rfl rfl))

theorem commissioning_apart {α : Type} {hd : Hdr} {x : Option α} {k : α → State → State}
    (hk : ∀ y t, Apart t (k y t)) : Apart s (receive hd.port false (commissioning hd x k) s) := by
  refine receive_apart fun t => ?_
  unfold commissioning
  split
  exacts [malformed_apart, .ite stray_apart (hk _ _)]

theorem onMgmt_apart {hd : Hdr} {k : FrameKind} {body : List Byte} {own adj : State → State}
    (hown : ∀ t, Apart t (own t)) (hadj : ∀ t, Apart t (adj t)) : Apart s (onMgmt hd k body own adj s) :=
  receive_apart fun t => .ite (hown t) (.ite (hadj t) (.ite malformed_apart forwardFrame_apart))

theorem onRequest_apart {α : Type} {hd : Hdr} {code : Nat} {rest : List Byte} {x : Option α} {k : α → State → State}
    (hk : ∀ y t, Apart t (k y t)) : Apart s (onRequest hd code rest x k s) := by
  cases x with
  | none => exact onMgmt_apart (fun _ => respond_apart) fun _ => respond_apart
  | some y => exact onMgmt_apart (hk y) (hk y)

theorem onReply_apart {hd : Hdr} {k : FrameKind} {body : List Byte} : Apart s (onReply hd k body s) :=
  onMgmt_apart (fun _ => .of_eq rfl rfl) fun _ => malformed_apart

/-! ## Commissioning frames -/

section
variable {hd : Hdr} {body : List Byte}

/-- R21, R41, R55: a record is made and its span reserved. -/
theorem made_apart {ing eg first count : Nat} : Apart s (reserveSpan n ing eg first count (allocate n c s)) :=
  .after (.dir (reserveSpan_dirOnly ..)) (.of_eq rfl rfl)

theorem admission_apart {role : Role} {ing eg index : Nat} {b : SetupBody} :
    Apart s (admission role ing eg index b s).2 := by
  have judged : Apart s (judgeSpan ing eg b.first b.count b.cls s).2 := .dir (judgeSpan_dirOnly ..)
  have counted {t : State} : Apart t (countAccepted t) := .of_eq rfl rfl
  unfold admission
  dsimp only
  split
  · exact judged
  · exact judged
  · exact judged
  · exact judged
  · exact .after counted (.after made_apart judged)

theorem takeSetup_apart {b : SetupBody} : Apart s (takeSetup hd b s) := by
  unfold takeSetup
  split
  · exact malformed_apart
  split
  · exact .of_eq rfl rfl
  · split <;> rename_i heq
    all_goals have admitted := congrArg Prod.snd heq ▸ admission_apart (s := s)
    · exact .after (.of_eq rfl rfl) admitted
    · split
      exacts [.after sendOn_apart admitted, .after relay_apart admitted]

theorem onSetup_apart : Apart s (onSetup hd body s) := commissioning_apart fun _ _ => takeSetup_apart

theorem takeSetupAck_apart {id : Nat} : Apart s (takeSetupAck hd body id s) := by
  unfold takeSetupAck
  split
  · exact stray_apart
  refine .ite ?_ stray_apart
  dsimp only
  split
  exacts [.after beginProbe_apart .modCtx, .after relay_apart .modCtx, stray_apart]

theorem takeSetupReject_apart {x : Nat × Reason × Nat} : Apart s (takeSetupReject hd body x s) := by
  unfold takeSetupReject
  split
  · exact stray_apart
  refine .ite ?_ stray_apart
  split
  exacts [.after tellEvent_apart freeRecord_apart, .after relay_apart freeRecord_apart, stray_apart]

theorem takeProbeFrame_apart {x : Nat × Nat} : Apart s (takeProbeFrame hd body x s) := by
  unfold takeProbeFrame
  split
  · exact stray_apart
  refine .ite ?_ stray_apart
  split
  exacts [takeProbe_apart, takeProbe_apart, answerArmed_apart, stray_apart]

theorem takeProbeAck_apart {x : Nat × Nat × Bool} : Apart s (takeProbeAck hd body x s) := by
  unfold takeProbeAck
  split
  · exact stray_apart
  refine .ite ?_ stray_apart
  split
  · exact .after tellEvent_apart closeMaint_apart
  · exact armHead_apart
  · exact .ite (.after relay_apart closeMaint_apart) stray_apart
  · exact .ite (.after relay_apart changeState_apart) stray_apart
  · exact stray_apart
  · exact relay_apart
  · exact stray_apart

theorem takeProbeNak_apart {x : Nat × Nat × Nat} : Apart s (takeProbeNak hd body x s) := by
  unfold takeProbeNak
  split
  · exact stray_apart
  refine .ite ?_ stray_apart
  split
  exacts [relay_apart, .ite stepLadder_apart stray_apart, stray_apart]

theorem takeAdvance_apart {x : Nat × List HopReport} : Apart s (takeAdvance hd x s) := by
  unfold takeAdvance
  split
  exacts [stray_apart, .ite (.after joinRamp_apart .modCtx) stray_apart]

theorem takeReady_apart {x : Nat × List HopReport} : Apart s (takeReady hd body x s) := by
  unfold takeReady
  split
  · exact stray_apart
  refine .ite ?_ stray_apart
  split
  exacts [.after relay_apart changeState_apart, .after tellEvent_apart (.after .modCtx changeState_apart), stray_apart]

theorem takeTeardown_apart {b : TeardownBody} : Apart s (takeTeardown hd b s) := by
  have passed {t : State} {e : Hop} {x : Option Nat} : Apart t (passTeardown hd b e x t) := by
    unfold passTeardown
    split_ifs
    · split
      exacts [stray_apart, relay_apart]
    · split
      exacts [event_apart, tellEvent_apart]
  unfold takeTeardown
  split
  · exact malformed_apart
  refine .ite stray_apart ?_
  split
  exacts [passed, .ite stray_apart (.after passed (.after freeRecord_apart askWss_apart))]

end

/-! ## Timers -/

theorem probeDwellExpired_apart : Apart s (probeDwellExpired n i s) := by
  unfold probeDwellExpired
  split
  exacts [.refl s, .ite stepLadder_apart (.refl s)]

theorem probeWindowExpired_apart : Apart s (probeWindowExpired n i s) := by
  unfold probeWindowExpired
  split
  exacts [.refl s, .ite (.after sendOn_apart .modCtx) (.refl s)]

theorem deadlineExpired_apart : Apart s (deadlineExpired n i s) := by
  unfold deadlineExpired
  split
  · exact .refl s
  refine .ite ?_ (.refl s)
  split
  exacts [localFault_apart, localFault_apart, localFault_apart, localFault_apart, freeRecord_apart, .refl s]

theorem stepDwellExpired_apart : Apart s (stepDwellExpired n i s) := by
  unfold stepDwellExpired
  split
  · exact .refl s
  refine .ite ?_ (.refl s)
  dsimp only
  split
  exacts [.after startStep_apart .modCtx, .after withdrawStep_apart .modCtx, .refl s]

/-- R135, R137: a face whose audit becomes pending waits for its step to end. -/
theorem auditExpired_apart : Apart s (auditExpired f s) :=
  .ite (.ite (.after (.modAudit fun _ => id) (.modAudit fun _ => id))
    (.after judgeAudit_apart (.after (.modAudit fun _ => id) (.modAudit fun _ => id)))) (.refl s)

/-! ## Requests -/

section
variable {hd : Hdr}

theorem writeFace_apart {x : (Nat × Nat) × FaceWrite} : Apart s (writeFace hd x s) :=
  .ite (.of_eq rfl rfl) (.ite (.of_eq rfl rfl) (.ite (.of_eq rfl rfl) (.of_eq rfl rfl)))

theorem writeBlock_apart {x : (Nat × Nat) × BlockWrite} : Apart s (writeBlock hd x s) :=
  .ite (.of_eq rfl rfl) (.ite (.of_eq rfl rfl) (.ite (.of_eq rfl rfl)
    (.after respond_apart (.ite (.after (.dir (clearPage_dirOnly ..)) (.of_eq rfl rfl)) (.of_eq rfl rfl)))))

theorem writeSlot_apart {x : (Nat × Nat) × Nat} : Apart s (writeSlot hd x s) := by
  have written {f n : Nat} {a k : EntryKind} : Apart s (writeLive f a k (setKind f n k s)) :=
    .after (.dir (liveChange_dirOnly ..)) (.dir (setKind_dirOnly ..))
  unfold writeSlot
  refine .ite respond_apart ?_
  split
  · exact respond_apart
  split
  · exact respond_apart
  split
  exacts [respond_apart, respond_apart, .after respond_apart written]

/-- R136: a change of the audit interval begins no pass. -/
theorem writeSettings_apart {x : (Nat × Nat) × SettingsWrite} : Apart s (writeSettings hd x s) := by
  have retimed {f old new : Nat} {t : State} : Apart t (retimeAudit f old new t) :=
    .ite (.refl t) (.ite (.modAudit fun _ => id) (.modAudit fun _ => id))
  exact .ite respond_apart (.ite respond_apart (.ite respond_apart
    (.after respond_apart (.after retimed (.of_eq rfl rfl)))))

theorem writeProfile_apart {x : (Nat × Nat) × Profile} : Apart s (writeProfile hd x s) :=
  .ite (.of_eq rfl rfl) (.ite (.of_eq rfl rfl) (.ite (.of_eq rfl rfl) (.of_eq rfl rfl)))

theorem writeElement_apart {x : (Nat × Nat) × ElementWrite} : Apart s (writeElement hd x s) := by
  refine .ite (.of_eq rfl rfl) ?_
  split
  exacts [.of_eq rfl rfl, .ite (.of_eq rfl rfl) (.of_eq rfl rfl)]

theorem writeRoute_apart {x : (Nat × Nat) × Route} : Apart s (writeRoute hd x s) :=
  .ite (.of_eq rfl rfl) (.ite (.of_eq rfl rfl) (.of_eq rfl rfl))

theorem writeNode_apart {x : (Nat × Nat) × NodeWrite} : Apart s (writeNode hd x s) :=
  .ite (.of_eq rfl rfl) (.ite (.of_eq rfl rfl) (.of_eq rfl rfl))

theorem flagsClear_apart {x : Nat × Nat} : Apart s (flagsClear hd x s) :=
  .ite respond_apart (.ite (.after respond_apart (.after (.foldl fun _ _ => .dir (clearBlockFlags_dirOnly ..))
    (.of_eq rfl rfl))) (.after respond_apart (.dir (clearBlockFlags_dirOnly ..))))

theorem commission_apart {b : SetupBody} : Apart s (commission hd b s) := by
  unfold commission
  refine .ite respond_apart ?_
  split
  · exact .of_eq rfl rfl
  refine .ite (.of_eq rfl rfl) ?_
  split <;> rename_i heq
  all_goals have admitted := congrArg Prod.snd heq ▸ admission_apart (s := s)
  · exact .after (.of_eq rfl rfl) admitted
  · exact .after sendOn_apart (.after respond_apart admitted)

theorem withdraw_apart {id : Nat} : Apart s (withdraw hd id s) := by
  unfold withdraw
  split
  · exact respond_apart
  refine .ite respond_apart ?_
  split
  · exact .ite respond_apart (.after respond_apart (.after joinRamp_apart changeState_apart))
  · exact respond_apart
  · exact .after respond_apart (.after freeRecord_apart (.after sendTeardown_apart askWss_apart))

theorem adopt_apart {b : AdoptBody} : Apart s (adopt hd b s) := by
  have judged : Apart s (judgeSpan b.ingress b.egress b.first b.count b.cls s).2 := .dir (judgeSpan_dirOnly ..)
  have raised {t : State} : Apart t (raiseLive b.egress b.count t) := .of_eq rfl rfl
  unfold adopt
  split
  · exact respond_apart
  dsimp only
  split
  · exact .after respond_apart judged
  · exact .after respond_apart judged
  · exact .ite (.after (.of_eq rfl rfl) judged) (.after respond_apart (.after raised (.after made_apart judged)))

theorem contextRead_apart {id : Nat} : Apart s (contextRead hd id s) := by
  unfold contextRead
  split <;> exact respond_apart

theorem contextDiscard_apart {id : Nat} : Apart s (contextDiscard hd id s) := by
  unfold contextDiscard
  split
  · exact respond_apart
  split
  exacts [.after respond_apart freeRecord_apart, .after respond_apart freeRecord_apart, respond_apart]

theorem elementRead_apart {x : Nat × Nat × Nat} : Apart s (elementRead hd x s) := by
  unfold elementRead
  split <;> exact .of_eq rfl rfl

theorem countersRead_apart {clear : Bool} : Apart s (countersRead hd clear s) := by
  have audit {f : Nat} {t : State} : Apart t (t.modAudit f fun a => { a with overruns := 0 }) := .modAudit fun _ => id
  have audits : Apart s ((List.range 12).foldl (fun t f => t.modAudit f fun a => { a with overruns := 0 }) s) :=
    .foldl fun _ _ => audit
  have cleared : Apart s (clearCounters s) := by
    rw [foldl_modAudit] at audits
    rw [clearCounters_eq]
    refine Apart.after ?_ audits
    exact .of_eq rfl rfl
  exact .after respond_apart (.ite cleared (.refl s))

end

/-! ## The resets -/

/-- R112: with every step indication clear no step is at work. -/
theorem auditStepApart_of_clear (hclear : s.ramp.faces = Tab.empty RampFace.initial) : AuditStepApart s := fun f hw => by
  rw [State.rampFace, hclear] at hw
  exact Bool.false_ne_true hw.1

theorem nodeResetSteps_apart : Apart s (nodeResetSteps s) := fun _ =>
  auditStepApart_of_clear (by rw [nodeResetSteps_only])

theorem localUp_apart : Apart s (localUp s) := .after event_apart (.of_eq rfl rfl)

theorem powerOn_apart {straps : Nat} : Apart s (powerOn straps s) := by
  have line {p : Nat} {t : State} : Apart t (powerOnLine p t) := .ite (.of_eq rfl rfl) (.refl t)
  have lines {t : State} (ht : Apart s t) : Apart s ((List.range 8).foldl (fun t p => powerOnLine p t) t) :=
    .after (.foldl fun _ _ => line) ht
  have cleared {t : State} (hclear : t.ramp.faces = Tab.empty RampFace.initial) : Apart s t :=
    fun _ => auditStepApart_of_clear hclear
  unfold powerOn
  dsimp only
  split_ifs
  · exact .after localUp_apart (lines (cleared rfl))
  · exact lines (cleared rfl)

end

end Sys2Proof.Machine
end

section
/-! CERTIFICATE. A running audit and a step in progress apart under every command and every step (O42). -/
namespace Sys2Proof.Machine

section
variable {s : State}

/-! ## Every command -/

/-- Where a running audit and a step in progress are apart in `s`, they are in what a command answers. -/
def KeepsApart (s : State) (o : Host.Outcome State Fault Refusal) : Prop := ∀ t, o = .next t → Apart s t

theorem KeepsApart.next {t : State} (h : Apart s t) : KeepsApart s (.next t) := fun _ e => by cases e; exact h

theorem KeepsApart.take {t : State} (h : Apart s t) : KeepsApart s (.next (endTake t)) := .next (.after endTake_apart h)

theorem KeepsApart.ite {p : Prop} [Decidable p] {a b : Host.Outcome State Fault Refusal} (ha : KeepsApart s a)
    (hb : KeepsApart s b) : KeepsApart s (if p then a else b) := by split_ifs <;> assumption

/-- A commissioning frame taken to the end of its take. -/
theorem KeepsApart.frame {α : Type} {hd : Hdr} {x : Option α} {k : α → State → State} (hk : ∀ y t, Apart t (k y t)) :
    KeepsApart s (.next (endTake (receive hd.port false (commissioning hd x k) s))) := .take (commissioning_apart hk)

/-- A request. -/
theorem KeepsApart.request {α : Type} {hd : Hdr} {code : Nat} {rest : List Byte} {x : Option α} {k : α → State → State}
    (hk : ∀ y t, Apart t (k y t)) : KeepsApart s (.next (onRequest hd code rest x k s)) := .next (onRequest_apart hk)

/-! ## Pins, the element bus -/

theorem execSignalLost_apart {p : Fin 8} : KeepsApart s (execSignalLost p s) := by
  unfold execSignalLost
  dsimp only
  split
  exacts [.next (.of_eq rfl rfl), .next (.of_eq rfl rfl), .take (.after leaveUp_apart (.of_eq rfl rfl))]

theorem execTransmissionEnd_apart {p : Fin 9} : KeepsApart s (execTransmissionEnd p s) := by
  unfold execTransmissionEnd
  split
  exacts [.next (.refl s), .next (.of_eq rfl rfl)]

theorem execTurnaroundEnd_apart : KeepsApart s (execTurnaroundEnd s) := by
  unfold execTurnaroundEnd
  split
  · split
    exacts [.next (.of_eq rfl rfl), .next (.refl s)]
  · exact .next (.refl s)

theorem execElementAnswer_apart {txn : Nat} {a : Answer} : KeepsApart s (execElementAnswer txn a s) := by
  unfold execElementAnswer
  split
  · split
    exacts [.ite (.take endTxn_apart) (.next (.refl s)), .next (.refl s)]
  · exact .next (.refl s)

theorem execResponseTimeout_apart : KeepsApart s (execResponseTimeout s) := by
  unfold execResponseTimeout
  split
  · split
    exacts [.ite (.take endTxn_apart) (.next (.refl s)), .next (.refl s)]
  · exact .next (.refl s)

/-! ## Frames and requests -/

section
variable {hd : Hdr} {body : List Byte}

/-- R173: a TABLE WRITE by its table code. -/
theorem tableWriteAs_apart : KeepsApart s (tableWriteAs hd body s) := by
  unfold tableWriteAs
  split
  · exact .request fun _ t => .refl t
  split
  · exact .request fun _ _ => writeFace_apart
  · exact .request fun _ _ => writeBlock_apart
  · exact .request fun _ _ => writeSlot_apart
  · exact .request fun _ _ => writeSettings_apart
  · exact .request fun _ _ => writeProfile_apart
  · exact .request fun _ _ => writeElement_apart
  · exact .request fun _ _ => writeRoute_apart
  · exact .request fun _ _ => writeNode_apart
  · exact .request fun _ t => .refl t

/-- R172: a MGMT-REQUEST by its request code. -/
theorem requestAs_apart : KeepsApart s (requestAs hd body s) := by
  unfold requestAs
  split
  · exact .next (onMgmt_apart (fun _ => .of_eq rfl rfl) fun _ => .of_eq rfl rfl)
  split
  · exact .request fun _ _ => respond_apart
  · exact tableWriteAs_apart
  · exact .request fun _ _ => flagsClear_apart
  · exact .request fun _ _ => commission_apart
  · exact .take (onRequest_apart fun _ _ => withdraw_apart)
  · exact .request fun _ _ => adopt_apart
  · exact .request fun _ _ => contextRead_apart
  · exact .request fun _ _ => .ite respond_apart respond_apart
  · exact .take (onRequest_apart fun _ _ => contextDiscard_apart)
  · exact .take (onRequest_apart fun _ _ => elementRead_apart)
  · exact .request fun _ _ => .ite respond_apart (.of_eq rfl rfl)
  · exact .request fun _ _ => respond_apart
  · exact .request fun _ _ => .ite respond_apart (.of_eq rfl rfl)
  · exact .request fun _ _ => .ite respond_apart (.of_eq rfl rfl)
  · exact .request fun _ _ => .ite respond_apart (.of_eq rfl rfl)
  · exact .request fun _ _ => countersRead_apart
  · exact .next (.after arbitrate_apart (onRequest_apart fun _ _ => .after respond_apart nodeResetSteps_apart))
  · exact .request fun _ t => .refl t

theorem managementRequest_apart : KeepsApart s (managementRequest hd body s) :=
  .ite requestAs_apart (.next (onMgmt_apart .refl .refl))

theorem execHello_apart : KeepsApart s (execHello hd body s) := .take (receive_apart fun _ => takeHello_apart)

theorem execSetupAck_apart : KeepsApart s (execSetupAck hd body s) := .frame fun _ _ => takeSetupAck_apart

theorem execSetupReject_apart : KeepsApart s (execSetupReject hd body s) := .frame fun _ _ => takeSetupReject_apart

theorem execProbe_apart : KeepsApart s (execProbe hd body s) := .frame fun _ _ => takeProbeFrame_apart

theorem execProbeAck_apart : KeepsApart s (execProbeAck hd body s) := .frame fun _ _ => takeProbeAck_apart

theorem execProbeNak_apart : KeepsApart s (execProbeNak hd body s) := .frame fun _ _ => takeProbeNak_apart

theorem execAdvance_apart : KeepsApart s (execAdvance hd body s) := .frame fun _ _ => takeAdvance_apart

theorem execReady_apart : KeepsApart s (execReady hd body s) := .frame fun _ _ => takeReady_apart

theorem execFault_apart : KeepsApart s (execFault hd body s) := .frame fun _ _ => takeFault_apart

theorem execTeardown_apart : KeepsApart s (execTeardown hd body s) := .frame fun _ _ => takeTeardown_apart

end

/-- R165, R166: a received byte sequence, as the command of its frame's kind. -/
theorem execRxFrameRejected_apart {p : Fin 9} {bytes : List Byte} : KeepsApart s (execRxFrameRejected p bytes s) := by
  unfold execRxFrameRejected
  split
  · exact .next (.of_eq rfl rfl)
  · exact .next (.of_eq rfl rfl)
  unfold frameAs
  dsimp only
  split
  · exact execHello_apart
  · exact .next onSetup_apart
  · exact execSetupAck_apart
  · exact execSetupReject_apart
  · exact execProbe_apart
  · exact execProbeAck_apart
  · exact execProbeNak_apart
  · exact execAdvance_apart
  · exact execReady_apart
  · exact execFault_apart
  · exact execTeardown_apart
  · exact managementRequest_apart
  · exact .next onReply_apart
  · exact .next onReply_apart

/-- R137 under every command. A request command is the MGMT-REQUEST whose body begins with its code (R172, R173). -/
theorem exec_apart (x : Instr) : KeepsApart s (exec x s) := by
  cases x with
  | powerOnReset => exact .next powerOn_apart
  | signalPresent => exact .ite (.next (.of_eq rfl rfl)) (.next (.of_eq rfl rfl))
  | signalLost => exact execSignalLost_apart
  | carrierPresent => exact .ite (.next (.after localUp_apart (.of_eq rfl rfl))) (.next (.of_eq rfl rfl))
  | carrierLost => exact .ite (.next (.after leaveUp_apart (.of_eq rfl rfl))) (.next (.of_eq rfl rfl))
  | burstReport => exact .take takeBurst_apart
  | rxFrameRejected => exact execRxFrameRejected_apart
  | hello => exact execHello_apart
  | setup => exact .next onSetup_apart
  | setupAck => exact execSetupAck_apart
  | setupReject => exact execSetupReject_apart
  | probe => exact execProbe_apart
  | probeAck => exact execProbeAck_apart
  | probeNak => exact execProbeNak_apart
  | advance => exact execAdvance_apart
  | ready => exact execReady_apart
  | fault => exact execFault_apart
  | teardown => exact execTeardown_apart
  | forwarding h kind =>
    cases kind
    exacts [managementRequest_apart, .next onReply_apart, .next onReply_apart]
  | responseEventDelivery => exact .next onReply_apart
  | unknownRequestCode => exact requestAs_apart
  | tableRead h p => exact requestAs_apart (hd := h) (body := 0x01 :: p)
  | faceDescriptorWrite h p => exact tableWriteAs_apart (hd := h) (body := 1 :: p)
  | blockDescriptorWrite h p => exact tableWriteAs_apart (hd := h) (body := 2 :: p)
  | slotEntryWrite h p => exact tableWriteAs_apart (hd := h) (body := 3 :: p)
  | faceSettingsWrite h p => exact tableWriteAs_apart (hd := h) (body := 4 :: p)
  | profileWrite h p => exact tableWriteAs_apart (hd := h) (body := 5 :: p)
  | elementWrite h p => exact tableWriteAs_apart (hd := h) (body := 6 :: p)
  | routeWrite h p => exact tableWriteAs_apart (hd := h) (body := 7 :: p)
  | nodeSettingsWrite h p => exact tableWriteAs_apart (hd := h) (body := 8 :: p)
  | flagsClear h p => exact requestAs_apart (hd := h) (body := 0x03 :: p)
  | commission h p => exact requestAs_apart (hd := h) (body := 0x10 :: p)
  | withdraw h p => exact requestAs_apart (hd := h) (body := 0x11 :: p)
  | adopt h p => exact requestAs_apart (hd := h) (body := 0x12 :: p)
  | contextRead h p => exact requestAs_apart (hd := h) (body := 0x13 :: p)
  | contextList h p => exact requestAs_apart (hd := h) (body := 0x14 :: p)
  | contextDiscard h p => exact requestAs_apart (hd := h) (body := 0x15 :: p)
  | elementRead h p => exact requestAs_apart (hd := h) (body := 0x20 :: p)
  | elementRevive h p => exact requestAs_apart (hd := h) (body := 0x21 :: p)
  | capabilityIdentify h p => exact requestAs_apart (hd := h) (body := 0x30 :: p)
  | capabilitySet h p => exact requestAs_apart (hd := h) (body := 0x31 :: p)
  | capabilityRestore h p => exact requestAs_apart (hd := h) (body := 0x32 :: p)
  | capabilityFreeze h p => exact requestAs_apart (hd := h) (body := 0x33 :: p)
  | countersRead h p => exact requestAs_apart (hd := h) (body := 0x40 :: p)
  | nodeReset h p => exact requestAs_apart (hd := h) (body := 0x50 :: p)
  | helloTimerExpiry => exact .ite (.next (.of_eq rfl rfl)) (.next (.refl s))
  | deadTimerExpiry => exact .ite (.take leaveUp_apart) (.next (.refl s))
  | deadlineExpiry => exact .take deadlineExpired_apart
  | probeDwellExpiry => exact .take probeDwellExpired_apart
  | probeWindowExpiry => exact .next probeWindowExpired_apart
  | stepDwellExpiry => exact .take stepDwellExpired_apart
  | auditTimerExpiry => exact .take auditExpired_apart
  | settlePeriodEnd => exact .ite (.next (.after arbitrate_apart (.of_eq rfl rfl))) (.next (.refl s))
  | turnaroundEnd => exact execTurnaroundEnd_apart
  | elementAnswer => exact execElementAnswer_apart
  | responseTimeout => exact execResponseTimeout_apart
  | transmissionEnd => exact execTransmissionEnd_apart

end

/-- Settles O42: no operation of a step breaks R137 by itself. A step begins where no audit runs (`handGet_apart`), a
pass begins where no step is in progress (`judgeAudit_apart`), and nothing else raises either indication. -/
theorem everyStepKeepsAuditAndStepApart : Obligations.EveryStepKeepsAuditAndStepApart := by
  intro s t hapart hstep
  unfold step at hstep
  split at hstep
  · cases hstep
    exact hapart
  · exact exec_apart _ t hstep hapart

end Sys2Proof.Machine
end

section
/-! SUPPORT. The egress of a port (R169): what the start of the next frame and a hand-over make of it, by link state,
kind and room; and that they keep its queues within capacity and its line busy while a frame waits. -/
namespace Sys2Proof.Machine

section
variable {x : Port} {f g : Frame} {r : List Frame}

/-! ## The next frame -/

theorem Port.startNext_of_busy (hl : x.line = some g) : x.startNext = x := by
  obtain ⟨link, nb, acq, ht, dt, u, b, line, k⟩ := x
  obtain rfl : line = some g := hl
  rfl

theorem Port.startNext_urgent (hl : x.line = none) (hu : x.urgent = f :: r) :
    x.startNext = { x with line := some f, urgent := r } := by simp only [Port.startNext, hl, hu]

theorem Port.startNext_bulk (hl : x.line = none) (hu : x.urgent = []) (hb : x.bulk = f :: r) :
    x.startNext = { x with line := some f, bulk := r } := by simp only [Port.startNext, hl, hu, hb]

/-! ## The hand-over -/

/-- R169: an UP port takes any frame, a port in ACQUIRE a HELLO. -/
theorem Port.takes_iff {k : FrameKind} : x.takes k = true ↔ x.link = .up ∨ (x.link = .acquire ∧ k = .hello) := by
  unfold Port.takes
  split <;> simp_all

/-- R169: the management kinds go to BULK. -/
theorem FrameKind.urgent_iff {k : FrameKind} :
    k.urgent = true ↔ ¬(k = .mgmtRequest ∨ k = .mgmtResponse ∨ k = .event) := by
  cases k <;> simp [FrameKind.urgent]

theorem Port.hand_barred (ht : ¬x.takes f.kind = true) :
    x.hand f = { x with counters := { x.counters with notUp := bump x.counters.notUp } } := by
  simp [Port.hand, ht]

theorem Port.hand_urgent (ht : x.takes f.kind = true) (hk : f.kind.urgent = true) (hr : x.urgent.length < 16) :
    x.hand f = Port.startNext { x with urgent := x.urgent ++ [f] } := by
  simp [Port.hand, ht, hk, Config.urgentCapacity, hr]

theorem Port.hand_bulk (ht : x.takes f.kind = true) (hk : ¬f.kind.urgent = true) (hr : x.bulk.length < 32) :
    x.hand f = Port.startNext { x with bulk := x.bulk ++ [f] } := by
  simp [Port.hand, ht, hk, Config.bulkCapacity, hr]

theorem Port.hand_urgent_full (ht : x.takes f.kind = true) (hk : f.kind.urgent = true) (hr : 16 ≤ x.urgent.length) :
    x.hand f = { x with counters := { x.counters with drop := bump x.counters.drop } } := by
  simp [Port.hand, ht, hk, Config.urgentCapacity, Nat.not_lt.2 hr]

theorem Port.hand_bulk_full (ht : x.takes f.kind = true) (hk : ¬f.kind.urgent = true) (hr : 32 ≤ x.bulk.length) :
    x.hand f = { x with counters := { x.counters with drop := bump x.counters.drop } } := by
  simp [Port.hand, ht, hk, Config.bulkCapacity, Nat.not_lt.2 hr]

/-! ## The law of one port -/

/-- R169: the port's queues are within their capacities, and its line stands idle only while both are empty. -/
def Port.QueuesFit (x : Port) : Prop :=
  x.urgent.length ≤ 16 ∧ x.bulk.length ≤ 32 ∧ (x.line = none → x.urgent = [] ∧ x.bulk = [])

theorem queuesSound_iff (s : State) : QueuesSound s ↔ ∀ p, (s.port p).QueuesFit := .rfl

theorem Port.QueuesFit.empty (hu : x.urgent = []) (hb : x.bulk = []) : x.QueuesFit := by
  simp [Port.QueuesFit, hu, hb]

/-- R169: within capacity, the start of the next frame leaves no line idle with a frame waiting. -/
theorem Port.startNext_fits (hu : x.urgent.length ≤ 16) (hb : x.bulk.length ≤ 32) : x.startNext.QueuesFit := by
  unfold Port.startNext
  split
  · rename_i hur
    rw [hur, List.length_cons] at hu
    exact ⟨Nat.le_of_succ_le hu, hb, nofun⟩
  · rename_i hbu
    rw [hbu, List.length_cons] at hb
    exact ⟨hu, Nat.le_of_succ_le hb, nofun⟩
  · rename_i hurgent hbulk
    refine ⟨hu, hb, fun hl => ?_⟩
    cases hur : x.urgent with
    | cons f r => exact absurd hur (hurgent f r hl)
    | nil =>
      cases hbu : x.bulk with
      | cons f r => exact absurd hbu (hbulk f r hl hur)
      | nil => exact ⟨rfl, rfl⟩

theorem Port.QueuesFit.hand (h : x.QueuesFit) (f : Frame) : (x.hand f).QueuesFit := by
  by_cases ht : x.takes f.kind = true
  · by_cases hk : f.kind.urgent = true
    · rcases Nat.lt_or_ge x.urgent.length 16 with hr | hr
      · rw [Port.hand_urgent ht hk hr]
        exact Port.startNext_fits (by simpa using hr) h.2.1
      · rw [Port.hand_urgent_full ht hk hr]
        exact h
    · rcases Nat.lt_or_ge x.bulk.length 32 with hr | hr
      · rw [Port.hand_bulk ht hk hr]
        exact Port.startNext_fits h.1 (by simpa using hr)
      · rw [Port.hand_bulk_full ht hk hr]
        exact h
  · rw [Port.hand_barred ht]
    exact h

end

end Sys2Proof.Machine
end

section
/-! CERTIFICATE. The hand-over of a frame to a port (O9). -/
namespace Sys2Proof.Machine

/-- Settles O9: the hand-over by whether the port takes the frame, by the frame's queue and by its room. -/
theorem frameHandOver : Obligations.FrameHandOver := by
  intro x f management ready
  have taken (h : ready) : x.takes f.kind = true := Port.takes_iff.2 h
  have toUrgent (h : ¬management) : f.kind.urgent = true := FrameKind.urgent_iff.2 h
  have toBulk (h : management) : ¬f.kind.urgent = true := fun hk => FrameKind.urgent_iff.1 hk h
  refine ⟨fun h => Port.hand_barred fun ht => h (Port.takes_iff.1 ht),
    fun h hm hr => Port.hand_urgent_full (taken h) (toUrgent hm) hr,
    fun h hm hr => Port.hand_bulk_full (taken h) (toBulk hm) hr, fun h hm hr g hl => ?_, fun h hm hr g hl => ?_,
    fun h hm hl hu => ?_, fun h hm hl hu hb => ?_⟩
  · exact (Port.hand_urgent (taken h) (toUrgent hm) hr).trans (Port.startNext_of_busy hl)
  · exact (Port.hand_bulk (taken h) (toBulk hm) hr).trans (Port.startNext_of_busy hl)
  · have alone : x.urgent ++ [f] = f :: x.urgent := by rw [hu]; rfl
    exact (Port.hand_urgent (taken h) (toUrgent hm) (by simp [hu])).trans (Port.startNext_urgent hl alone)
  · have alone : x.bulk ++ [f] = f :: x.bulk := by rw [hb]; rfl
    exact (Port.hand_bulk (taken h) (toBulk hm) (by simp [hb])).trans (Port.startNext_bulk hl hu alone)

end Sys2Proof.Machine
end

section
/-! SUPPORT. The operations of a take that send nothing: they leave every port as it was, in the order of the model's
files. -/
namespace Sys2Proof.Machine

section
variable (s : State) (f h i : Nat) (c : Context)

/-! ## Places in the ramp, changes of state, freeing -/

@[simp] theorem judgeAudit_ports : (judgeAudit f s).ports = s.ports := by rw [judgeAudit_frame]

@[simp] theorem clearStep_ports : (clearStep f s).ports = s.ports := by rw [clearStep_frame]

@[simp] theorem leaveRamp_ports : (leaveRamp h c s).ports = s.ports := (leaveRamp_keeps h c s).2.2.1

@[simp] theorem changeState_ports (st : CtxState) : (changeState h c st s).ports = s.ports :=
  (liveChange_dirOnly ..).ports

@[simp] theorem markModified_ports (first count : Nat) : (markModified h f first count s).ports = s.ports :=
  (markModified_dirOnly ..).ports

@[simp] theorem stepWalk_ports (first count : Nat) : (stepWalk f first count s).2.ports = s.ports :=
  (stepWalk_dirOnly ..).ports

/-! ## The element bus -/

@[simp] theorem handOver_ports (cl : BusClass) (e : Option Nat) (t : Txn) (d : Bool) (first count : Nat) (tag : Tag) :
    (handOver cl e t d first count tag s).ports = s.ports := by rw [handOver_frame]

@[simp] theorem askWss_ports (cl : BusClass) (t : Txn) (d : Bool) (p : Purpose) :
    (askWss cl t d p h c s).ports = s.ports := handOver_ports ..

@[simp] theorem askMonitor_ports (cl : BusClass) (p : Purpose) : (askMonitor cl p h c s).ports = s.ports :=
  handOver_ports ..

@[simp] theorem askSafety_ports : (askSafety h c s).ports = s.ports := askWss_ports ..

@[simp] theorem arbitrate_ports : (arbitrate s).ports = s.ports := by
  unfold arbitrate
  split <;> rfl

/-! ## The probe phase -/

@[simp] theorem pumpProbe_ports : (pumpProbe h s).ports = s.ports := by
  unfold pumpProbe
  split
  · rfl
  split
  · rfl
  split
  · simp
  · split_ifs <;> simp

@[simp] theorem takeLevel_ports (k : Nat) : (takeLevel h k s).ports = s.ports := pumpProbe_ports ..

@[simp] theorem setClosing_ports (g : Closing → Option Closing) : (setClosing h i g s).ports = s.ports := rfl

@[simp] theorem pumpClosing_ports : (pumpClosing h i s).ports = s.ports := by
  unfold pumpClosing
  split
  · rfl
  · split_ifs <;> simp

@[simp] theorem closeMaint_ports : (closeMaint h c s).ports = s.ports :=
  (pumpClosing_ports ..).trans (freeRecord_ports ..)

@[simp] theorem joinRamp_ports : (joinRamp h c s).ports = s.ports := rfl

@[simp] theorem armHead_ports : (armHead h c s).ports = s.ports := by simp [armHead]

/-! ## The ramp -/

@[simp] theorem startDwell_ports : (startDwell h c s).ports = s.ports := clearStep_ports ..

@[simp] theorem handGet_ports : (handGet f h c s).ports = s.ports := askMonitor_ports ..

@[simp] theorem startStep_ports : (startStep h c s).ports = s.ports := by
  unfold startStep
  dsimp only
  split_ifs <;> simp

@[simp] theorem withdrawStep_ports : (withdrawStep h c s).ports = s.ports := by
  unfold withdrawStep
  split
  · simp
  · split_ifs <;> simp

@[simp] theorem grant_ports (e : QEntry) : (grant f e c s).ports = s.ports := by
  unfold grant
  dsimp only
  split <;> simp

@[simp] theorem judgeGrant_ports : (judgeGrant f s).ports = s.ports := by
  unfold judgeGrant
  split
  · split
    · split_ifs <;> simp
    · rfl
  · rfl

@[simp] theorem takeSetting_ports (a : Atten) : (takeSetting h c a s).ports = s.ports := by simp [takeSetting]

@[simp] theorem takeSafetyResult_ports (r : Result) : (takeSafetyResult h i r s).ports = s.ports := by
  unfold takeSafetyResult
  split
  · rfl
  · split_ifs <;> rfl

/-! ## The audit -/

@[simp] theorem finishEntry_ports : (finishEntry f s).ports = s.ports := rfl

@[simp] theorem endPass_ports : (endPass f s).ports = s.ports := by
  unfold endPass
  dsimp only
  split_ifs
  · split
    · rfl
    · split <;> simp
  · rfl

@[simp] theorem measure_ports : (measure f s).ports = s.ports := by
  unfold measure
  dsimp only
  split_ifs
  · rfl
  · split
    · simp
    · split
      · simp
      · split_ifs <;> simp

@[simp] theorem takeAuditReading_ports (p : Int) : (takeAuditReading f h c p s).ports = s.ports := by
  unfold takeAuditReading
  dsimp only
  split_ifs <;> simp

@[simp] theorem takeAuditGet_ports (r : Result) : (takeAuditGet f h i r s).ports = s.ports := by
  unfold takeAuditGet
  split
  · rfl
  · split_ifs
    · rfl
    · split <;> simp

@[simp] theorem takeAuditSet_ports (a : Nat) (r : Result) : (takeAuditSet f h i a r s).ports = s.ports := by
  unfold takeAuditSet
  split
  · rfl
  · split_ifs <;> simp

/-! ## Admission, and the expiries of step dwells and audit timers -/

@[simp] theorem admission_ports (role : Role) (ing eg index : Nat) (b : SetupBody) :
    (admission role ing eg index b s).2.ports = s.ports := by
  have judged : (judgeSpan ing eg b.first b.count b.cls s).2.ports = s.ports := (judgeSpan_dirOnly ..).ports
  unfold admission
  dsimp only
  split
  · exact judged
  · exact judged
  · exact judged
  · exact judged
  · exact (reserveSpan_dirOnly ..).ports.trans judged

@[simp] theorem stepDwellExpired_ports : (stepDwellExpired h i s).ports = s.ports := by
  unfold stepDwellExpired
  split
  · rfl
  · split_ifs
    · dsimp only
      split <;> simp
    · rfl

@[simp] theorem auditExpired_ports : (auditExpired f s).ports = s.ports := by
  unfold auditExpired
  dsimp only
  split_ifs <;> simp

end

end Sys2Proof.Machine
end

section
/-! SUPPORT. The operations of a take that send: each keeps the egress queues sound (R169), in the order of the model's
files. -/
namespace Sys2Proof.Machine

/-! ## States whose queues are as sound as those before -/

/-- R169: where every queue of `s` is sound, every queue of `t` is. -/
def KeepsQueues (s t : State) : Prop := QueuesSound s → QueuesSound t

section
variable {s t u : State}

theorem KeepsQueues.of_eq (h : t.ports = s.ports) : KeepsQueues s t := fun hs p => by
  rw [State.port, h]
  exact hs p

theorem KeepsQueues.refl (s : State) : KeepsQueues s s := id

/-- Of two operations in a row, named from the last one back. -/
theorem KeepsQueues.after (k : KeepsQueues t u) (h : KeepsQueues s t) : KeepsQueues s u := k ∘ h

theorem KeepsQueues.ite {p : Prop} [Decidable p] (ht : KeepsQueues s t) (hu : KeepsQueues s u) :
    KeepsQueues s (if p then t else u) := by split_ifs <;> assumption

theorem KeepsQueues.foldl {α : Type} {g : State → α → State} (hg : ∀ s a, KeepsQueues s (g s a)) {l : List α} :
    KeepsQueues s (l.foldl g s) := fun h => foldl_keeps (P := QueuesSound) (fun t a _ ht => hg t a ht) h

/-- A change of one port that keeps the law of a port. -/
theorem KeepsQueues.modPort {p : Nat} {g : Port → Port} (hg : ∀ x : Port, x.QueuesFit → (g x).QueuesFit) :
    KeepsQueues s (s.modPort p g) := fun hs => (queuesSound_iff _).2 fun j => by
  rw [State.modPort_port]
  split_ifs
  · exact hg _ ((queuesSound_iff s).1 hs p)
  · exact (queuesSound_iff s).1 hs j

/-- A change of one port that leaves queues and line. -/
theorem KeepsQueues.beside {p : Nat} {g : Port → Port}
    (hu : ∀ x, (g x).urgent = x.urgent := by exact fun _ => rfl)
    (hb : ∀ x, (g x).bulk = x.bulk := by exact fun _ => rfl)
    (hl : ∀ x, (g x).line = x.line := by exact fun _ => rfl) : KeepsQueues s (s.modPort p g) :=
  .modPort fun x hx => by
    rw [Port.QueuesFit, hu, hb, hl]
    exact hx

end

section
variable {s : State} {f h i k : Nat} {c : Context}

/-! ## Sending -/

theorem handFrame_queues {p : Nat} {x : Frame} : KeepsQueues s (handFrame p x s) := .modPort fun _ hx => hx.hand x

theorem sendOn_queues {p : Option Nat} {k : FrameKind} {b : List Byte} : KeepsQueues s (sendOn p k b s) := by
  cases p
  exacts [.refl s, handFrame_queues]

theorem relay_queues {p : Option Nat} {k : FrameKind} {hd : Hdr} {b : List Byte} :
    KeepsQueues s (relay p k hd b s) := by
  cases p
  exacts [.refl s, handFrame_queues]

theorem routeFrame_queues {x : Frame} : KeepsQueues s (routeFrame x s) := by
  unfold routeFrame
  split
  exacts [handFrame_queues, .of_eq rfl]

theorem event_queues {b : List Byte} : KeepsQueues s (event b s) :=
  .ite (.refl s) (.ite handFrame_queues routeFrame_queues)

theorem sendTold_queues : KeepsQueues s (sendTold s) := .after (.foldl fun _ _ => event_queues) (.of_eq rfl)

theorem respondTo_queues {p src : Nat} {tag : Byte} {b : List Byte} : KeepsQueues s (respondTo p src tag b s) :=
  handFrame_queues

theorem respond_queues {hd : Hdr} {code : Nat} {st : Status} {r : List Byte} :
    KeepsQueues s (respond hd code st r s) := handFrame_queues

/-- An operation that leaves the ports, and then the response to it. -/
theorem respond_queues_of_ports {t : State} {hd : Hdr} {code : Nat} {st : Status} {r : List Byte}
    (h : t.ports = s.ports) :
    KeepsQueues s (respond hd code st r t) := .after respond_queues (.of_eq h)

theorem forwardFrame_queues {p : Nat} {x : Frame} : KeepsQueues s (forwardFrame p x s) := .ite .beside routeFrame_queues

theorem malformed_queues {p : Nat} : KeepsQueues s (malformed p s) := .beside

theorem stray_queues : KeepsQueues s (stray s) := .of_eq rfl

/-! ## The element bus -/

theorem endTxn_queues {b : OnBus} {r : Result} : KeepsQueues s (endTxn b r s) := by
  have settling {t : State} {e : Nat} {x : Txn} : KeepsQueues t (startSettle e x t) := .ite (.of_eq rfl) (.refl t)
  have judged {t : State} {e : Nat} {good : Bool} : KeepsQueues t (healthStep e good t) :=
    .ite (.after (.of_eq rfl) (.after event_queues (.of_eq rfl))) (.of_eq rfl)
  exact .after settling (.after judged (.of_eq rfl))

/-! ## Faults -/

theorem sendTeardown_queues : KeepsQueues s (sendTeardown c s) := sendOn_queues

theorem enterFaulted_queues {cause : Cause} {origin : Nat} {d : Direction} {up down : Bool} :
    KeepsQueues s (enterFaulted h c cause origin d up down s) := by
  have sent {b : Bool} {p : Option Nat} {travel : Direction} {t : State} (ht : KeepsQueues s t) :
      KeepsQueues s (if b then sendFault p travel c cause origin t else t) := .ite (.after sendOn_queues ht) ht
  have told {e : List Byte} {t : State} (ht : KeepsQueues s t) :
      KeepsQueues s (if c.role = .head then tellEvent h e t else t) := .ite (.after (.of_eq rfl) ht) ht
  exact told (sent (sent (.of_eq (by simp))))

theorem endWithdrawal_queues : KeepsQueues s (endWithdrawal h c s) :=
  .after (.of_eq (freeRecord_ports ..)) (.after sendTeardown_queues (.of_eq (askWss_ports ..)))

theorem localFaultOn_queues {cause : Cause} {up down : Bool} : KeepsQueues s (localFaultOn h c cause up down s) :=
  .ite (.after (.of_eq rfl) enterFaulted_queues) (.ite (.after (.of_eq rfl) endWithdrawal_queues) (.refl s))

theorem localFault_queues {cause : Cause} : KeepsQueues s (localFault h c cause s) := localFaultOn_queues

theorem linkLossFault_queues {p : Nat} : KeepsQueues s (linkLossFault p h s) := by
  unfold linkLossFault
  split
  exacts [.refl s, .ite localFaultOn_queues (.refl s)]

theorem takeFault_queues {port id : Nat} {cause : Cause} {origin : Nat} {d : Direction} :
    KeepsQueues s (takeFault port id cause origin d s) := by
  unfold takeFault
  split
  · exact .of_eq rfl
  · exact .ite (.after (.of_eq rfl) enterFaulted_queues)
      (.ite (.after (.of_eq rfl) endWithdrawal_queues) (.of_eq rfl))

/-! ## The probe phase -/

theorem takeProbeResult_queues {a : Option Nat} {r : Result} : KeepsQueues s (takeProbeResult h i a r s) := by
  unfold takeProbeResult
  split
  · refine .ite (.ite (.after localFault_queues (.of_eq rfl)) (.of_eq ?_)) (.refl s)
    dsimp only
    split
    · rw [pumpProbe_ports]
      split <;> simp
    · split_ifs
      all_goals
        simp only [State.push_ports, pumpProbe_ports]
        split <;> simp
  · exact .of_eq (by simp)

theorem beginProbe_queues : KeepsQueues s (beginProbe h c s) := .after sendOn_queues (.of_eq (by simp))

theorem stepLadder_queues : KeepsQueues s (stepLadder h c s) :=
  .ite (.after sendOn_queues (.of_eq (by simp))) localFault_queues

theorem takeProbe_queues {hd : Hdr} {body : List Byte} : KeepsQueues s (takeProbe hd body h c k s) := by
  have taken : KeepsQueues s (takeLevel h k (if c.st = .reserved then changeState h c .probing s else s)) :=
    .after (.of_eq (takeLevel_ports ..)) (.ite (.of_eq (changeState_ports ..)) (.refl s))
  exact .ite (.ite (.after relay_queues taken) taken) (.after (.of_eq rfl) taken)

theorem answerArmed_queues {hd : Hdr} {body : List Byte} : KeepsQueues s (answerArmed hd body h c k s) := by
  have taken : KeepsQueues s (if c.probeLevel < k then takeLevel h k s else s) :=
    .ite (.of_eq (takeLevel_ports ..)) (.refl s)
  unfold answerArmed
  dsimp only
  split
  exacts [.after relay_queues taken, .after sendOn_queues taken, taken]

theorem validate_queues : KeepsQueues s (validate h c s) := by
  unfold validate
  dsimp only
  split
  · exact .after (.of_eq (closeMaint_ports ..)) (.after sendOn_queues (.of_eq rfl))
  · exact .after (.of_eq (changeState_ports ..)) (.after sendOn_queues (.of_eq rfl))
  · exact .after sendOn_queues (.of_eq rfl)

theorem takeBurst_queues {g code : Nat} : KeepsQueues s (takeBurst g code s) := by
  unfold takeBurst
  dsimp only
  split
  · exact .of_eq rfl
  · exact .ite (.ite validate_queues (.of_eq rfl)) (.ite (.after localFault_queues (.of_eq rfl)) (.of_eq rfl))

/-! ## The ramp -/

theorem settle_queues : KeepsQueues s (settle h c s) := by
  have left : KeepsQueues s (leaveRamp h c (changeState h c .settled s)) := .of_eq (by simp)
  unfold settle
  dsimp only
  split
  · exact .ite left (.after sendOn_queues left)
  · exact .after sendOn_queues (.after (.of_eq rfl) left)
  · exact .after (.of_eq (changeState_ports ..)) (.after sendOn_queues (.after (.of_eq rfl) left))

theorem takeReading_queues {p : Int} : KeepsQueues s (takeReading h c p s) := by
  unfold takeReading
  dsimp only
  split
  exacts [.after localFault_queues (.of_eq rfl), .after settle_queues (.of_eq rfl), .of_eq (startDwell_ports ..),
    .of_eq (askWss_ports ..)]

theorem finishWithdrawal_queues : KeepsQueues s (finishWithdrawal h c s) :=
  .after (.of_eq (freeRecord_ports ..)) (.after sendTeardown_queues (.of_eq (by simp)))

theorem takeRampResult_queues {p : Purpose} {r : Result} : KeepsQueues s (takeRampResult h i p r s) := by
  unfold takeRampResult
  split
  · exact .refl s
  split
  · split
    exacts [takeReading_queues, localFault_queues]
  · exact localFault_queues
  · exact .of_eq (takeSetting_ports ..)
  · exact localFault_queues
  · exact .of_eq (takeSetting_ports ..)
  · exact localFault_queues
  · exact finishWithdrawal_queues
  · exact .refl s

/-! ## The whole of a take -/

theorem answerRead_queues {port src : Nat} {tag : Byte} {r : Result} : KeepsQueues s (answerRead port src tag r s) := by
  unfold answerRead
  dsimp only
  split <;> exact respondTo_queues

theorem takeResult_queues {t : Tag} {r : Result} : KeepsQueues s (takeResult t r s) := by
  unfold takeResult
  split
  · exact answerRead_queues
  rename_i h i p
  cases p with
  | level | ditherStart | ditherStop | closing => exact takeProbeResult_queues
  | rampGet | rampSet | withdrawSet | withdrawBlock => exact takeRampResult_queues
  | safety => exact .of_eq (takeSafetyResult_ports ..)
  | auditGet => exact .of_eq (takeAuditGet_ports ..)
  | auditSet => exact .of_eq (takeAuditSet_ports ..)

theorem doWork_queues {w : Work} : KeepsQueues s (doWork w s) := by
  cases w with
  | result => exact takeResult_queues
  | judgeGrant => exact .of_eq (judgeGrant_ports ..)
  | measure => exact .of_eq (measure_ports ..)

theorem runWork_queues {n : Nat} : KeepsQueues s (runWork n s) := by
  induction n generalizing s with
  | zero => exact .refl s
  | succ n ih =>
    unfold runWork
    split
    exacts [.refl s, .after ih (.after doWork_queues (.of_eq rfl))]

theorem settleWork_queues : KeepsQueues s (settleWork s) := .after (.of_eq rfl) runWork_queues

theorem endTake_queues : KeepsQueues s (endTake s) :=
  .after (.of_eq (arbitrate_ports _)) (.after sendTold_queues settleWork_queues)

/-! ## Ports and reception -/

/-- R163: a port that leaves UP is left with empty queues. -/
theorem leaveUp_queues {p : Nat} {l : LinkState} {a : Option Acq} : KeepsQueues s (leaveUp p l a s) := by
  have lost {t : State} : KeepsQueues t (linkLoss p t) :=
    .after sendTold_queues (.after settleWork_queues (.foldl fun _ _ => linkLossFault_queues))
  have flushed : KeepsQueues s (s.modPort p fun x =>
      { x.flush with link := l, neighbour := none, acq := a, deadTimer := none,
                     helloTimer := if l = .down then none else x.helloTimer }) := .modPort fun _ _ => .empty rfl rfl
  exact .after event_queues (.ite (.after lost flushed) flushed)

theorem lineHello_queues {p n np : Nat} : KeepsQueues s (lineHello p n np s) := by
  have up {t : State} : KeepsQueues t (enterUp p n np t) := .after event_queues .beside
  unfold lineHello
  dsimp only
  split
  · exact .refl s
  · split
    exacts [.ite (.ite (.after up .beside) .beside) .beside, .beside]
  · exact .ite .beside leaveUp_queues

theorem takeHello_queues {p : Nat} {body : List Byte} : KeepsQueues s (takeHello p body s) := by
  refine .ite malformed_queues ?_
  split
  exacts [malformed_queues, .ite malformed_queues lineHello_queues]

theorem receive_queues {p : Nat} {b : Bool} {k : State → State} (hk : ∀ t, KeepsQueues t (k t)) :
    KeepsQueues s (receive p b k s) :=
  .ite (.after .beside .beside) (.after (hk _) .beside)

theorem commissioning_queues {α : Type} {hd : Hdr} {x : Option α} {k : α → State → State}
    (hk : ∀ y t, KeepsQueues t (k y t)) : KeepsQueues s (receive hd.port false (commissioning hd x k) s) := by
  refine receive_queues fun t => ?_
  unfold commissioning
  split
  exacts [malformed_queues, .ite stray_queues (hk _ _)]

theorem onMgmt_queues {hd : Hdr} {k : FrameKind} {body : List Byte} {own adj : State → State}
    (hown : ∀ t, KeepsQueues t (own t)) (hadj : ∀ t, KeepsQueues t (adj t)) :
    KeepsQueues s (onMgmt hd k body own adj s) :=
  receive_queues fun t => .ite (hown t) (.ite (hadj t) (.ite malformed_queues forwardFrame_queues))

theorem onRequest_queues {α : Type} {hd : Hdr} {code : Nat} {rest : List Byte} {x : Option α}
    {k : α → State → State} (hk : ∀ y t, KeepsQueues t (k y t)) : KeepsQueues s (onRequest hd code rest x k s) := by
  cases x with
  | none => exact onMgmt_queues (fun _ => respond_queues) fun _ => respond_queues
  | some y => exact onMgmt_queues (hk y) (hk y)

theorem onReply_queues {hd : Hdr} {k : FrameKind} {body : List Byte} : KeepsQueues s (onReply hd k body s) :=
  onMgmt_queues (fun _ => handFrame_queues) fun _ => malformed_queues

end

end Sys2Proof.Machine
end

section
/-! SUPPORT. Egress queues kept sound (R169) by commissioning frames, timers, requests and resets. -/
namespace Sys2Proof.Machine

section
variable {s : State} {i n : Nat} {c : Context}

/-- R55: an admission sends nothing, whichever way it ends. -/
theorem admission_queues {role : Role} {ing eg index : Nat} {b : SetupBody} {a : Admission} {t : State}
    (h : admission role ing eg index b s = (a, t)) : KeepsQueues s t :=
  .of_eq ((congrArg (fun x => x.2.ports) h).symm.trans (admission_ports ..))

/-! ## Commissioning frames -/

section
variable {hd : Hdr} {body : List Byte}

theorem takeSetup_queues {b : SetupBody} : KeepsQueues s (takeSetup hd b s) := by
  have refused {t : State} {r : Reason} : KeepsQueues t (refuseSetup hd b.id r t) :=
    .after handFrame_queues (.of_eq rfl)
  unfold takeSetup
  split
  · exact malformed_queues
  split
  · exact refused
  · split <;> rename_i heq
    · exact .after refused (admission_queues heq)
    · split
      · exact .after sendOn_queues (admission_queues heq)
      · exact .after relay_queues (admission_queues heq)

theorem takeSetupAck_queues {id : Nat} : KeepsQueues s (takeSetupAck hd body id s) := by
  unfold takeSetupAck
  split
  · exact stray_queues
  refine .ite ?_ stray_queues
  dsimp only
  split
  exacts [.after beginProbe_queues (.of_eq rfl), .after relay_queues (.of_eq rfl), stray_queues]

theorem takeSetupReject_queues {x : Nat × Reason × Nat} : KeepsQueues s (takeSetupReject hd body x s) := by
  unfold takeSetupReject
  split
  · exact stray_queues
  refine .ite ?_ stray_queues
  split
  exacts [.of_eq (freeRecord_ports ..), .after relay_queues (.of_eq (freeRecord_ports ..)), stray_queues]

theorem takeProbeFrame_queues {x : Nat × Nat} : KeepsQueues s (takeProbeFrame hd body x s) := by
  unfold takeProbeFrame
  split
  · exact stray_queues
  refine .ite ?_ stray_queues
  split
  exacts [takeProbe_queues, takeProbe_queues, answerArmed_queues, stray_queues]

theorem takeProbeAck_queues {x : Nat × Nat × Bool} : KeepsQueues s (takeProbeAck hd body x s) := by
  unfold takeProbeAck
  split
  · exact stray_queues
  refine .ite ?_ stray_queues
  split
  · exact .of_eq (closeMaint_ports ..)
  · exact .of_eq (armHead_ports ..)
  · exact .ite (.after relay_queues (.of_eq (closeMaint_ports ..))) stray_queues
  · exact .ite (.after relay_queues (.of_eq (changeState_ports ..))) stray_queues
  · exact stray_queues
  · exact relay_queues
  · exact stray_queues

theorem takeProbeNak_queues {x : Nat × Nat × Nat} : KeepsQueues s (takeProbeNak hd body x s) := by
  unfold takeProbeNak
  split
  · exact stray_queues
  refine .ite ?_ stray_queues
  split
  exacts [relay_queues, .ite stepLadder_queues stray_queues, stray_queues]

theorem takeAdvance_queues {x : Nat × List HopReport} : KeepsQueues s (takeAdvance hd x s) := by
  unfold takeAdvance
  split
  exacts [stray_queues, .ite (.of_eq rfl) stray_queues]

theorem takeReady_queues {x : Nat × List HopReport} : KeepsQueues s (takeReady hd body x s) := by
  unfold takeReady
  split
  · exact stray_queues
  refine .ite ?_ stray_queues
  split
  exacts [.after relay_queues (.of_eq (changeState_ports ..)), .of_eq (changeState_ports ..), stray_queues]

theorem takeTeardown_queues {b : TeardownBody} : KeepsQueues s (takeTeardown hd b s) := by
  have passed {t : State} {e : Hop} {x : Option Nat} : KeepsQueues t (passTeardown hd b e x t) := by
    unfold passTeardown
    split_ifs
    · split
      exacts [stray_queues, relay_queues]
    · split
      exacts [event_queues, .of_eq rfl]
  have freed {m : Nat} {d : Context} : KeepsQueues s (teardownRecord m d s) :=
    .of_eq ((freeRecord_ports ..).trans (askWss_ports ..))
  unfold takeTeardown
  split
  · exact malformed_queues
  refine .ite stray_queues ?_
  split
  exacts [passed, .ite stray_queues (.after passed freed)]

end

/-! ## Timers -/

theorem probeDwellExpired_queues : KeepsQueues s (probeDwellExpired n i s) := by
  unfold probeDwellExpired
  split
  exacts [.refl s, .ite stepLadder_queues (.refl s)]

theorem probeWindowExpired_queues : KeepsQueues s (probeWindowExpired n i s) := by
  unfold probeWindowExpired
  split
  exacts [.refl s, .ite (.after sendOn_queues (.of_eq rfl)) (.refl s)]

theorem deadlineExpired_queues : KeepsQueues s (deadlineExpired n i s) := by
  unfold deadlineExpired
  split
  · exact .refl s
  refine .ite ?_ (.refl s)
  split
  exacts [localFault_queues, localFault_queues, localFault_queues, localFault_queues, .of_eq (freeRecord_ports ..),
    .refl s]

/-! ## Requests -/

section
variable {hd : Hdr}

theorem writeFace_queues {x : (Nat × Nat) × FaceWrite} : KeepsQueues s (writeFace hd x s) :=
  .ite respond_queues (.ite respond_queues (.ite respond_queues (respond_queues_of_ports rfl)))

theorem writeBlock_queues {x : (Nat × Nat) × BlockWrite} : KeepsQueues s (writeBlock hd x s) :=
  .ite respond_queues (.ite respond_queues (.ite respond_queues
    (.after respond_queues (.ite (.of_eq (clearPage_dirOnly ..).ports) (.of_eq rfl)))))

theorem writeSlot_queues {x : (Nat × Nat) × Nat} : KeepsQueues s (writeSlot hd x s) := by
  have written {f n : Nat} {a k : EntryKind} : (writeLive f a k (setKind f n k s)).ports = s.ports :=
    (liveChange_dirOnly ..).ports.trans (setKind_dirOnly ..).ports
  unfold writeSlot
  refine .ite respond_queues ?_
  split
  · exact respond_queues
  split
  · exact respond_queues
  split
  exacts [respond_queues, respond_queues, respond_queues_of_ports written]

theorem writeSettings_queues {x : (Nat × Nat) × SettingsWrite} : KeepsQueues s (writeSettings hd x s) := by
  have retimed {f old new : Nat} {t : State} : KeepsQueues t (retimeAudit f old new t) :=
    .ite (.refl t) (.ite (.of_eq rfl) (.of_eq rfl))
  exact .ite respond_queues (.ite respond_queues (.ite respond_queues
    (.after respond_queues (.after retimed (.of_eq rfl)))))

theorem writeProfile_queues {x : (Nat × Nat) × Profile} : KeepsQueues s (writeProfile hd x s) :=
  .ite respond_queues (.ite respond_queues (.ite respond_queues (respond_queues_of_ports rfl)))

theorem writeElement_queues {x : (Nat × Nat) × ElementWrite} : KeepsQueues s (writeElement hd x s) := by
  refine .ite respond_queues ?_
  split
  exacts [respond_queues, .ite respond_queues (respond_queues_of_ports rfl)]

theorem writeRoute_queues {x : (Nat × Nat) × Route} : KeepsQueues s (writeRoute hd x s) :=
  .ite respond_queues (.ite respond_queues (respond_queues_of_ports rfl))

theorem writeNode_queues {x : (Nat × Nat) × NodeWrite} : KeepsQueues s (writeNode hd x s) :=
  .ite respond_queues (.ite respond_queues (respond_queues_of_ports rfl))

theorem flagsClear_queues {x : Nat × Nat} : KeepsQueues s (flagsClear hd x s) :=
  .ite respond_queues (.ite (respond_queues_of_ports (foldl_clearBlockFlags_dirOnly ..).ports)
    (respond_queues_of_ports (clearBlockFlags_dirOnly ..).ports))

theorem commission_queues {b : SetupBody} : KeepsQueues s (commission hd b s) := by
  have refused {t : State} {r : Reason} : KeepsQueues t (refuseCommission hd r t) := respond_queues_of_ports rfl
  unfold commission
  refine .ite respond_queues ?_
  split
  · exact refused
  refine .ite refused ?_
  split <;> rename_i heq
  · exact .after refused (admission_queues heq)
  · exact .after sendOn_queues (.after respond_queues (admission_queues heq))

theorem withdraw_queues {id : Nat} : KeepsQueues s (withdraw hd id s) := by
  unfold withdraw
  split
  · exact respond_queues
  refine .ite respond_queues ?_
  split
  · exact .ite respond_queues (respond_queues_of_ports (changeState_ports ..))
  · exact respond_queues
  · exact .after (respond_queues_of_ports (freeRecord_ports ..))
      (.after sendTeardown_queues (.of_eq (askSafety_ports ..)))

theorem adopt_queues {b : AdoptBody} : KeepsQueues s (adopt hd b s) := by
  have judged : (judgeSpan b.ingress b.egress b.first b.count b.cls s).2.ports = s.ports := (judgeSpan_dirOnly ..).ports
  unfold adopt
  split
  · exact respond_queues
  dsimp only
  split
  · exact respond_queues_of_ports judged
  · exact respond_queues_of_ports judged
  · exact .ite (.after respondTo_queues (.of_eq judged))
      (respond_queues_of_ports ((reserveSpan_dirOnly ..).ports.trans judged))

theorem contextRead_queues {id : Nat} : KeepsQueues s (contextRead hd id s) := by
  unfold contextRead
  split <;> exact respond_queues

theorem contextDiscard_queues {id : Nat} : KeepsQueues s (contextDiscard hd id s) := by
  unfold contextDiscard
  split
  · exact respond_queues
  split
  exacts [respond_queues_of_ports (freeRecord_ports ..), respond_queues_of_ports (freeRecord_ports ..), respond_queues]

theorem elementRead_queues {x : Nat × Nat × Nat} : KeepsQueues s (elementRead hd x s) := by
  unfold elementRead
  split
  exacts [respond_queues, .of_eq (by cases s; rfl)]

/-! ## The resets -/

theorem clearCounters_queues : KeepsQueues s (clearCounters s) := by
  have zeroed : KeepsQueues s
      ((List.range 9).foldl (fun s p => s.modPort p fun x => { x with counters := PortCounters.zero }) s) :=
    .foldl fun _ _ => .beside
  refine .after (.of_eq ?_) zeroed
  rw [clearCounters_eq, foldl_modPort]

theorem countersRead_queues {clear : Bool} : KeepsQueues s (countersRead hd clear s) :=
  .after respond_queues (.ite clearCounters_queues (.refl s))

end

/-- R183: an abort sends its FAULT frames. -/
theorem abortContext_queues : KeepsQueues s (abortContext s n) := by
  unfold abortContext
  split
  · exact .refl s
  · exact .ite (.after (.of_eq ((freeRecord_ports ..).trans (askSafety_ports ..)))
      (.after sendOn_queues sendOn_queues)) (.refl s)

/-- R182: the queues are emptied, and then take the FAULT frames of the aborts. -/
theorem nodeResetSteps_queues : KeepsQueues s (nodeResetSteps s) := by
  have flushed : KeepsQueues s (flushPorts s) := .foldl fun _ _ => .modPort fun _ _ => .empty rfl rfl
  have bus {t : State} : KeepsQueues t (resetBus t) := .of_eq (by rw [resetBus, foldl_modElem])
  have before : KeepsQueues s (beforeAborts s) := by
    have cleared := clearCounters_queues.after (bus.after flushed)
    exact .after (.of_eq (by rw [beforeAborts])) cleared
  have aborts : KeepsQueues (beforeAborts s) (aborted s) := .foldl fun _ _ => abortContext_queues
  rw [nodeResetSteps_aborted, afterAborts_eq]
  exact .after (.of_eq rfl) (.after aborts before)

theorem localUp_queues : KeepsQueues s (localUp s) := .after event_queues .beside

theorem enterAcquire_queues {p : Nat} : KeepsQueues s (enterAcquire p s) :=
  .after .beside (.after handFrame_queues .beside)

/-- R160: every queue is empty after power-on, and then takes the frames of the ports that start. -/
theorem powerOn_queues {straps : Nat} : KeepsQueues s (powerOn straps s) := by
  have empty {t : State} (ht : t.ports = Tab.empty Port.initial) : KeepsQueues s t :=
    .after (.of_eq (s := State.reset) ht) fun _ => reset_queuesSound
  have lines {t : State} (ht : KeepsQueues s t) :
      KeepsQueues s ((List.range 8).foldl (fun t p => powerOnLine p t) t) :=
    .after (.foldl fun t _ => .ite enterAcquire_queues (.refl t)) ht
  unfold powerOn
  dsimp only
  split_ifs
  · exact .after localUp_queues (lines (empty rfl))
  · exact lines (empty rfl)

end

end Sys2Proof.Machine
end

section
/-! CERTIFICATE. Egress queues sound under every command and every step (O10). -/
namespace Sys2Proof.Machine

section
variable {s : State}

/-- Where the queues of `s` are sound, they are in what a command answers. -/
def AnswersQueues (s : State) (o : Host.Outcome State Fault Refusal) : Prop := ∀ t, o = .next t → KeepsQueues s t

theorem AnswersQueues.next {t : State} (h : KeepsQueues s t) : AnswersQueues s (.next t) :=
  fun _ e => by cases e; exact h

theorem AnswersQueues.take {t : State} (h : KeepsQueues s t) : AnswersQueues s (.next (endTake t)) :=
  .next (.after endTake_queues h)

theorem AnswersQueues.ite {p : Prop} [Decidable p] {a b : Host.Outcome State Fault Refusal} (ha : AnswersQueues s a)
    (hb : AnswersQueues s b) : AnswersQueues s (if p then a else b) := by split_ifs <;> assumption

/-- A commissioning frame taken to the end of its take. -/
theorem AnswersQueues.frame {α : Type} {hd : Hdr} {x : Option α} {k : α → State → State}
    (hk : ∀ y t, KeepsQueues t (k y t)) :
    AnswersQueues s (.next (endTake (receive hd.port false (commissioning hd x k) s))) :=
  .take (commissioning_queues hk)

/-- A request. -/
theorem AnswersQueues.request {α : Type} {hd : Hdr} {code : Nat} {rest : List Byte} {x : Option α}
    {k : α → State → State} (hk : ∀ y t, KeepsQueues t (k y t)) :
    AnswersQueues s (.next (onRequest hd code rest x k s)) := .next (onRequest_queues hk)

/-! ## Pins, lines, the element bus -/

theorem execSignalLost_queues {p : Fin 8} : AnswersQueues s (execSignalLost p s) := by
  unfold execSignalLost
  dsimp only
  split
  exacts [.next (.of_eq rfl), .next (.after .beside (.of_eq rfl)), .take (.after leaveUp_queues (.of_eq rfl))]

/-- R169: at the end of a frame its line starts the next. -/
theorem execTransmissionEnd_queues {p : Fin 9} : AnswersQueues s (execTransmissionEnd p s) := by
  unfold execTransmissionEnd
  split
  exacts [.next (.refl s), .next (.modPort fun _ hx => Port.startNext_fits hx.1 hx.2.1)]

theorem execTurnaroundEnd_queues : AnswersQueues s (execTurnaroundEnd s) := by
  unfold execTurnaroundEnd
  split
  · split
    exacts [.next (.of_eq rfl), .next (.refl s)]
  · exact .next (.refl s)

theorem execElementAnswer_queues {txn : Nat} {a : Answer} : AnswersQueues s (execElementAnswer txn a s) := by
  unfold execElementAnswer
  split
  · split
    exacts [.ite (.take endTxn_queues) (.next (.refl s)), .next (.refl s)]
  · exact .next (.refl s)

theorem execResponseTimeout_queues : AnswersQueues s (execResponseTimeout s) := by
  unfold execResponseTimeout
  split
  · split
    exacts [.ite (.take endTxn_queues) (.next (.refl s)), .next (.refl s)]
  · exact .next (.refl s)

/-! ## Frames and requests -/

section
variable {hd : Hdr} {body : List Byte}

/-- R173: a TABLE WRITE by its table code. -/
theorem tableWriteAs_queues : AnswersQueues s (tableWriteAs hd body s) := by
  unfold tableWriteAs
  split
  · exact .request fun _ t => .refl t
  split
  · exact .request fun _ _ => writeFace_queues
  · exact .request fun _ _ => writeBlock_queues
  · exact .request fun _ _ => writeSlot_queues
  · exact .request fun _ _ => writeSettings_queues
  · exact .request fun _ _ => writeProfile_queues
  · exact .request fun _ _ => writeElement_queues
  · exact .request fun _ _ => writeRoute_queues
  · exact .request fun _ _ => writeNode_queues
  · exact .request fun _ t => .refl t

/-- R172: a MGMT-REQUEST by its request code. -/
theorem requestAs_queues : AnswersQueues s (requestAs hd body s) := by
  unfold requestAs
  split
  · exact .next (onMgmt_queues (fun _ => respondTo_queues) fun _ => respondTo_queues)
  split
  · exact .request fun _ _ => respond_queues
  · exact tableWriteAs_queues
  · exact .request fun _ _ => flagsClear_queues
  · exact .request fun _ _ => commission_queues
  · exact .take (onRequest_queues fun _ _ => withdraw_queues)
  · exact .request fun _ _ => adopt_queues
  · exact .request fun _ _ => contextRead_queues
  · exact .request fun _ _ => .ite respond_queues respond_queues
  · exact .take (onRequest_queues fun _ _ => contextDiscard_queues)
  · exact .take (onRequest_queues fun _ _ => elementRead_queues)
  · exact .request fun _ _ => .ite respond_queues (respond_queues_of_ports rfl)
  · exact .request fun _ _ => respond_queues
  · exact .request fun _ _ => .ite respond_queues (respond_queues_of_ports rfl)
  · exact .request fun _ _ => .ite respond_queues (respond_queues_of_ports rfl)
  · exact .request fun _ _ => .ite respond_queues (respond_queues_of_ports rfl)
  · exact .request fun _ _ => countersRead_queues
  · exact .next (.after (.of_eq (arbitrate_ports _))
      (onRequest_queues fun _ _ => .after respond_queues nodeResetSteps_queues))
  · exact .request fun _ t => .refl t

theorem managementRequest_queues : AnswersQueues s (managementRequest hd body s) :=
  .ite requestAs_queues (.next (onMgmt_queues .refl .refl))

theorem execHello_queues : AnswersQueues s (execHello hd body s) := .take (receive_queues fun _ => takeHello_queues)

theorem execSetup_queues : AnswersQueues s (execSetup hd body s) :=
  .next (commissioning_queues fun _ _ => takeSetup_queues)

theorem execSetupAck_queues : AnswersQueues s (execSetupAck hd body s) := .frame fun _ _ => takeSetupAck_queues

theorem execSetupReject_queues : AnswersQueues s (execSetupReject hd body s) := .frame fun _ _ => takeSetupReject_queues

theorem execProbe_queues : AnswersQueues s (execProbe hd body s) := .frame fun _ _ => takeProbeFrame_queues

theorem execProbeAck_queues : AnswersQueues s (execProbeAck hd body s) := .frame fun _ _ => takeProbeAck_queues

theorem execProbeNak_queues : AnswersQueues s (execProbeNak hd body s) := .frame fun _ _ => takeProbeNak_queues

theorem execAdvance_queues : AnswersQueues s (execAdvance hd body s) := .frame fun _ _ => takeAdvance_queues

theorem execReady_queues : AnswersQueues s (execReady hd body s) := .frame fun _ _ => takeReady_queues

theorem execFault_queues : AnswersQueues s (execFault hd body s) := .frame fun _ _ => takeFault_queues

theorem execTeardown_queues : AnswersQueues s (execTeardown hd body s) := .frame fun _ _ => takeTeardown_queues

end

/-- R165, R166: a received byte sequence, as the command of its frame's kind. -/
theorem execRxFrameRejected_queues {p : Fin 9} {bytes : List Byte} :
    AnswersQueues s (execRxFrameRejected p bytes s) := by
  unfold execRxFrameRejected
  split
  · exact .next (.after .beside .beside)
  · exact .next (.after malformed_queues .beside)
  unfold frameAs
  dsimp only
  split
  · exact execHello_queues
  · exact execSetup_queues
  · exact execSetupAck_queues
  · exact execSetupReject_queues
  · exact execProbe_queues
  · exact execProbeAck_queues
  · exact execProbeNak_queues
  · exact execAdvance_queues
  · exact execReady_queues
  · exact execFault_queues
  · exact execTeardown_queues
  · exact managementRequest_queues
  · exact .next onReply_queues
  · exact .next onReply_queues

/-- R169 under every command. A request command is the MGMT-REQUEST whose body begins with its code (R172, R173). -/
theorem exec_queues (x : Instr) : AnswersQueues s (exec x s) := by
  cases x with
  | powerOnReset => exact .next powerOn_queues
  | signalPresent => exact .ite (.next (.after enterAcquire_queues (.of_eq rfl))) (.next (.of_eq rfl))
  | signalLost => exact execSignalLost_queues
  | carrierPresent => exact .ite (.next (.after localUp_queues (.of_eq rfl))) (.next (.of_eq rfl))
  | carrierLost => exact .ite (.next (.after leaveUp_queues (.of_eq rfl))) (.next (.of_eq rfl))
  | burstReport => exact .take takeBurst_queues
  | rxFrameRejected => exact execRxFrameRejected_queues
  | hello => exact execHello_queues
  | setup => exact execSetup_queues
  | setupAck => exact execSetupAck_queues
  | setupReject => exact execSetupReject_queues
  | probe => exact execProbe_queues
  | probeAck => exact execProbeAck_queues
  | probeNak => exact execProbeNak_queues
  | advance => exact execAdvance_queues
  | ready => exact execReady_queues
  | fault => exact execFault_queues
  | teardown => exact execTeardown_queues
  | forwarding h kind =>
    cases kind
    exacts [managementRequest_queues, .next onReply_queues, .next onReply_queues]
  | responseEventDelivery => exact .next onReply_queues
  | unknownRequestCode => exact requestAs_queues
  | tableRead h p => exact requestAs_queues (hd := h) (body := 0x01 :: p)
  | faceDescriptorWrite h p => exact tableWriteAs_queues (hd := h) (body := 1 :: p)
  | blockDescriptorWrite h p => exact tableWriteAs_queues (hd := h) (body := 2 :: p)
  | slotEntryWrite h p => exact tableWriteAs_queues (hd := h) (body := 3 :: p)
  | faceSettingsWrite h p => exact tableWriteAs_queues (hd := h) (body := 4 :: p)
  | profileWrite h p => exact tableWriteAs_queues (hd := h) (body := 5 :: p)
  | elementWrite h p => exact tableWriteAs_queues (hd := h) (body := 6 :: p)
  | routeWrite h p => exact tableWriteAs_queues (hd := h) (body := 7 :: p)
  | nodeSettingsWrite h p => exact tableWriteAs_queues (hd := h) (body := 8 :: p)
  | flagsClear h p => exact requestAs_queues (hd := h) (body := 0x03 :: p)
  | commission h p => exact requestAs_queues (hd := h) (body := 0x10 :: p)
  | withdraw h p => exact requestAs_queues (hd := h) (body := 0x11 :: p)
  | adopt h p => exact requestAs_queues (hd := h) (body := 0x12 :: p)
  | contextRead h p => exact requestAs_queues (hd := h) (body := 0x13 :: p)
  | contextList h p => exact requestAs_queues (hd := h) (body := 0x14 :: p)
  | contextDiscard h p => exact requestAs_queues (hd := h) (body := 0x15 :: p)
  | elementRead h p => exact requestAs_queues (hd := h) (body := 0x20 :: p)
  | elementRevive h p => exact requestAs_queues (hd := h) (body := 0x21 :: p)
  | capabilityIdentify h p => exact requestAs_queues (hd := h) (body := 0x30 :: p)
  | capabilitySet h p => exact requestAs_queues (hd := h) (body := 0x31 :: p)
  | capabilityRestore h p => exact requestAs_queues (hd := h) (body := 0x32 :: p)
  | capabilityFreeze h p => exact requestAs_queues (hd := h) (body := 0x33 :: p)
  | countersRead h p => exact requestAs_queues (hd := h) (body := 0x40 :: p)
  | nodeReset h p => exact requestAs_queues (hd := h) (body := 0x50 :: p)
  | helloTimerExpiry => exact .ite (.next (.after .beside handFrame_queues)) (.next (.refl s))
  | deadTimerExpiry => exact .ite (.take leaveUp_queues) (.next (.refl s))
  | deadlineExpiry => exact .take deadlineExpired_queues
  | probeDwellExpiry => exact .take probeDwellExpired_queues
  | probeWindowExpiry => exact .next probeWindowExpired_queues
  | stepDwellExpiry => exact .take (.of_eq (stepDwellExpired_ports ..))
  | auditTimerExpiry => exact .take (.of_eq (auditExpired_ports ..))
  | settlePeriodEnd => exact .ite (.next (.of_eq (arbitrate_ports _))) (.next (.refl s))
  | turnaroundEnd => exact execTurnaroundEnd_queues
  | elementAnswer => exact execElementAnswer_queues
  | responseTimeout => exact execResponseTimeout_queues
  | transmissionEnd => exact execTransmissionEnd_queues

end

/-- Settles O10: a hand-over and the end of a frame keep the law of their port (`Port.QueuesFit.hand`,
`Port.startNext_fits`), a port that leaves UP and a reset empty the queues, and nothing else touches queues or line. -/
theorem everyStepKeepsQueuesSound : Obligations.EveryStepKeepsQueuesSound := by
  intro s t hsound hstep
  unfold step at hstep
  split at hstep
  · cases hstep
    exact hsound
  · exact exec_queues _ t hstep hsound

end Sys2Proof.Machine
end

section
/-! CERTIFICATE. Signal and carrier at a port that is not a line port in UP (O5). -/
namespace Sys2Proof.Machine

section
variable (p : Nat) (s : State)

/-- R161: a HELLO handed over and the HELLO timer started, as one change of the port. -/
theorem startHelloTimer_sendHello : startHelloTimer p (sendHello p s) = s.modPort p fun x =>
    { x.hand (adjacentFrame .hello (helloBody s.switch.nodeId p) s) with
      helloTimer := some (s.now + (s.faceSet p).helloInterval) } := State.modPort_modPort ..

/-- R161: the entry into ACQUIRE as one change of the port. -/
theorem enterAcquire_eq : enterAcquire p s = s.modPort p fun x =>
    { ({ x with link := .acquire, acq := none } : Port).hand
        (adjacentFrame .hello (helloBody s.switch.nodeId p) s) with
      helloTimer := some (s.now + (s.faceSet p).helloInterval) } :=
  (startHelloTimer_sendHello p _).trans (State.modPort_modPort ..)

/-- R163, R164: the local port leaves UP with no record to fault. -/
theorem leaveUp_local (acq : Option Acq) : leaveUp 8 .down acq s =
    event (evLinkChange 8 .down (s.port 8).neighbour) (s.modPort 8 fun x =>
      { x.flush with link := .down, neighbour := none, acq := acq, deadTimer := none, helloTimer := none }) := rfl

end

/-- Settles O5: each pin's command by the port's link state. -/
theorem signalAndCarrierTaken : Obligations.SignalAndCarrierTaken := by
  refine ⟨fun s => ⟨fun p => ?_, ?_⟩, fun s => ⟨fun p => ⟨fun hdown => ?_, fun hacq => ?_⟩,
    fun hlink => ?_, fun hup => ?_⟩⟩
  · by_cases h : (s.port p).link = .down ∧ nodeIdValid s = true
    · rw [if_pos h]
      exact (if_pos h).trans (congrArg Host.Outcome.next (enterAcquire_eq ..))
    · rw [if_neg h]
      exact if_neg h
  · by_cases h : (s.port 8).link = .down ∧ nodeIdValid s = true
    · rw [if_pos h]
      exact if_pos h
    · rw [if_neg h]
      exact if_neg h
  · change execSignalLost p s = _
    simp only [execSignalLost, show (({ s with pins := { s.pins with signal := s.pins.signal.set p false } } :
      State).port p).link = .down from hdown]
  · change execSignalLost p s = _
    simp only [execSignalLost, show (({ s with pins := { s.pins with signal := s.pins.signal.set p false } } :
      State).port p).link = .acquire from hacq]
  · exact if_neg hlink
  · exact (if_pos hup).trans (congrArg Host.Outcome.next (leaveUp_local ..))

end Sys2Proof.Machine
end

section
/-! CERTIFICATE. The HELLO timer, a dead timer that is not due, and the end of a transmission (O8). -/
namespace Sys2Proof.Machine

/-- R169: the line freed and the next frame started, by what waits. -/
theorem Port.startNext_freed (x : Port) (k : PortCounters) :
    Port.startNext { x with line := none, counters := k } = match x.urgent, x.bulk with
      | g :: r, _ => { x with line := some g, urgent := r, counters := k }
      | [], g :: r => { x with line := some g, bulk := r, counters := k }
      | [], [] => { x with line := none, counters := k } := by
  obtain ⟨link, nb, acq, ht, dt, urgent, bulk, line, counters⟩ := x
  cases urgent <;> cases bulk <;> rfl

/-- Settles O8: an expiry acts where its timer is due, and a transmission's end where a frame is on the line. -/
theorem helloTimerAndTransmissionEnd : Obligations.HelloTimerAndTransmissionEnd := by
  refine fun s => ⟨fun p => ⟨?_, fun h => if_neg h⟩, fun p => ⟨fun hline => ?_, fun f hline => ?_⟩⟩
  · by_cases h : due (s.port p).helloTimer s.now = true ∧ (s.port p).link ≠ .down
    · rw [if_pos h]
      exact (if_pos h).trans (congrArg Host.Outcome.next (startHelloTimer_sendHello ..))
    · rw [if_neg h]
      exact if_neg h
  · change execTransmissionEnd p s = _
    simp only [execTransmissionEnd, hline]
  · change execTransmissionEnd p s = _
    simp only [execTransmissionEnd, hline]
    exact congrArg (fun g => Host.Outcome.next (s.modPort p g)) (funext fun x => Port.startNext_freed x _)

end Sys2Proof.Machine
end

section
/-! CERTIFICATE. Received bytes that fail the CRC check or are malformed (O11). -/
namespace Sys2Proof.Machine

section
variable {bytes : List Byte}

/-- R185: the received bytes end in the CRC of those before it. -/
def CrcAgrees (bytes : List Byte) : Prop :=
  bytes.drop (bytes.length - 4) = e32 (crc32 (bytes.take (bytes.length - 4))).toNat

/-- R165, check 1. -/
theorem receivedFrame_crcWrong (hcrc : ¬CrcAgrees bytes) : receivedFrame bytes = .crcWrong := if_pos (.inr hcrc)

/-- R186: too short for a header. -/
theorem receivedFrame_short (hmin : 4 ≤ bytes.length) (hshort : bytes.length < 14) (hcrc : CrcAgrees bytes) :
    receivedFrame bytes = .malformed := by
  have passes : ¬(bytes.length < 4 ∨ bytes.drop (bytes.length - 4) ≠ _) :=
    not_or.2 ⟨Nat.not_lt.2 hmin, not_not.2 hcrc⟩
  unfold receivedFrame
  dsimp only
  rw [if_neg passes]
  split
  · rename_i heq
    have hlen := congrArg List.length heq
    simp only [List.length_take, List.length_cons] at hlen
    omega
  · rfl

/-- R186, check 2: a whole header with a length, version or kind that is wrong. -/
theorem receivedFrame_badHeader {version kind len dst src hop tag : Nat} {body : List Byte}
    (hbytes : bytes.take (bytes.length - 4) =
      e8 version ++ e8 kind ++ e16 len ++ e16 dst ++ e16 src ++ e8 hop ++ e8 tag ++ body)
    (hlen : bytes.length = 14 + body.length) (hcrc : CrcAgrees bytes) (hv : version < 256) (hk : kind < 256)
    (hl : len < 65536)
    (hbad : version ≠ 1 ∨ len ≠ bytes.length ∨ 1024 < len ∨ FrameKind.ofCode kind = none) :
    receivedFrame bytes = .malformed := by
  have passes : ¬(bytes.length < 4 ∨ bytes.drop (bytes.length - 4) ≠ _) :=
    not_or.2 ⟨by omega, not_not.2 hcrc⟩
  have hversion : BitVec.ofNat 8 version = 1#8 ↔ version = 1 := by
    rw [← BitVec.toNat_inj, toNat_ofNat8, Nat.mod_eq_of_lt hv]
    rfl
  have hlength : len / 256 % 256 * 256 + len % 256 = len := by omega
  unfold receivedFrame
  dsimp only
  rw [if_neg passes, hbytes]
  simp only [e8, e16, List.cons_append, List.nil_append, ne_eq, hversion, toNat_ofNat8, hlength,
    Nat.mod_eq_of_lt hk]
  by_cases hcheck : ¬len = bytes.length ∨ ¬version = 1 ∨ len < 14 ∨ 1024 < len
  · rw [if_pos hcheck]
  · rw [if_neg hcheck]
    have hkind : FrameKind.ofCode kind = none := by
      rcases hbad with h | h | h | h
      · exact absurd (.inr (.inl h)) hcheck
      · exact absurd (.inl h) hcheck
      · exact absurd (.inr (.inr (.inr h))) hcheck
      · exact h
    rw [hkind]

end

section
variable {p : Fin 9} {bytes : List Byte} {s : State}

theorem exec_crcWrong (h : receivedFrame bytes = .crcWrong) :
    exec (.rxFrameRejected p bytes) s = .next (s.modPort p fun x =>
      { x with counters := { x.counters with rx := bump x.counters.rx, crc := bump x.counters.crc } }) := by
  change execRxFrameRejected p bytes s = _
  simp only [execRxFrameRejected, h, countCrc, countRx, State.modPort_modPort]

theorem exec_malformed (h : receivedFrame bytes = .malformed) :
    exec (.rxFrameRejected p bytes) s = .next (s.modPort p fun x =>
      { x with counters := { x.counters with rx := bump x.counters.rx, malformed := bump x.counters.malformed } }) := by
  change execRxFrameRejected p bytes s = _
  simp only [execRxFrameRejected, h, malformed, countRx, State.modPort_modPort]

end

/-- Settles O11: what the reception makes of the bytes, and the counters of each outcome. -/
theorem rejectedFramesCounted : Obligations.RejectedFramesCounted := fun _ _ _ =>
  ⟨fun _ hcrc => exec_crcWrong (receivedFrame_crcWrong hcrc),
    fun hmin hshort hcrc => exec_malformed (receivedFrame_short hmin hshort hcrc),
    fun _ _ _ _ _ _ _ _ hbytes hlen hcrc hv hk hl hbad =>
      exec_malformed (receivedFrame_badHeader hbytes hlen hcrc hv hk hl hbad)⟩

end Sys2Proof.Machine
end

section
/-! CERTIFICATE. The screening of management requests (O14). -/
namespace Sys2Proof.Machine

section
variable {h : Hdr} {s : State} {k : FrameKind} {body : List Byte} {own adj : State → State}

/-! ## A management frame that is not for this node (R165, R166) -/

theorem onMgmt_notUp (hup : (s.port h.port).link ≠ .up) :
    onMgmt h k body own adj s = countNotUp h.port (countRx h.port s) := receive_notUp hup _

/-- R166: a frame addressed to node ID 0, which no node has. -/
theorem onMgmt_toNone (hup : (s.port h.port).link = .up) (hd : h.dst = 0#16) (hn : s.switch.nodeId ≠ 0) :
    onMgmt h k body own adj s = malformed h.port (countRx h.port s) := by
  have hzero : h.dst.toNat = 0 := by rw [hd]; rfl
  have hid : ¬h.dst.toNat = (countRx h.port s).switch.nodeId := fun e => hn (e.symm.trans hzero)
  have hadjacent : ¬h.dst.toNat = Config.adjacent := by rw [hzero]; decide
  simp only [onMgmt, receive_up hup]
  rw [if_neg hid, if_neg hadjacent, if_pos hzero]

/-- R166: a frame for another node. -/
theorem onMgmt_elsewhere (hup : (s.port h.port).link = .up) (h0 : h.dst ≠ 0#16) (ha : h.dst ≠ 65535#16)
    (hn : h.dst.toNat ≠ s.switch.nodeId) :
    onMgmt h k body own adj s = forwardFrame h.port (frameOf h k body) (countRx h.port s) := by
  have hzero : ¬h.dst.toNat = 0 := fun e => h0 (BitVec.eq_of_toNat_eq e)
  have hadjacent : ¬h.dst.toNat = Config.adjacent := fun e => ha (BitVec.eq_of_toNat_eq e)
  have hid : ¬h.dst.toNat = (countRx h.port s).switch.nodeId := hn
  simp only [onMgmt, receive_up hup]
  rw [if_neg hid, if_neg hadjacent, if_neg hzero]

end

/-- R152: at rest the arbiter has nothing to choose. -/
theorem arbitrate_of_atRest {t : State} (ht : AtRest t) : arbitrate t = t := by
  have ⟨hw, htold, _⟩ := ht
  rw [← endTake_of_nil hw htold, endTake_of_atRest ht]

/-- R186: the body that must be empty. -/
theorem parseEmpty_isSome (l : List Byte) : (parseEmpty l).isSome = l.isEmpty := by cases l <;> rfl

/-- Every management request is screened by its header and by whether its body is well formed before its own rule
(R165, R166, R172), and ends its take as a state at rest stands. -/
theorem exec_requestParts {c : Instr} {r : RequestParts} (hc : requestParts c = some r) :
    ∃ (α : Type) (x : Option α) (k : α → State → State) (finish : State → State), x.isSome = r.good ∧
      (∀ t, AtRest t → finish t = t) ∧
      ∀ s, exec c s = .next (finish (onRequest r.hdr r.code r.rest x k s)) := by
  cases c <;> simp only [requestParts, reduceCtorEq, Option.some.injEq] at hc
  all_goals subst hc
  case withdraw | contextDiscard | elementRead =>
    exact ⟨_, _, _, endTake, rfl, fun _ => endTake_of_atRest, fun _ => rfl⟩
  case nodeReset => exact ⟨_, _, _, arbitrate, parseEmpty_isSome _, fun _ => arbitrate_of_atRest, fun _ => rfl⟩
  case capabilityIdentify | capabilityRestore | capabilityFreeze =>
    exact ⟨_, _, _, id, parseEmpty_isSome _, fun _ _ => rfl, fun _ => rfl⟩
  all_goals exact ⟨_, _, _, id, rfl, fun _ _ => rfl, fun _ => rfl⟩

/-- Settles O14: what the screening makes of each request, and the end of a take that asked and told nothing. -/
theorem requestsScreened : Obligations.RequestsScreened := by
  intro c r s hrest hc
  obtain ⟨α, x, k, finish, hgood, hfinish, hexec⟩ := exec_requestParts hc
  have screened {t : State} (ht : onRequest r.hdr r.code r.rest x k s = t) (hw : t.work = s.work)
      (htold : t.told = s.told) (hb : t.bus = s.bus) : exec c s = .next t := by
    rw [hexec, ht, hfinish t (hrest.of_eq hw htold hb)]
  refine ⟨fun hup => screened (onMgmt_notUp hup) rfl rfl rfl, fun hfor hbad => ?_,
    fun hup hd hn => screened (onMgmt_toNone hup hd hn) rfl rfl rfl, fun hup h0 ha hn => ?_⟩
  · obtain rfl : x = none := by simpa [hbad] using hgood
    exact screened (onRequest_malformed hfor ..) rfl rfl rfl
  · refine screened (onMgmt_elsewhere hup h0 ha hn) ?_ ?_ ?_ <;> rw [forwardFrame_frame] <;> rfl

end Sys2Proof.Machine
end

section
/-! CERTIFICATE. Management frames forwarded by the route table, replies delivered, and requests that name nothing
(O15). -/
namespace Sys2Proof.Machine

section
variable {s : State} {d : Nat} {f : Frame}

/-! ## The route table (R167) -/

theorem Route.accepts_iff {r : Route} : r.accepts d = true ↔ r.valid = true ∧ r.base &&& r.mask = d &&& r.mask := by
  simp [Route.accepts]

/-- R167: the lowest entry that accepts the destination gives the port. -/
theorem routeOf_first {i : Nat} (hi : i < 32) (ha : (s.switch.routes.get i).accepts d = true)
    (hlow : ∀ j, j < i → ¬(s.switch.routes.get j).accepts d = true) :
    routeOf s d = some (s.switch.routes.get i).port := by
  have found : (List.range 32).find? (fun j => (s.switch.routes.get j).accepts d) = some i :=
    List.find?_range_eq_some.2 ⟨ha, List.mem_range.2 hi, fun j hj => by simpa using hlow j hj⟩
  have hfind : ((List.range 32).map s.switch.routes.get).find? (fun r => r.accepts d) =
      some (s.switch.routes.get i) := by
    rw [List.find?_map, Function.comp_def, found, Option.map_some]
  rw [routeOf, hfind]

/-- R167: with no entry that accepts the destination the default port is taken. -/
theorem routeOf_default (hnone : ∀ j, j < 32 → ¬(s.switch.routes.get j).accepts d = true) :
    routeOf s d = s.switch.settings.defaultPort := by
  have hfind : ((List.range 32).map s.switch.routes.get).find? (fun r => r.accepts d) = none := by
    simpa [List.find?_eq_none] using hnone
  rw [routeOf, hfind]

/-! ## Forwarding -/

theorem forwardFrame_exhausted {p : Nat} (h : f.hop ≤ 1) : forwardFrame p f s = countHopLimit p s := if_pos h

theorem forwardFrame_routed {p : Nat} (h : 2 ≤ f.hop) :
    forwardFrame p f s = routeFrame { f with hop := f.hop - 1 } s := if_neg (by omega)

theorem routeFrame_of_some {p : Nat} (h : routeOf s f.dst = some p) : routeFrame f s = handFrame p f s := by
  rw [routeFrame, h]

theorem routeFrame_of_none (h : routeOf s f.dst = none) : routeFrame f s = countNoRoute s := by rw [routeFrame, h]

end

section
variable {h : Hdr} {s : State} {body : List Byte}

/-- R167: a management frame for another node, of each kind. -/
theorem exec_forwarding {k : MgmtKind} {fk : FrameKind}
    (hk : (k, fk) ∈ [(MgmtKind.request, FrameKind.mgmtRequest), (.response, .mgmtResponse), (.event, .event)])
    (hup : (s.port h.port).link = .up) (h0 : h.dst ≠ 0#16) (ha : h.dst ≠ 65535#16)
    (hn : h.dst.toNat ≠ s.switch.nodeId) :
    exec (.forwarding h k body) s = .next (forwardFrame h.port (frameOf h fk body) (countRx h.port s)) := by
  have hadjacent : h.dst.toNat ≠ Config.adjacent := fun e => ha (BitVec.eq_of_toNat_eq e)
  simp only [List.mem_cons, Prod.mk.injEq, List.not_mem_nil, or_false] at hk
  rcases hk with ⟨rfl, rfl⟩ | ⟨rfl, rfl⟩ | ⟨rfl, rfl⟩
  · exact (if_neg (not_or.2 ⟨hn, hadjacent⟩)).trans (congrArg Host.Outcome.next (onMgmt_elsewhere hup h0 ha hn))
  · exact congrArg Host.Outcome.next (onMgmt_elsewhere hup h0 ha hn)
  · exact congrArg Host.Outcome.next (onMgmt_elsewhere hup h0 ha hn)

/-! ## Replies (R166) -/

/-- R166: a reply for this node goes out of port 8. -/
theorem onReply_own {k : FrameKind} (hup : (s.port h.port).link = .up) (hn : h.dst.toNat = s.switch.nodeId) :
    onReply h k body s = handFrame 8 (frameOf h k body) (countRx h.port s) := by
  simp only [onReply, onMgmt, receive_up hup]
  exact if_pos hn

/-- R166: a reply is never addressed ADJACENT. -/
theorem onReply_adjacent {k : FrameKind} (hup : (s.port h.port).link = .up) (ha : h.dst = 65535#16)
    (hn : s.switch.nodeId ≠ 65535) : onReply h k body s = malformed h.port (countRx h.port s) := by
  have hadjacent : h.dst.toNat = Config.adjacent := by rw [ha]; rfl
  have hid : ¬h.dst.toNat = (countRx h.port s).switch.nodeId := fun e => hn (e.symm.trans hadjacent)
  simp only [onReply, onMgmt, receive_up hup]
  exact (if_neg hid).trans (if_pos hadjacent)

/-! ## Requests that name nothing (R172, R173) -/

/-- R173: a TABLE WRITE whose table code is none of the eight. -/
theorem tableWriteAs_unknown {rest : List Byte} (hf : ForNode h s)
    (hrest : ∀ t params, rest = t :: params → ¬(1 ≤ t.toNat ∧ t.toNat ≤ 8)) :
    tableWriteAs h rest s = .next (respond h reqTableWrite .badRequest [] (countRx h.port s)) := by
  cases rest with
  | nil => exact congrArg Host.Outcome.next (onRequest_malformed hf ..)
  | cons t params =>
    have hcode := hrest t params rfl
    unfold tableWriteAs
    dsimp only
    split
    case h_9 => exact congrArg Host.Outcome.next (onRequest_malformed hf ..)
    all_goals omega

/-- R172: a request code that names no request. -/
theorem requestAs_unknown {c : Byte} {rest : List Byte} (hf : ForNode h s) (hn : namesRequest (c :: rest) = false) :
    requestAs h (c :: rest) s = .next (respond h c.toNat .badRequest [] (countRx h.port s)) := by
  have unknown : c.toNat ∉ knownRequestCodes ∧
      ∀ t params, rest = t :: params → ¬(c.toNat = reqTableWrite ∧ 1 ≤ t.toNat ∧ t.toNat ≤ 8) := by
    cases rest with
    | nil => exact ⟨by simpa [namesRequest] using hn, nofun⟩
    | cons t params =>
      simp only [namesRequest, Bool.or_eq_false_iff, Bool.and_eq_false_iff, decide_eq_false_iff_not] at hn
      refine ⟨by simpa using hn.1, fun t' params' e => ?_⟩
      obtain ⟨rfl, rfl⟩ := List.cons.inj e
      tauto
  obtain ⟨hcode, htable⟩ := unknown
  unfold requestAs
  dsimp only
  split
  case h_2 hc =>
    rw [hc]
    exact tableWriteAs_unknown hf fun t params e ht => htable t params e ⟨hc, ht⟩
  case h_18 => exact congrArg Host.Outcome.next (onRequest_malformed hf ..)
  all_goals
    rename_i hc
    exact absurd (hc ▸ by decide) hcode

end

/-- Settles O15: forwarding by hop limit and route, replies by destination, and requests that name nothing. -/
theorem managementFramesSwitched : Obligations.ManagementFramesSwitched := by
  intro h body s hup
  refine ⟨fun k fk hk h0 ha hn => ?_, fun k fk hk => ?_, fun hf hnames => ⟨fun c rest hbody => ?_, fun hbody => ?_⟩⟩
  · rw [exec_forwarding hk hup h0 ha hn]
    refine ⟨fun hhop => congrArg Host.Outcome.next (forwardFrame_exhausted hhop), fun i r hhop hi hr hv hm hlow => ?_,
      fun hhop hnone => ?_⟩ <;> rw [forwardFrame_routed (f := frameOf h fk body) hhop]
    · subst hr
      exact congrArg Host.Outcome.next (routeFrame_of_some (routeOf_first (s := countRx h.port s) hi
        (Route.accepts_iff.2 ⟨hv, hm⟩) fun j hj hacc =>
          hlow j hj (Route.accepts_iff.1 hacc).1 (Route.accepts_iff.1 hacc).2))
    · have hroute : routeOf (countRx h.port s) h.dst.toNat = s.switch.settings.defaultPort :=
        routeOf_default fun j hj hacc => hnone j hj (Route.accepts_iff.1 hacc).1 (Route.accepts_iff.1 hacc).2
      cases hdefault : s.switch.settings.defaultPort with
      | none => exact congrArg Host.Outcome.next (routeFrame_of_none (hroute.trans hdefault))
      | some p => exact congrArg Host.Outcome.next (routeFrame_of_some (hroute.trans hdefault))
  · have delivered : exec (.responseEventDelivery h k body) s = .next (onReply h fk body s) := by
      simp only [List.mem_cons, Prod.mk.injEq, List.not_mem_nil, or_false] at hk
      rcases hk with ⟨rfl, rfl⟩ | ⟨rfl, rfl⟩ <;> rfl
    rw [delivered]
    exact ⟨fun hn => congrArg Host.Outcome.next (onReply_own hup hn),
      fun ha hn => congrArg Host.Outcome.next (onReply_adjacent hup ha hn)⟩
  · subst hbody
    exact requestAs_unknown hf hnames
  · subst hbody
    exact congrArg Host.Outcome.next (onMgmt_forNode hf ..)

end Sys2Proof.Machine
end

section
/-! CERTIFICATE. Power-on reset (O4): the line ports one by one, then the local port. -/
namespace Sys2Proof.Machine

/-! ## The line ports (R160, R161) -/

/-- R160, R161: what the end of the power-on reset makes of line port `p`. -/
def Port.poweredOn (s : State) (p : Nat) (x : Port) : Port :=
  if nodeIdValid s = true ∧ s.pins.signal.get p = true then
    { ({ x with link := .acquire, acq := none } : Port).hand
        (adjacentFrame .hello (helloBody s.switch.nodeId p) s) with
      helloTimer := some (s.now + (s.faceSet p).helloInterval) }
  else x

section
variable {s t : State}

theorem powerOnLine_frame (p : Nat) (s : State) :
    powerOnLine p s = { s with ports := (powerOnLine p s).ports } := by
  unfold powerOnLine
  split <;> rfl

theorem powerOnLine_port (p j : Nat) (s : State) :
    (powerOnLine p s).port j = if j = p then (s.port p).poweredOn s p else s.port j := by
  by_cases h : nodeIdValid s = true ∧ s.pins.signal.get p = true
  · have hstarts : powerOnLine p s = enterAcquire p s := if_pos (by simpa using h)
    rw [hstarts, enterAcquire_eq, State.modPort_port, Port.poweredOn, if_pos h]
  · have hstays : powerOnLine p s = s := if_neg (by simpa using h)
    rw [hstays, Port.poweredOn, if_neg h]
    split_ifs with hj
    · rw [hj]
    · rfl

/-- The line ports started one after another: the ports alone change, each started once. -/
theorem foldl_powerOnLine {l : List Nat} (hl : l.Nodup) (s : State) :
    l.foldl (fun t p => powerOnLine p t) s =
        { s with ports := (l.foldl (fun t p => powerOnLine p t) s).ports } ∧
      ∀ j, (l.foldl (fun t p => powerOnLine p t) s).port j =
        if j ∈ l then (s.port j).poweredOn s j else s.port j := by
  induction l generalizing s with
  | nil => exact ⟨rfl, fun _ => rfl⟩
  | cons p r ih =>
    obtain ⟨hp, hr⟩ := List.nodup_cons.1 hl
    obtain ⟨hframe, hports⟩ := ih hr (powerOnLine p s)
    have same (x : Port) (j : Nat) : x.poweredOn (powerOnLine p s) j = x.poweredOn s j := by
      rw [powerOnLine_frame]
      rfl
    refine ⟨?_, fun j => ?_⟩
    · rw [List.foldl_cons, hframe, powerOnLine_frame]
    · rw [List.foldl_cons, hports, same, powerOnLine_port]
      by_cases hj : j = p
      · subst hj
        simp [hp]
      · simp [hj]

end

/-! ## The whole of the reset -/

/-- R160: every table, queue, timer and counter at its power-on value, before a port starts. -/
def poweredDown (straps : Nat) (s : State) : State :=
  { State.resetWith straps with pins := s.pins, pending := s.pending,
                                bus := { ElementBus.reset with serial := s.bus.serial } }

/-- R160: the line ports started. -/
def linesStarted (straps : Nat) (s : State) : State :=
  (List.range 8).foldl (fun t p => powerOnLine p t) (poweredDown straps s)

section
variable {s : State} {n : Nat}

theorem linesStarted_frame (n : Nat) (s : State) :
    ∃ ports, linesStarted n s = { poweredDown n s with ports := ports } :=
  ⟨_, (foldl_powerOnLine List.nodup_range _).1⟩

theorem linesStarted_port (p : Nat) :
    (linesStarted n s).port p = if p < 8 then Port.initial.poweredOn (poweredDown n s) p else Port.initial := by
  rw [linesStarted, (foldl_powerOnLine List.nodup_range _).2]
  simp only [List.mem_range]
  rfl

/-- R170: after power-on there is no report destination, so the LINK_CHANGE of the local port is not built. -/
theorem localUp_linesStarted :
    localUp (linesStarted n s) = (linesStarted n s).modPort 8 fun x => { x with link := .up } := by
  obtain ⟨ports, hports⟩ := linesStarted_frame n s
  rw [hports]
  rfl

theorem powerOn_eq : powerOn n s = if nodeIdValid (poweredDown n s) = true ∧ s.pins.carrier = true then
    (linesStarted n s).modPort 8 fun x => { x with link := .up } else linesStarted n s := by
  have hstarts : (nodeIdValid (linesStarted n s) && (linesStarted n s).pins.carrier) =
      (nodeIdValid (poweredDown n s) && s.pins.carrier) := by
    obtain ⟨ports, hports⟩ := linesStarted_frame n s
    rw [hports]
    rfl
  have hpower : powerOn n s = if nodeIdValid (linesStarted n s) && (linesStarted n s).pins.carrier then
      localUp (linesStarted n s) else linesStarted n s := by
    unfold powerOn linesStarted poweredDown
    rfl
  rw [hpower, hstarts, localUp_linesStarted]
  simp only [Bool.and_eq_true]

/-- R160: the straps that let the ports leave DOWN. -/
theorem nodeIdValid_straps (straps : BitVec 16) :
    nodeIdValid (poweredDown straps.toNat s) = true ↔ straps ≠ 0#16 ∧ straps ≠ 65535#16 := by
  simp only [← BitVec.toNat_inj, ne_eq]
  change (decide (straps.toNat ≠ 0) && decide (straps.toNat ≠ 65535)) = true ↔ _
  simp

end

/-- Settles O4: the state before a port starts, and what the start of the ports makes of it. -/
theorem powerOnResetStartsPorts : Obligations.PowerOnResetStartsPorts := by
  intro straps s
  refine ⟨powerOn straps.toNat s, rfl, ?_, fun p hp => ?_, ?_⟩
  · rw [powerOn_eq]
    obtain ⟨ports, hports⟩ := linesStarted_frame straps.toNat s
    rw [hports]
    split_ifs <;> rfl
  · have hport : (powerOn straps.toNat s).port p = (linesStarted straps.toNat s).port p := by
      rw [powerOn_eq]
      split_ifs
      · rw [State.modPort_port, if_neg (by omega)]
      · rfl
    rw [hport, linesStarted_port, if_pos hp, Port.poweredOn]
    simp only [nodeIdValid_straps, and_assoc]
    rfl
  · rw [powerOn_eq]
    simp only [nodeIdValid_straps, and_assoc]
    split_ifs
    · rw [State.modPort_port, if_pos rfl, linesStarted_port]
      rfl
    · rw [linesStarted_port]
      rfl

end Sys2Proof.Machine
end

section
/-! CERTIFICATE. HELLO and the link machine of a line port (O7). -/
namespace Sys2Proof.Machine

section
variable {h : Hdr} {body : List Byte} {n np : Nat} {s t : State}

/-! ## What a HELLO is judged by -/

theorem countRx_port (p : Nat) (s : State) : (countRx p s).port p =
    { s.port p with counters := { (s.port p).counters with rx := bump (s.port p).counters.rx } } := by
  rw [countRx, State.modPort_port, if_pos rfl]

/-- R161, R164: a HELLO at the local port, one that is not well formed, or a loopback. -/
theorem takeHello_bad {p : Nat}
    (hbad : p = 8 ∨ parseHello body = none ∨ ∃ m, parseHello body = some (s.switch.nodeId, m)) :
    takeHello p body s = malformed p s := by
  unfold takeHello
  by_cases hp : p = 8
  · exact if_pos hp
  · rw [if_neg hp]
    rcases hbad.resolve_left hp with hnone | ⟨m, hself⟩
    · rw [hnone]
    · rw [hself]
      exact if_pos rfl

/-- R161: a HELLO of another node at a line port is judged by the port's link. -/
theorem takeHello_line {p : Nat} (hp : p < 8) (hparse : parseHello body = some (n, np)) (hn : n ≠ s.switch.nodeId) :
    takeHello p body s = lineHello p n np s := by
  unfold takeHello
  rw [if_neg (by omega), hparse]
  exact if_neg hn

/-- R162: the third HELLO of one candidate. -/
theorem enterUp_modPort (p : Nat) (g : Port → Port) (s : State) : enterUp p n np (s.modPort p g) =
    event (evLinkChange p .up (some (n, np))) (s.modPort p fun x =>
      { g x with link := .up, neighbour := some (n, np),
                 deadTimer := some (s.now + 3 * (s.faceSet p).helloInterval) }) :=
  congrArg (event _) (State.modPort_modPort ..)

/-! ## A HELLO by the link of its port (R161 to R163) -/

section
variable {p : Nat} {a : Acq}

theorem lineHello_down (hdown : (s.port p).link = .down) : lineHello p n np s = s := by
  simp only [lineHello, hdown]

/-- R161: a HELLO of the candidate in time counts; the third takes the port UP. -/
theorem lineHello_counts (hacq : (s.port p).link = .acquire) (ha : (s.port p).acq = some a) (hcand : a.cand = n)
    (htime : s.now ≤ a.time + 3 * (s.faceSet p).helloInterval) :
    lineHello p n np s = if 3 ≤ a.count + 1 then
      enterUp p n np (s.modPort p fun x => { x with acq := some ⟨n, a.count + 1, s.now⟩ })
      else s.modPort p fun x => { x with acq := some ⟨n, a.count + 1, s.now⟩ } := by
  have intime : withinThree (helloInterval s p) a.time s.now = true := decide_eq_true htime
  simp only [lineHello, hacq, ha, hcand, intime, and_self, if_true]

/-- R161: a HELLO of another node, or one too late, is the first of its candidate. -/
theorem lineHello_restarts (hacq : (s.port p).link = .acquire)
    (hother : ∀ a, (s.port p).acq = some a →
      a.cand ≠ n ∨ a.time + 3 * (s.faceSet p).helloInterval < s.now) :
    lineHello p n np s = s.modPort p fun x => { x with acq := some ⟨n, 1, s.now⟩ } := by
  unfold lineHello
  simp only [hacq]
  cases ha : (s.port p).acq with
  | none => rfl
  | some a =>
    refine if_neg fun hcounts => ?_
    obtain ⟨hcand, intime⟩ := hcounts
    exact (hother a ha).elim (fun h => h hcand) fun h => Nat.not_le.2 h (of_decide_eq_true intime)

/-- R163: in UP a HELLO of the neighbour restarts the dead timer. -/
theorem lineHello_neighbour {m : Nat} (hup : (s.port p).link = .up) (hnb : (s.port p).neighbour = some (n, m)) :
    lineHello p n np s = s.modPort p fun x =>
      { x with neighbour := some (n, np), deadTimer := some (s.now + 3 * (s.faceSet p).helloInterval) } := by
  simp only [lineHello, hup, hnb, Option.map_some, if_true]
  rfl

end

/-! ## The take of a HELLO -/

/-- The take of a HELLO whose rule asks and tells nothing ends where its rule leaves it. -/
theorem exec_hello (hr : AtRest s) (ht : takeHello h.port body (countRx h.port s) = t) (hw : t.work = s.work)
    (htold : t.told = s.told) (hb : t.bus = s.bus) : exec (.hello h body) s = .next t := by
  change Host.Outcome.next (endTake (receive h.port true (takeHello h.port body) s)) = _
  rw [receive_hello, ht, endTake_of_eq hr hw htold hb]

/-- R163: a HELLO from another node takes an UP line port back to ACQUIRE, as leaving UP does (O6). -/
theorem exec_hello_otherNode (hr : AtRest s) (hp : h.port.val < 8) (hparse : parseHello body = some (n, np))
    (hn : n ≠ s.switch.nodeId) (hup : (s.port h.port).link = .up) {n' m : Nat}
    (hnb : (s.port h.port).neighbour = some (n', m)) (hother : n' ≠ n) :
    ∃ t, exec (.hello h body) s = .next t ∧ (t.port h.port).link = .acquire ∧
      (t.port h.port).acq = some ⟨n, 1, s.now⟩ ∧ (t.port h.port).neighbour = none ∧
      (t.port h.port).urgent = [] ∧ (t.port h.port).bulk = [] := by
  have named : (s.port h.port).neighbour.map (·.1) ≠ some n := by
    rw [hnb]
    exact fun e => hother (Option.some.inj e)
  obtain ⟨t, -, hexec, -, -, -, hlink, hnone, -, hacq, hurgent, hbulk, -⟩ :=
    leavingUpFaultsNamedContexts.1 ⟨h.port.val, hp⟩ s (.hello h body) .acquire (some ⟨n, 1, s.now⟩) hup hr.1 hr.2.1
      (.inr (.inr ⟨h, body, n, np, rfl, rfl, hparse, hn, named, rfl, rfl⟩))
  exact ⟨t, hexec, hlink, hacq, hnone, hurgent, hbulk⟩

end

/-- Settles O7: a bad HELLO, and one of another node by the link of its port. -/
theorem helloMovesLinkMachine : Obligations.HelloMovesLinkMachine := by
  refine ⟨fun h body s hr hbad => exec_hello hr (takeHello_bad hbad) rfl rfl rfl,
    fun h body n np s hr hp hparse hn => ?_⟩
  have judged {t : State} (ht : lineHello h.port n np (countRx h.port s) = t) :
      takeHello h.port body (countRx h.port s) = t :=
    (takeHello_line (s := countRx h.port s) hp hparse hn).trans ht
  have counted := countRx_port h.port s
  refine ⟨fun hdown => ?_, fun hacq => ⟨fun a ha hcand htime => ?_, fun hother => ?_⟩,
    fun hup => ⟨fun m hnb => ?_, fun n' m hnb hother => exec_hello_otherNode hr hp hparse hn hup hnb hother⟩⟩
  · exact exec_hello hr (judged (lineHello_down (by rw [counted]; exact hdown))) rfl rfl rfl
  · have counts := judged (lineHello_counts (np := np) (by rw [counted]; exact hacq) (by rw [counted]; exact ha) hcand
      htime)
    refine ⟨fun hfew => exec_hello hr (counts.trans (if_neg (by omega))) rfl rfl rfl, fun hthird => ?_⟩
    refine exec_hello hr (counts.trans ((if_pos hthird).trans (enterUp_modPort ..))) ?_ ?_ ?_ <;>
      rw [event_frame] <;> rfl
  · exact exec_hello hr (judged (lineHello_restarts (by rw [counted]; exact hacq)
      fun a ha => hother a (by rw [counted] at ha; exact ha))) rfl rfl rfl
  · exact exec_hello hr (judged (lineHello_neighbour (by rw [counted]; exact hup) (by rw [counted]; exact hnb)))
      rfl rfl rfl

end Sys2Proof.Machine
end
